-- ==== Sys2Proof/Word.lean ====
section
/-! DEFINITION. The words of the CP22 and their plainest arithmetic: bytes, the 24-bit time of CAP's counter (R1), intervals
modulo 2^24, saturation and clamping as the Conventions of spec/00_scope.md define them, and expiries. -/

namespace Sys2Proof

/-- A byte of a station line frame or of a stored record. -/
abbrev Byte := BitVec 8

/-- A reading of CAP's 24-bit time counter, in ticks of 0.5 µs (R1). -/
abbrev Time := BitVec 24

/-- The interval from `since` to `now`: every interval is a difference modulo 2^24 (R1). -/
def elapsed (now since : Time) : Nat := (now - since).toNat

/-- One more, staying at `top` once it is reached (Conventions: "Counters that saturate stay at their maximum"). -/
def satInc (top n : Nat) : Nat := min top (n + 1)

/-- clamp(x, lo, hi) on integers (Conventions). -/
def clampInt (lo hi x : Int) : Int := max lo (min hi x)

/-- clamp(x, lo, hi) on naturals (Conventions). -/
def clampNat (lo hi x : Nat) : Nat := max lo (min hi x)

/-- An expiry: `len` ticks after `start`. The expiry time the spec names is `start + len`. It is kept as a start and a length
because intervals up to 10,000,000 ticks (R190) are more than half of the counter's range. -/
structure Timer where
  start : Time
  len   : Nat
  deriving DecidableEq, Repr


/-- The optional expiry is present and reached at `now`. -/
def dueAt (t : Option Timer) (now : Time) : Bool :=
  match t with
  | some t => decide (t.len ≤ elapsed now t.start)
  | none => false

/-- The expiry that follows one just reached, a whole period after it (R128, R178). -/
def Timer.again (t : Timer) : Timer := { t with start := t.start + BitVec.ofNat 24 t.len }

end Sys2Proof
end

