-- ==== Sys2Proof/Syntax.lean ====
section
/-! DEFINITION. The commands of the CP22: one constructor of `Instr` per row of spec/opcode_table.json, in the table's order,
with the operands a row needs from outside (which cam, a conversion's count, a frame's bytes, the strap levels). What a command
does is in Machine/; nothing of it is here. -/

namespace Sys2Proof

/-- The two cams, and with them the two valve channels (Conventions: "The two cams are called I and E"). -/
inductive Cam where
  | i
  | e
  deriving DecidableEq, Repr

/-- The other cam of the station. -/
def Cam.other : Cam → Cam
  | .i => .e
  | .e => .i

/-- One value for each cam. -/
structure PerCam (α : Type) where
  i : α
  e : α
  deriving DecidableEq, Repr

/-- The same value for both cams. -/
def PerCam.both {α : Type} (a : α) : PerCam α := ⟨a, a⟩

def PerCam.get {α : Type} (p : PerCam α) : Cam → α
  | .i => p.i
  | .e => p.e

def PerCam.set {α : Type} (p : PerCam α) (c : Cam) (a : α) : PerCam α :=
  match c with
  | .i => { p with i := a }
  | .e => { p with e := a }

def PerCam.modify {α : Type} (p : PerCam α) (c : Cam) (f : α → α) : PerCam α := p.set c (f (p.get c))

/-- The causes of a reset (R191). -/
inductive ResetCause where
  | powerOn
  | supplyDip
  | resetLine
  deriving DecidableEq, Repr

/-- The strap pins (Pins and straps): station number 0..7, bit cell code 0..3, pressure sensor fitted, exhaust cam fitted. -/
structure Straps where
  station : Fin 8
  bitCode : Fin 4
  psf     : Bool
  xcf     : Bool
  deriving DecidableEq, Repr

/-- The commands: the steps of spec/opcode_table.json. A command carries only what comes from outside the part. A step that
takes its data from the part's own queues and buffers (the edge FIFO, the receive buffers, the transmit queue) carries none. -/
inductive Instr where
  /-- CRANK_EDGE (R3): a falling edge of the conditioned crank signal now. -/
  | crankEdge
  /-- CAM_EDGE (R4): a rising edge on CAMI or CAME now. -/
  | camEdge (c : Cam)
  /-- CRANK_FILTER_FORGET (R3). -/
  | crankFilterForget
  /-- CAM_FILTER_FORGET (R4). -/
  | camFilterForget (c : Cam)
  /-- TAKE_CRANK_ENTRY (R22). -/
  | takeCrankEntry
  /-- TAKE_CAM_ENTRY (R29). -/
  | takeCamEntry
  /-- TAKE_OVERFLOW_MARKER (R42). -/
  | takeOverflowMarker
  /-- STALL_TIMEOUT (R21). -/
  | stallTimeout
  /-- CYCLE_REPORT (R39). -/
  | cycleReport
  /-- COIL_CURRENT_CONVERSION (R11), with the converter's count. -/
  | coilCurrentConversion (c : Cam) (count : BitVec 12)
  /-- SUPPLY_CONVERSION (R12), with the converter's count. -/
  | supplyConversion (count : BitVec 12)
  /-- PRESSURE_CONVERSION (R13), with the converter's count. -/
  | pressureConversion (count : BitVec 12)
  /-- TEMPERATURE_CONVERSION (R15), with the converter's count. -/
  | temperatureConversion (count : BitVec 12)
  /-- SCAN_PASS_START (R10). -/
  | scanPassStart
  /-- DEMAND_FRAME (R70). -/
  | demandFrame
  /-- DEMAND_TIMEOUT (R73). -/
  | demandTimeout
  /-- HOLD_EXPIRY (R75). -/
  | holdExpiry
  /-- RELEASE_EXPIRY (R86). -/
  | releaseExpiry (c : Cam)
  /-- RESTED_MARK (R80). -/
  | restedMark (c : Cam)
  /-- SHARE_FRAME (R130). -/
  | shareFrame
  /-- SHARE_TIMER (R128). -/
  | shareTimer
  /-- PEER_STALE (R135) of the record of one station. -/
  | peerStale (station : Fin 8)
  /-- PEER_DELETE (R136) of the record of one station. -/
  | peerDelete (station : Fin 8)
  /-- PERIOD_BOUNDARY (R145) of one channel. -/
  | periodBoundary (c : Cam)
  /-- ON_TIME_END (R148) of one channel. -/
  | onTimeEnd (c : Cam)
  /-- CURRENT_TRIP (R150): the trip comparator of one channel sees this coil current, in mA. -/
  | currentTrip (c : Cam) (milliamps : Nat)
  /-- SUPPLY_LOW_EXPIRY (R154). -/
  | supplyLowExpiry
  /-- SUPPLY_RECOVERY_EXPIRY (R153). -/
  | supplyRecoveryExpiry
  /-- FRAMING_ERROR (R159). -/
  | framingError
  /-- LINE_IDLE (R160): the line has been recessive for 12Tb. -/
  | lineIdle
  /-- LINE_HELD (R161): a low has lasted 16Tb. -/
  | lineHeld
  /-- FRAME_RECEIVED (R165), with the sampled bytes of the frame, its CRC included. -/
  | frameReceived (bytes : List Byte)
  /-- TRANSMIT_START (R168). -/
  | transmitStart
  /-- ARBITRATION_LOSS (R169). -/
  | arbitrationLoss
  /-- BIT_ERROR (R170). -/
  | bitError
  /-- TRANSMIT_COMPLETE (R171). -/
  | transmitComplete
  /-- LISTEN_EXPIRY (R172). -/
  | listenExpiry
  /-- STATUS_TIMER (R178). -/
  | statusTimer
  /-- READ_CAM (R188). -/
  | readCam
  /-- READ_TRACKER (R188). -/
  | readTracker
  /-- READ_PEER (R139). -/
  | readPeer
  /-- READ_CONDITION (R188). -/
  | readCondition
  /-- READ_COUNTERS (R188). -/
  | readCounters
  /-- READ_SETTING (R187). -/
  | readSetting
  /-- WRITE_SETTING (R187). -/
  | writeSetting
  /-- LEARN_PARK (R60). -/
  | learnPark
  /-- CLEAR_CONDITIONS (R180). -/
  | clearConditions
  /-- UNKNOWN_REQUEST (R187). -/
  | unknownRequest
  /-- STORE_WRITE_START (R185). -/
  | storeWriteStart
  /-- STORE_WRITE_END (R185), with the bytes read back from the store. -/
  | storeWriteEnd (readBack : List Byte)
  /-- STOP_TIMER (R189). -/
  | stopTimer
  /-- QUIET_TIMER (R190). -/
  | quietTimer
  /-- WAKE_EDGE (R172, R190): a falling edge on SLN or on the crank signal, which one it does not say (log 14). -/
  | wakeEdge
  /-- WAKE_COMPLETE (R190). -/
  | wakeComplete
  /-- RESET (R191): this cause is asserted. -/
  | reset (cause : ResetCause)
  /-- RESET_RELEASE (R191): the last asserted cause ends. -/
  | resetRelease
  /-- START_DELAY_END (R191), with the levels at the strap pins. -/
  | startDelayEnd (pins : Straps)
  /-- STORE_LOAD_COMPLETE (R184). -/
  | storeLoadComplete
  /-- LINE_FALLING_EDGE (R160): another station pulls SLN low now. The edges the part drives itself come in its own time
(notes/assumptions/14.md). -/
  | lineFallingEdge
  /-- START_OF_FRAME (R160): the other stations release SLN now, the rising edge that ends a low measured in START; in any other
state of the receiver the low of other stations ends, judged in FRAME by R159 (notes/assumptions/14.md). -/
  | startOfFrame
  deriving DecidableEq, Repr

end Sys2Proof
end

