-- ==== Sys2Proof/Config.lean ====
section
/-! DEFINITION. What is fixed for one part from the store load to the next reset: the settings of the CONFIG record with their
defaults (R15, R46, R76, R94, R118, R142), and the two values the spec leaves open (free values with no body). -/

namespace Sys2Proof

/-- A half of the engine cycle (Crank angle: half A is cycle angles 0..5759, half B 5760..11519). -/
inductive Half where
  | a
  | b
  deriving DecidableEq, Repr, Inhabited

/-- The half that follows (R34). -/
def Half.next : Half → Half
  | .a => .b
  | .b => .a

/-- The half a SYNC frame carries when it is composed while the half is undecided. The spec states no value for this case
(notes/assumptions/5.md), so this is a FREE VALUE: nothing constrains it. It is applied to `State.freeDraws`. -/
opaque Config.freeHalf : Nat → Half

/-- The moving bits READ_PEER shows of a record in which no SHARE has been filed. They are absent then (section 6.6) and the
spec states no code for them (notes/assumptions/6.md), so this is a FREE VALUE, applied to `State.freeDraws`. -/
opaque Config.freeMoving : Nat → BitVec 16

/-- The settings of one cam: reference angles and edge counts (R46), authority limit (R76). -/
structure CamSettings where
  ref0  : Nat
  ref1  : Nat
  ref2  : Nat
  ref3  : Nat
  nA    : Nat
  nB    : Nat
  limit : Nat
  deriving DecidableEq, Repr

/-- The four reference angles in the order of their edge index (R46). -/
def CamSettings.refs (k : CamSettings) : List Nat := [k.ref0, k.ref1, k.ref2, k.ref3]

/-- A point of the temperature table (section 1.8). -/
structure TempPoint where
  count : Nat
  temp  : Int
  deriving DecidableEq, Repr

/-- The settings, in the spec's own names. -/
structure Settings where
  cams          : PerCam CamSettings
  t1            : TempPoint
  t2            : TempPoint
  t3            : TempPoint
  t4            : TempPoint
  t5            : TempPoint
  t6            : TempPoint
  t7            : TempPoint
  t8            : TempPoint
  tCold         : Int
  lCold         : Nat
  rpmMinPhase   : Nat
  rpmMaxLearn   : Nat
  slew          : Nat
  parkBand      : Nat
  releaseTime   : Nat
  releaseOffset : Nat
  demandTimeout : Nat
  lossReaction  : Nat
  kp            : Nat
  ki            : Nat
  deadband      : Nat
  iLim          : Nat
  aMax          : Nat
  aMin          : Nat
  pFloor        : Nat
  pFull         : Nat
  fFallback     : Nat
  pwmFreq       : Nat
  ditherAmp     : Nat
  ditherLen     : Nat
  iTrip         : Nat
  deriving DecidableEq, Repr

/-- The temperature table in the order of its points (section 1.8). -/
def Settings.tempTable (st : Settings) : List TempPoint :=
  [st.t1, st.t2, st.t3, st.t4, st.t5, st.t6, st.t7, st.t8]

/-- Every setting at its default (the setting tables of chapters 1, 3, 4, 5, 6 and 7). -/
def Settings.default : Settings where
  cams := { i := ⟨1280, 2720, 4160, 9920, 3, 1, 800⟩, e := ⟨320, 1760, 3200, 8960, 3, 1, 800⟩ }
  t1 := ⟨3900, -30⟩
  t2 := ⟨3600, -10⟩
  t3 := ⟨3100, 10⟩
  t4 := ⟨2500, 30⟩
  t5 := ⟨1850, 50⟩
  t6 := ⟨1250, 70⟩
  t7 := ⟨800, 90⟩
  t8 := ⟨480, 110⟩
  tCold := 10
  lCold := 240
  rpmMinPhase := 1000
  rpmMaxLearn := 3000
  slew := 300
  parkBand := 32
  releaseTime := 50
  releaseOffset := 80
  demandTimeout := 100
  lossReaction := 0
  kp := 40
  ki := 48
  deadband := 4
  iLim := 200
  aMax := 400
  aMin := 60
  pFloor := 80
  pFull := 300
  fFallback := 250
  pwmFreq := 1
  ditherAmp := 40
  ditherLen := 1
  iTrip := 2

end Sys2Proof
end

