-- ==== Sys2Proof/Machine/Crc.lean ====
section
/-! DEFINITION. The CRC of the station line (R164), which also forms the check of a stored record (R182), and big-endian bytes. -/

namespace Sys2Proof.Machine

/-- One bit into the register: compare with the top bit, shift toward the top, combine with 1021 hex if they differed (R164). -/
def crcBit (reg : BitVec 16) (bit : Bool) : BitVec 16 :=
  if reg.msb != bit then (reg <<< 1) ^^^ 0x1021#16 else reg <<< 1

/-- One byte into the register, most significant bit first (R164). -/
def crcByte (reg : BitVec 16) (b : Byte) : BitVec 16 :=
  [7, 6, 5, 4, 3, 2, 1, 0].foldl (fun r k => crcBit r (b.getLsbD k)) reg

/-- The CRC of the covered bytes, in the order they are sent: the register starts with every bit set (R164). -/
def crc16 (bytes : List Byte) : BitVec 16 := bytes.foldl crcByte 0xFFFF#16

/-- A 16-bit number as two bytes, high byte first (Conventions). -/
def bytes16 (v : BitVec 16) : List Byte := [v.extractLsb' 8 8, v.extractLsb' 0 8]

/-- A value as 16 bits, two's complement, high byte first (R188). -/
def value16 (x : Int) : List Byte := bytes16 (BitVec.ofInt 16 x)

/-- Two bytes read high byte first. -/
def word16 (hi lo : Byte) : Nat := hi.toNat * 256 + lo.toNat

/-- A number read from bytes, high byte first. -/
def numOfBytes (bytes : List Byte) : Nat := bytes.foldl (fun acc b => acc * 256 + b.toNat) 0

/-- A number as `k` bytes, high byte first. -/
def bytesOfNum : Nat → Nat → List Byte
  | 0, _ => []
  | k + 1, n => bytesOfNum k (n / 256) ++ [BitVec.ofNat 8 n]

/-- The bytes followed by their CRC, high byte first: a frame's bytes 1 to 4 + n (R162), a stored record (R182). -/
def withCrc (bytes : List Byte) : List Byte := bytes ++ bytes16 (crc16 bytes)

/-- The last two bytes are the CRC of the bytes before them (R163, R184). -/
def crcMatches (bytes : List Byte) : Bool :=
  decide (bytes = withCrc (bytes.take (bytes.length - 2)))

/-- The bits of bytes in the order they are sent, each byte most significant bit first (R162). -/
def bitsOf (bytes : List Byte) : List Bool :=
  bytes.flatMap (fun b => [7, 6, 5, 4, 3, 2, 1, 0].map (fun k => b.getLsbD k))

/-- The bytes that sampled bits make, eight at a time (R163). -/
def bytesOfBits : List Bool → List Byte
  | b7 :: b6 :: b5 :: b4 :: b3 :: b2 :: b1 :: b0 :: rest =>
    BitVec.ofBoolListBE [b7, b6, b5, b4, b3, b2, b1, b0] :: bytesOfBits rest
  | _ => []

end Sys2Proof.Machine
end

