-- ==== Sys2Proof/Machine/Settings.lean ====
section
/-! DEFINITION. The CONFIG record: the packing of its setting groups (R182), decoding with clamping to range (R184), the load
checks (R17, R48, R94, R118), and the CAM records (R182, R184). -/

namespace Sys2Proof.Machine

/-! ## Bit packing (R182: "most significant bit first, in the order listed, each with the width given in bits") -/

/-- Values packed most significant first, each in its width. -/
def packBits : List (Nat × Nat) → Nat
  | [] => 0
  | (_, v) :: rest => v * 2 ^ (rest.map Prod.fst).sum + packBits rest

/-- The values packed in the widths, most significant first. -/
def unpackBits : List Nat → Nat → List Nat
  | [], _ => []
  | w :: ws, n => n / 2 ^ ws.sum % 2 ^ w :: unpackBits ws n

/-- The widths of a group's settings in the order of R182's table, the left-over bits of the group last. -/
def groupWidths : Nat → List Nat
  | 0 => [14, 14, 14, 14, 3, 3, 2]
  | 1 => [14, 14, 14, 14, 3, 3, 2]
  | 2 => [12, 8, 12, 8, 12, 8, 4]
  | 3 => [12, 8, 12, 8, 12, 8, 4]
  | 4 => [12, 8, 12, 8, 8, 10, 6]
  | 5 => [10, 10, 13, 13, 10, 7, 1]
  | 6 => [8, 8, 10, 2, 8, 8, 6, 9, 5]
  | 7 => [9, 9, 10, 10, 10, 2, 7, 2, 2, 3]
  | _ => []

/-- A temperature as it is stored: plus 40 (R182). -/
def storedTemp (t : Int) : Nat := (t + 40).toNat

/-- A stored temperature. -/
def tempOfStored (n : Nat) : Int := (n : Int) - 40

/-- A group's settings in the order of R182's table, the left-over bits as 0. -/
def groupValues (st : Settings) : Nat → List Nat
  | 0 => [st.cams.i.ref0, st.cams.i.ref1, st.cams.i.ref2, st.cams.i.ref3, st.cams.i.nA, st.cams.i.nB, 0]
  | 1 => [st.cams.e.ref0, st.cams.e.ref1, st.cams.e.ref2, st.cams.e.ref3, st.cams.e.nA, st.cams.e.nB, 0]
  | 2 => [st.t1.count, storedTemp st.t1.temp, st.t2.count, storedTemp st.t2.temp, st.t3.count, storedTemp st.t3.temp, 0]
  | 3 => [st.t4.count, storedTemp st.t4.temp, st.t5.count, storedTemp st.t5.temp, st.t6.count, storedTemp st.t6.temp, 0]
  | 4 => [st.t7.count, storedTemp st.t7.temp, st.t8.count, storedTemp st.t8.temp, storedTemp st.tCold, st.lCold, 0]
  | 5 => [st.cams.i.limit, st.cams.e.limit, st.rpmMinPhase, st.rpmMaxLearn, st.slew, st.parkBand, 0]
  | 6 => [st.releaseTime, st.releaseOffset, st.demandTimeout, st.lossReaction, st.kp, st.ki, st.deadband, st.iLim, 0]
  | 7 => [st.aMax, st.aMin, st.pFloor, st.pFull, st.fFallback, st.pwmFreq, st.ditherAmp, st.ditherLen, st.iTrip, 0]
  | _ => []

/-- The 8 bytes of a group of the settings (R182). -/
def encodeGroup (st : Settings) (g : Nat) : List Byte :=
  bytesOfNum 8 (packBits ((groupWidths g).zip (groupValues st g)))

/-- The 64 bytes of the CONFIG image that encodes the settings: groups 0..7 (R182). -/
def encodeSettings (st : Settings) : List Byte :=
  [0, 1, 2, 3, 4, 5, 6, 7].flatMap (encodeGroup st)

/-- The bytes of a group in a CONFIG image. -/
def groupBytes (image : List Byte) (g : Nat) : List Byte := (image.drop (8 * g)).take 8

/-- The bytes of a group as they are read: the bits left over at its end as 0 (R182). -/
def groupRead (image : List Byte) (g : Nat) : List Byte :=
  let leftOver := 2 ^ (groupWidths g).getLastD 0
  bytesOfNum 8 (numOfBytes (groupBytes image g) / leftOver * leftOver)

/-- A CONFIG image with the bytes of one group replaced (R187, WRITE_SETTING). -/
def replaceGroup (image : List Byte) (g : Nat) (bytes : List Byte) : List Byte :=
  image.take (8 * g) ++ bytes ++ image.drop (8 * g + 8)

/-- The k-th setting of group g as it stands in the image, before clamping. -/
def rawSetting (image : List Byte) (g k : Nat) : Nat :=
  (unpackBits (groupWidths g) (numOfBytes (groupBytes image g))).getD k 0

/-- The reference angles and counts of a cam from its group, clamped (R46), and its authority limit, clamped (R76). -/
def decodeCam (image : List Byte) (g k : Nat) : CamSettings where
  ref0 := clampNat 0 11519 (rawSetting image g 0)
  ref1 := clampNat 0 11519 (rawSetting image g 1)
  ref2 := clampNat 0 11519 (rawSetting image g 2)
  ref3 := clampNat 0 11519 (rawSetting image g 3)
  nA := clampNat 0 4 (rawSetting image g 4)
  nB := clampNat 0 4 (rawSetting image g 5)
  limit := clampNat 0 800 (rawSetting image 5 k)

/-- A temperature point from its group, clamped (section 1.8). -/
def decodePoint (image : List Byte) (g k : Nat) : TempPoint where
  count := clampNat 0 4095 (rawSetting image g k)
  temp := clampInt (-40) 150 (tempOfStored (rawSetting image g (k + 1)))

/-- Each setting decoded and clamped to its range (R184). -/
def decodeSettings (image : List Byte) : Settings where
  cams := { i := decodeCam image 0 0, e := decodeCam image 1 1 }
  t1 := decodePoint image 2 0
  t2 := decodePoint image 2 2
  t3 := decodePoint image 2 4
  t4 := decodePoint image 3 0
  t5 := decodePoint image 3 2
  t6 := decodePoint image 3 4
  t7 := decodePoint image 4 0
  t8 := decodePoint image 4 2
  tCold := clampInt (-40) 60 (tempOfStored (rawSetting image 4 4))
  lCold := clampNat 0 800 (rawSetting image 4 5)
  rpmMinPhase := clampNat 500 6000 (rawSetting image 5 2)
  rpmMaxLearn := clampNat 700 6000 (rawSetting image 5 3)
  slew := clampNat 10 1000 (rawSetting image 5 4)
  parkBand := clampNat 8 64 (rawSetting image 5 5)
  releaseTime := clampNat 10 250 (rawSetting image 6 0)
  releaseOffset := clampNat 0 200 (rawSetting image 6 1)
  demandTimeout := clampNat 20 1000 (rawSetting image 6 2)
  lossReaction := clampNat 0 1 (rawSetting image 6 3)
  kp := clampNat 0 255 (rawSetting image 6 4)
  ki := clampNat 0 255 (rawSetting image 6 5)
  deadband := clampNat 0 32 (rawSetting image 6 6)
  iLim := clampNat 0 300 (rawSetting image 6 7)
  aMax := clampNat 20 500 (rawSetting image 7 0)
  aMin := clampNat 0 500 (rawSetting image 7 1)
  pFloor := clampNat 0 900 (rawSetting image 7 2)
  pFull := clampNat 100 1000 (rawSetting image 7 3)
  fFallback := clampNat 0 1000 (rawSetting image 7 4)
  pwmFreq := clampNat 0 2 (rawSetting image 7 5)
  ditherAmp := clampNat 0 100 (rawSetting image 7 6)
  ditherLen := clampNat 0 3 (rawSetting image 7 7)
  iTrip := clampNat 0 3 (rawSetting image 7 8)

/-! ## Windows (R47) and load checks -/

/-- The ends of the window of a reference angle (R47): the wide side lies where the phaser moves a mark away from park. -/
def window (c : Cam) (ref : Nat) : Int × Int :=
  match c with
  | .i => ((ref : Int) - 960, (ref : Int) + 128)
  | .e => ((ref : Int) - 128, (ref : Int) + 960)

/-- The window lies wholly within one revolution (R48). -/
def windowInRevolution (w : Int × Int) : Bool :=
  decide ((0 ≤ w.1 ∧ w.2 ≤ 5759) ∨ (5760 ≤ w.1 ∧ w.2 ≤ 11519))

/-- The two windows share no cycle angle (R48). -/
def windowsApart (v w : Int × Int) : Bool := decide (v.2 < w.1 ∨ w.2 < v.1)

/-- The checks of R48 on one cam. -/
def camWindowsOk (c : Cam) (k : CamSettings) : Bool :=
  let ws := k.refs.map (window c)
  ws.all windowInRevolution && decide (ws.Pairwise (fun v w => windowsApart v w = true)) && decide (k.nA ≠ k.nB)

/-- The counts of the temperature table fall strictly from point 1 to point 8 (R17). -/
def tempTableOk (st : Settings) : Bool :=
  decide ((st.tempTable.map TempPoint.count).Pairwise (fun a b => b < a))

/-- All load checks on CONFIG, made after clamping (R184: R17, R48, R94, R118). -/
def loadChecks (st : Settings) : Bool :=
  tempTableOk st && camWindowsOk .i st.cams.i && camWindowsOk .e st.cams.e
    && decide (st.aMin ≤ st.aMax) && decide (st.pFloor < st.pFull)

/-! ## Stored copies -/

/-- A stored copy in the non-volatile store. `torn` is a copy that a reset left part-written: it fails its check at the next
load whatever bytes it holds (R185). -/
inductive Stored where
  | whole (bytes : List Byte)
  | torn
  deriving DecidableEq, Repr

/-- The bytes of a stored copy whose size and check are right (R184). -/
def Stored.checked (size : Nat) : Stored → Option (List Byte)
  | .whole bytes => if bytes.length = size ∧ crcMatches bytes = true then some (bytes.take (size - 2)) else none
  | .torn => none

/-- What the load makes of CONFIG: the settings in use, the image, and whether it faulted (its dirty and fault marks) (R184). -/
def loadConfig (stored : Stored) : Settings × List Byte × Bool :=
  match stored.checked 66 with
  | some image =>
    if loadChecks (decodeSettings image) = true then (decodeSettings image, image, false)
    else (Settings.default, encodeSettings Settings.default, true)
  | none => (Settings.default, encodeSettings Settings.default, true)

/-- The contents of a CAM record (R182): the learned offset, whether it is learned, and the hold duty. -/
structure CamRecord where
  offset  : Int
  learned : Bool
  hold    : Nat
  deriving DecidableEq, Repr

/-- The defaults of a CAM record (R184). -/
def CamRecord.default : CamRecord := ⟨0, false, 500⟩

/-- The 6 bytes of a CAM record, its spare bytes written as 0 (R182). -/
def CamRecord.encode (r : CamRecord) : List Byte :=
  [BitVec.ofInt 8 r.offset, if r.learned then 1 else 0] ++ bytesOfNum 2 r.hold ++ [0, 0]

/-- The CAM record the bytes hold, or none where its offset, status or hold duty is out of range (R184). -/
def CamRecord.decode (bytes : List Byte) : Option CamRecord :=
  let offset := (bytes.getD 0 0).toInt
  let status := (bytes.getD 1 0).toNat
  let hold := word16 (bytes.getD 2 0) (bytes.getD 3 0)
  if -96 ≤ offset ∧ offset ≤ 96 ∧ status ≤ 1 ∧ 300 ≤ hold ∧ hold ≤ 700 then some ⟨offset, decide (status = 1), hold⟩ else none

/-- What the load makes of a CAM record: its contents, the image, and whether it faulted (R184). -/
def loadCam (stored : Stored) : CamRecord × List Byte × Bool :=
  match stored.checked 8 with
  | some image =>
    match CamRecord.decode image with
    | some r => (r, image, false)
    | none => (CamRecord.default, CamRecord.default.encode, true)
  | none => (CamRecord.default, CamRecord.default.encode, true)

end Sys2Proof.Machine
end

