-- ==== Sys2Proof/Machine/State.lean ====
section
/-! DEFINITION. The state of a CP22: every piece of state spec/ gives each of the twelve blocks, as plain data, with its value
after a reset, and the reasons a command can stop. A quantity the spec lists as held that is always a function of other fields
(the value of a full window, D_s, the effective target, the presented code, a peer's age)
is computed from them where it is used; INVENTORY.md names each. -/

namespace Sys2Proof.Machine

/-! ## CAP: capture unit (chapter 1) -/

/-- The source of an edge FIFO entry (section 1.4). -/
inductive Source where
  | crank
  | cam (c : Cam)
  | overflow
  deriving DecidableEq, Repr

/-- An entry of the edge FIFO (section 1.4). -/
structure Entry where
  source : Source
  time   : Time
  deriving DecidableEq, Repr

/-- CAP's state but the time counter (R3, R4, R5, R8, section 1.5). The head of the FIFO is the head of the list. -/
structure Cap where
  crankLast       : Option Time := none
  pLast           : Option Nat := none
  camLast         : PerCam (Option Time) := .both none
  fifo            : List Entry := []
  overflowPending : Bool := false
  crankNoise      : Nat := 0
  camNoise        : PerCam Nat := .both 0
  overflows       : Nat := 0
  deriving DecidableEq, Repr

/-! ## SCAN: analog scan unit (chapter 1) -/

/-- The positions of the rotation, in order (R9). -/
inductive Channel where
  | coil (c : Cam)
  | supply
  | pressure
  | temperature
  deriving DecidableEq, Repr

/-- A conversion in progress (R9). -/
structure Conversion where
  channel : Channel
  start   : Time
  deriving DecidableEq, Repr

/-- The coil current counts of a channel's current period (R11). -/
structure CoilSum where
  sum : Nat := 0
  n   : Nat := 0
  deriving DecidableEq, Repr

/-- SCAN's state: the conversion in progress (none between passes and while the scan is stopped), the start of the latest pass,
the passes of a wake still to be completed (R10), and the windows, oldest count first (R11 to R15). -/
structure Scan where
  conversion  : Option Conversion := none
  passStart   : Option Time := none
  wakePasses  : Nat := 0
  coil        : PerCam CoilSum := .both {}
  supply      : List Nat := []
  pressure    : List Nat := []
  temperature : List Nat := []
  deriving DecidableEq, Repr

/-! ## TRK: angle tracker (chapter 2) -/

/-- The tracker state (section 2.2). -/
inductive TrkState where
  | stopped
  | seek
  | crankSync
  | cycleSync
  deriving DecidableEq, Repr

/-- TRK's record (section 2.2, R18, R44). `half` is none while undecided. -/
structure Trk where
  state        : TrkState := .stopped
  lastCrank    : Option Time := none
  tPrev        : Option Nat := none
  tooth        : Nat := 0
  toothTime    : Option Time := none
  pitch        : Nat := 0
  half         : Option Half := none
  revStart     : Time := 0
  revComplete  : Bool := false
  camCounts    : PerCam Nat := .both 0
  rpm          : Nat := 0
  toothErrors  : Nat := 0
  undecided    : Nat := 0
  cycleErrRun  : Nat := 0
  adopted      : Bool := false
  stallRef     : Option Time := none
  mismatches   : Nat := 0
  adoptions    : Nat := 0
  deriving DecidableEq, Repr

/-! ## PHM: phase meter (chapter 3) -/

/-- The learn status of a cam (R58). -/
inductive LearnStatus where
  | notLearned
  | learning
  | learned
  deriving DecidableEq, Repr

/-- How a learn run was started (R65). -/
inductive LearnOrigin where
  | automatic
  | requested
  deriving DecidableEq, Repr

/-- How a learn run ended (R65). -/
inductive LearnOutcome where
  | ok
  | spread
  | range
  | aborted
  deriving DecidableEq, Repr

/-- The last learn result; spread and rounded mean are absent for ABORTED (R65). -/
structure LearnResult where
  outcome   : LearnOutcome
  collected : Nat
  spread    : Option Nat
  mean      : Option Int
  origin    : LearnOrigin
  deriving DecidableEq, Repr

/-- The measurement record (R55). -/
structure Measurement where
  phase : Int
  edge  : Nat
  angle : Nat
  raw   : Int
  time  : Time
  deriving DecidableEq, Repr

/-- PHM's record of one cam (section 3.1, R45, R67). `runOrigin` is how the run in progress was started, present only while
LEARNING: the last learn result needs it (R65). -/
structure Phm where
  offset       : Int := 0
  status       : LearnStatus := .notLearned
  statusBefore : Option LearnStatus := none
  runOrigin    : Option LearnOrigin := none
  learnDone    : Bool := false
  collector    : List Int := []
  lastResult   : Option LearnResult := none
  measurement  : Option Measurement := none
  tally        : Nat := 0
  wholeCycle   : Bool := false
  badRun       : Nat := 0
  goodRun      : Nat := 0
  stray        : Nat := 0
  implausible  : Nat := 0
  badCycles    : Nat := 0
  deriving DecidableEq, Repr

/-! ## CAMC: demand processor and cam control (chapter 4) -/

/-- The demand mode (R72). -/
inductive DemandMode where
  | run
  | park
  | hold
  deriving DecidableEq, Repr

/-- The loss stage (R74). -/
inductive LossStage where
  | none
  | lossHold
  | lossPark
  deriving DecidableEq, Repr

/-- The states of a cam machine (section 4.4). -/
inductive CamState where
  | off
  | parking
  | parked
  | release
  | follow
  | faulted
  deriving DecidableEq, Repr

/-- One cam's commanded target, ramp position and machine (R71, R79, R80). -/
structure CamCtl where
  state         : CamState := .off
  commanded     : Nat := 0
  ramp          : Nat := 0
  parkedAt      : Option Time := none
  rested        : Bool := false
  settleStart   : Option Time := none
  releaseExpiry : Option Timer := none
  stuck         : Nat := 0
  deriving DecidableEq, Repr

/-- CAMC's state (R70, R72 to R76, R78). `ageStart` is the moment from which the demand age runs, none while it is not timed. -/
structure Camc where
  mode       : DemandMode := .park
  loss       : LossStage := .none
  holdExpiry : Option Timer := none
  ageStart   : Option Time := none
  cold       : Bool := true
  foreign    : Nat := 0
  cams       : PerCam CamCtl := .both {}
  deriving DecidableEq, Repr

/-! ## LOOP: position loop (chapter 5) -/

/-- LOOP's record of one cam (section 5.1, R93, R116). The cam demand d_c is the one SHR holds (R100, R123). -/
structure Loop where
  integral      : Int := 0
  hold          : Nat := 500
  marked        : Nat := 500
  lastUpdate    : Time := 0
  first         : Bool := true
  lastError     : Int := 0
  authority     : Nat := 0
  lastDuty      : Nat := 0
  settled       : Nat := 0
  clamps        : Nat := 0
  windups       : Nat := 0
  holdSteps     : Nat := 0
  deriving DecidableEq, Repr

/-! ## SHR: flow share unit (chapter 6) -/

/-- The pressure source (R119). -/
inductive PressureSource where
  | own
  | peer (n : Nat)
  | none
  deriving DecidableEq, Repr

/-- A peer record's role (R134). -/
inductive Role where
  | controller
  | phase
  | other
  deriving DecidableEq, Repr

/-- What the first SHARE filed makes present in a peer record: demand, grant, reported flow, moving bits, the time of the last
SHARE, and the place of its filing in the order of all filings (R119: "judged by the order in which filings are made"). -/
structure ShareData where
  demand  : Nat
  grant   : Nat
  flow    : Nat
  moving  : PerCam Bool
  time    : Time
  filing  : Nat
  deriving DecidableEq, Repr

/-- The source of a cycle report (R37). -/
inductive ReportSource where
  | camI
  | camE
  | adopted
  | controller
  deriving DecidableEq, Repr

/-- A peer record (section 6.6). -/
structure Peer where
  station     : Nat
  role        : Role
  lastSeq     : Nat
  missed      : Nat
  lastRefresh : Time
  fresh       : Bool
  share       : Option ShareData
  pressure    : Option Nat
  report      : Option (Half × ReportSource)
  deriving DecidableEq, Repr

/-- SHR's state (section 6.1, R140). The peer table is kept by station number, lowest first. `filings` numbers the SHARE
filings. D_s is d_I + d_E (R123). -/
structure Shr where
  source        : PressureSource := .none
  pressure      : Option Nat := none
  fAvail        : Nat := 0
  demand        : PerCam Nat := .both 0
  shareTimer    : Option Timer := none
  peers         : List Peer := []
  filings       : Nat := 0
  starved       : Nat := 0
  created       : Nat := 0
  deleted       : Nat := 0
  deriving DecidableEq, Repr

/-! ## DRV: valve drivers and supply monitor (chapter 7) -/

/-- A valve driver channel (section 7.1, R141, R155). `supplyRead` is the supply value the last period open read (R156). -/
structure Drv where
  pending     : Nat := 0
  active      : Nat := 0
  applied     : Nat := 0
  ditherPhase : Nat := 1
  periodStart : Option Time := none
  tripped     : Bool := false
  tripRun     : Nat := 0
  openRun     : Nat := 0
  meanCurrent : Nat := 0
  output      : Bool := false
  supplyRead  : Nat := 0
  trips       : Nat := 0
  openPeriods : Nat := 0
  deriving DecidableEq, Repr

/-- The supply monitor (R153): WAITING while `judging` is false. -/
structure SupplyMon where
  judging        : Bool := false
  lowExpiry      : Option Timer := none
  recoveryExpiry : Option Timer := none
  deriving DecidableEq, Repr

/-! ## LINE: line controller (chapter 8) -/

/-- The frame kinds (R162). -/
inductive Kind where
  | demand
  | sync
  | share
  | request
  | reply
  | status
  deriving DecidableEq, Repr

/-- A valid frame: kind and station number of byte 1, sequence of byte 2, payload (R162). -/
structure Frame where
  kind    : Kind
  station : Nat
  seq     : Nat
  payload : List Byte
  deriving DecidableEq, Repr

/-- A frame in a receive buffer, with the time of its delivery, and whether it was delivered before the store load of the start
sequence had completed (R70, R187). -/
structure Received where
  frame : Frame
  time  : Time
  early : Bool
  deriving DecidableEq, Repr

/-- The receiver's states (R160); `off` before the straps are read and from DOZE entry to the end of the wake (R157, R172). -/
inductive Receiver where
  | off
  | waitIdle
  | idle
  | start
  | frame
  deriving DecidableEq, Repr

/-- The two receive buffers (R166). -/
inductive Buffer where
  | x
  | y
  deriving DecidableEq, Repr

/-- The four slots of the transmit queue (R167). -/
inductive Slot where
  | sync
  | share
  | reply
  | status
  deriving DecidableEq, Repr

/-- Which slots are pending (R167). -/
structure Slots where
  sync   : Bool := false
  share  : Bool := false
  reply  : Bool := false
  status : Bool := false
  deriving DecidableEq, Repr

/-- A transmission in progress: the slot it came from and the bytes composed at its start (R168). -/
structure Transmission where
  slot  : Slot
  bytes : List Byte
  deriving DecidableEq, Repr

/-- The station life state (R172). -/
inductive Life where
  | listen
  | active
  deriving DecidableEq, Repr

/-- LINE's state (R158 to R161, R166 to R173). SLN is low while another station pulls it low (`othersLow`, the MODEL's record of
what comes from outside, notes/assumptions/14.md) or the part drives it (`drive`, with its release). `lastFall` is the latest
falling edge of the line, `lastRise` the latest rising edge, each no earlier than the moment the receiver came on; `dataBits` the
data bits begun in FRAME (0 from the start of frame to the first data bit), `sampled` the bits sampled so far (a high line is
true); `lastBuffer` the buffer that took the previous valid frame; `aborting` says that the drive is the 2Tb low of a bit error
(R170). -/
structure Line where
  receiver    : Receiver := .off
  othersLow   : Bool := false
  drive       : Option Timer := none
  lastFall    : Time := 0
  lastRise    : Time := 0
  dataBits    : Nat := 0
  sampled     : List Bool := []
  bufferX     : Option Received := none
  bufferY     : Option Received := none
  lastBuffer  : Option Buffer := none
  slots       : Slots := {}
  sending     : Option Transmission := none
  aborting    : Bool := false
  txEnabled   : Bool := true
  seq         : Nat := 0
  life        : Life := .listen
  framing     : Nat := 0
  crcErrors   : Nat := 0
  malformed   : Nat := 0
  unknownKind : Nat := 0
  overruns    : Nat := 0
  received    : Nat := 0
  arbLosses   : Nat := 0
  txFailures  : Nat := 0
  sent        : Nat := 0
  deriving DecidableEq, Repr

/-! ## MON: condition monitor (chapter 9) -/

/-- The twenty conditions (R181). -/
inductive Cond where
  | coilShort (c : Cam)
  | openLoad (c : Cam)
  | supplyLow
  | phaseStuck (c : Cam)
  | demandLost
  | syncLoss
  | camPattern
  | camSignal (c : Cam)
  | pressureSensor
  | tempSensor
  | lineStuck
  | stationClash
  | peerLost
  | cycleDisagree
  | learnFailed
  | storeFault
  deriving DecidableEq, Repr

/-- A condition record (R174); its code is its place in `Mon.records` plus 1. -/
structure CondRecord where
  active  : Bool := false
  pending : Bool := false
  count   : Nat := 0
  deriving DecidableEq, Repr

/-- MON's state: the twenty records (R174), the presented code noted in the STATUS frame being sent (R177), and the status
timer (R178). -/
structure Mon where
  records     : Vector CondRecord 20 := Vector.replicate 20 {}
  noted       : Option Nat := none
  statusTimer : Option Timer := none
  deriving DecidableEq, Repr

/-! ## STORE: settings store (chapter 10) -/

/-- The three stored records (R182). -/
inductive Rec where
  | config
  | cam (c : Cam)
  deriving DecidableEq, Repr

/-- One value for each stored record. -/
structure PerRec (α : Type) where
  config : α
  cams   : PerCam α
  deriving DecidableEq, Repr

/-- The write in flight: its record, the copy of the image taken at its start (with its check), and its end time (R183). -/
structure Write where
  record  : Rec
  copy    : List Byte
  endTime : Timer
  deriving DecidableEq, Repr

/-- The volatile state of STORE (R183). The RAM images, CONFIG's being the next-start image, are empty until the load. -/
structure Store where
  configImage : List Byte := []
  camImages   : PerCam (List Byte) := .both []
  dirty       : PerRec Bool := ⟨false, .both false⟩
  fault       : PerRec Bool := ⟨false, .both false⟩
  inFlight    : Option Write := none
  completed   : Nat := 0
  verifyFails : Nat := 0
  deriving DecidableEq, Repr

/-! ## Service handling and PWR (chapter 10) -/

/-- The result codes of a REPLY (R186). -/
inductive Result where
  | ok
  | busy
  | refused
  | badRequest
  | badIndex
  deriving DecidableEq, Repr

/-- The reply record (R186, R187). -/
structure Reply where
  requester : Nat
  code      : Byte
  result    : Result
  data      : List Byte
  deriving DecidableEq, Repr

/-- Service handling: the optional reply record, and whether it is the one composed into the REPLY frame being sent (R187). -/
structure Service where
  reply    : Option Reply := none
  composed : Bool := false
  deriving DecidableEq, Repr

/-- Where the part stands: the power states STANDBY, RUN and DOZE, and the times of "neither": a reset asserted, the start
delay, the store load, and a wake (R190, R191). -/
inductive Power where
  | held
  | startDelay
  | loading
  | standby
  | run
  | doze
  | waking
  deriving DecidableEq, Repr

/-- PWR's state (section 10.3). `cause` is the recorded reset cause, `asserted` the cause last asserted in the present reset,
`sequence` the end of the start delay or of the store load, `wakeTicks` the ticks of the wake so far, timed by the detectors. -/
structure Pwr where
  power       : Power := .startDelay
  cause       : ResetCause := .powerOn
  asserted    : ResetCause := .powerOn
  sequence    : Option Timer := some ⟨0, 4000⟩
  wakeTicks   : Nat := 0
  stopTimer   : Option Timer := none
  quietTimer  : Option Timer := none
  quietMark   : Bool := false
  listenTimer : Option Timer := none
  crankMark   : Bool := false
  deriving DecidableEq, Repr

/-! ## The whole part -/

/-- The state of a CP22. `pending` is the queue of commands that are waiting, first in first out. `stored` is the non-volatile
store, which no reset changes but a write in flight (R185). `straps` are the straps as read, `settings` the settings in use.
`freeDraws` is the MODEL's own field: how many free values have been drawn (notes/assumptions/5.md). -/
structure State where
  pending   : List Instr := []
  now       : Time := 0
  straps    : Straps := ⟨0, 0, false, false⟩
  settings  : Settings := Settings.default
  cap       : Cap := {}
  scan      : Scan := {}
  trk       : Trk := {}
  phm       : PerCam Phm := .both {}
  camc      : Camc := {}
  loop      : PerCam Loop := .both {}
  shr       : Shr := {}
  drv       : PerCam Drv := .both {}
  supply    : SupplyMon := {}
  line      : Line := {}
  mon       : Mon := {}
  store     : Store := {}
  stored    : PerRec Stored
  service   : Service := {}
  pwr       : Pwr := {}
  freeDraws : Nat := 0
  deriving DecidableEq, Repr

/-- The reasons a command can stop the machine with a fault. There is none: the spec gives every command an effect in every
state, so no meaning faults and the type is empty (safe: nothing rests on a stop). -/
inductive Fault where
  deriving DecidableEq, Repr

/-- The reasons a command can be refused. -/
inductive Refusal where
  /-- A command that has no meaning yet, named by its row of spec/opcode_table.json. Raised by an arm of `exec` only (safe). No
  arm raises it: every row has its meaning. -/
  | notModelled (mnemonic : String)
  deriving DecidableEq, Repr

/-- The store as delivered: each record holds its defaults with a matching check. DESIGN CHOICE, unsafe
(notes/assumptions/4.md): the spec gives no contents for a store never written. -/
def deliveredStore : PerRec Stored where
  config := .whole (withCrc (encodeSettings Settings.default))
  cams := .both (.whole (withCrc CamRecord.default.encode))

/-- The machine right after a reset: the moment a POWER_ON reset is released, the time counter at 0 and the start delay of 2 ms
begun (R1, R191), every block as its chapter's reset rule says (R18, R45, R76, R80, R93, R117, R141, R153, R157, R161, R166,
R167, R171, R172, R174, R178, R183, R187, R191 and section 1.9). -/
def State.reset : State := { stored := deliveredStore }

end Sys2Proof.Machine
end

