-- ==== Sys2Proof/Machine/Ops.lean ====
section
/-! DEFINITION. The named operations over the state that every block uses: one update per block, per-cam updates, the transmit
queue (R167), the small questions asked of the state, and the parts of the power control that other blocks call (R189). -/

namespace Sys2Proof.Machine

/-! ## Updates, one per block -/

def State.withCap (s : State) (f : Cap → Cap) : State := { s with cap := f s.cap }

def State.withScan (s : State) (f : Scan → Scan) : State := { s with scan := f s.scan }

def State.withTrk (s : State) (f : Trk → Trk) : State := { s with trk := f s.trk }

def State.withPhm (s : State) (f : PerCam Phm → PerCam Phm) : State := { s with phm := f s.phm }

def State.withCamc (s : State) (f : Camc → Camc) : State := { s with camc := f s.camc }

def State.withLoop (s : State) (f : PerCam Loop → PerCam Loop) : State := { s with loop := f s.loop }

def State.withShr (s : State) (f : Shr → Shr) : State := { s with shr := f s.shr }

def State.withDrv (s : State) (f : PerCam Drv → PerCam Drv) : State := { s with drv := f s.drv }

def State.withSupply (s : State) (f : SupplyMon → SupplyMon) : State := { s with supply := f s.supply }

def State.withLine (s : State) (f : Line → Line) : State := { s with line := f s.line }

def State.withMon (s : State) (f : Mon → Mon) : State := { s with mon := f s.mon }

def State.withStore (s : State) (f : Store → Store) : State := { s with store := f s.store }

def State.withStored (s : State) (f : PerRec Stored → PerRec Stored) : State := { s with stored := f s.stored }

def State.withService (s : State) (f : Service → Service) : State := { s with service := f s.service }

def State.withPwr (s : State) (f : Pwr → Pwr) : State := { s with pwr := f s.pwr }

/-- The record of one cam in PHM. -/
def State.phmOf (s : State) (c : Cam) : Phm := s.phm.get c

/-- The record of one cam in CAMC. -/
def State.camOf (s : State) (c : Cam) : CamCtl := s.camc.cams.get c

/-- The record of one cam in LOOP. -/
def State.loopOf (s : State) (c : Cam) : Loop := s.loop.get c

/-- The channel of one cam. -/
def State.drvOf (s : State) (c : Cam) : Drv := s.drv.get c

/-- The settings of one cam. -/
def State.camSettings (s : State) (c : Cam) : CamSettings := s.settings.cams.get c

def State.onPhm (s : State) (c : Cam) (f : Phm → Phm) : State := s.withPhm (·.modify c f)

def State.onCam (s : State) (c : Cam) (f : CamCtl → CamCtl) : State :=
  s.withCamc (fun k => { k with cams := k.cams.modify c f })

def State.onLoop (s : State) (c : Cam) (f : Loop → Loop) : State := s.withLoop (·.modify c f)

def State.onDrv (s : State) (c : Cam) (f : Drv → Drv) : State := s.withDrv (·.modify c f)

/-- The same update for cam I, then for cam E. -/
def State.bothCams (f : Cam → State → State) (s : State) : State := f .e (f .i s)

/-! ## Questions -/

/-- The own station number (straps STA2..STA0). -/
def State.own (s : State) : Nat := s.straps.station.val

/-- The store load has completed and the part is awake: RUN or STANDBY. -/
def State.operating (s : State) : Bool := decide (s.pwr.power = .standby ∨ s.pwr.power = .run)

/-- Capture, scan and receiver are on: from the end of the start delay to the next entry to DOZE, and again from the completion
of each wake (R2, R10, R172). -/
def State.sensing (s : State) : Bool := decide (s.pwr.power = .loading ∨ s.pwr.power = .standby ∨ s.pwr.power = .run)

/-- The bit cell Tb in ticks (R157); code 3 is taken as code 1. -/
def State.tb (s : State) : Nat :=
  match s.straps.bitCode with
  | 0 => 8
  | 2 => 32
  | _ => 16

/-- No record is dirty and no write is in flight (R185). -/
def Store.clean (t : Store) : Bool :=
  !t.dirty.config && !t.dirty.cams.i && !t.dirty.cams.e && t.inFlight.isNone

def PerRec.get {α : Type} (p : PerRec α) : Rec → α
  | .config => p.config
  | .cam c => p.cams.get c

def PerRec.set {α : Type} (p : PerRec α) (r : Rec) (a : α) : PerRec α :=
  match r with
  | .config => { p with config := a }
  | .cam c => { p with cams := p.cams.set c a }

/-! ## Transmit queue (R167) -/

def Slots.get (q : Slots) : Slot → Bool
  | .sync => q.sync
  | .share => q.share
  | .reply => q.reply
  | .status => q.status

def Slots.set (q : Slots) (k : Slot) (b : Bool) : Slots :=
  match k with
  | .sync => { q with sync := b }
  | .share => { q with share := b }
  | .reply => { q with reply := b }
  | .status => { q with status := b }

/-- The pending slot with the lowest kind code: SYNC 3, SHARE 4, REPLY 10, STATUS 12 (R167). -/
def Slots.first (q : Slots) : Option Slot :=
  if q.sync then some .sync else if q.share then some .share else if q.reply then some .reply
  else if q.status then some .status else none

/-- Queue a kind: its slot becomes pending, and stays one entry if it was (R167). -/
def State.queue (s : State) (k : Slot) : State := s.withLine (fun l => { l with slots := l.slots.set k true })

/-- Withdraw a pending entry (R167). -/
def State.withdraw (s : State) (k : Slot) : State := s.withLine (fun l => { l with slots := l.slots.set k false })

/-! ## Stop timer (R189) -/

/-- The stop timer at an entry of the tracker to STOPPED: set 2 s ahead in RUN. -/
def State.stopTimerOnStopped (s : State) : State :=
  if s.pwr.power = .run then s.withPwr (fun p => { p with stopTimer := some ⟨s.now, 4000000⟩ }) else s

/-- The stop timer becomes absent: the tracker leaves STOPPED, or a crank edge is accepted in RUN. -/
def State.stopTimerOff (s : State) : State := s.withPwr (fun p => { p with stopTimer := none })

/-! ## Settings store (R66, R111, R114, R183, R185) -/

/-- The contents of a CAM record as its owners hold them: the offset, the stored learn status (the status before a run while one
lasts, R58, R66) and the hold duty (R183). -/
def State.camRecord (s : State) (c : Cam) : CamRecord :=
  { offset := (s.phmOf c).offset
    learned := decide ((s.phmOf c).status = .learned
      ∨ ((s.phmOf c).status = .learning ∧ (s.phmOf c).statusBefore = some .learned))
    hold := (s.loopOf c).hold }

/-- The RAM image of a CAM record brought up to date with its owners' values (R183: "Each image is updated as these values
change"). -/
def State.refreshImage (s : State) (c : Cam) : State :=
  s.withStore (fun t => { t with camImages := t.camImages.set c (s.camRecord c).encode })

/-- Mark a record dirty. -/
def State.markDirty (s : State) (r : Rec) : State := s.withStore (fun t => { t with dirty := t.dirty.set r true })

end Sys2Proof.Machine
end

