-- ==== Sys2Proof/Machine/EdgeFifo.lean ====
section
/-! DEFINITION. The edge FIFO (R5 to R8): writes, drops, the overflow marker and takes. -/

namespace Sys2Proof.Machine

/-- The overflow marker is written into a free slot while overflow-pending is set (R8; R6: "the marker goes first"). -/
def Cap.flushMarker (k : Cap) (now : Time) : Cap :=
  if k.overflowPending = true ∧ k.fifo.length < 16 then
    { k with fifo := k.fifo ++ [⟨.overflow, now⟩], overflowPending := false }
  else k

/-- The place of a source in the order in which the edges of one tick are written (R6); a marker gives way to none. -/
def Source.place : Source → Nat
  | .overflow => 0
  | .crank => 0
  | .cam .i => 1
  | .cam .e => 2

/-- Entry `x` stands behind `e` in the order of R6: an edge of the same tick whose source comes later. -/
def Entry.follows (x e : Entry) : Bool := decide (x.time = e.time ∧ e.source.place < x.source.place)

/-- An edge written behind the newest entry of a list with the newest entry first, but ahead of the edges of its own tick whose
sources come later (R5, R6). -/
def writeBehind (e : Entry) : List Entry → List Entry
  | [] => [e]
  | x :: rest => if x.follows e then x :: writeBehind e rest else e :: x :: rest

/-- An accepted edge offered to the FIFO: written in its place, or, on a full FIFO, the last edge in the order of R6 dropped and
counted (R5, R6, R8). -/
def Cap.write (k : Cap) (e : Entry) : Cap :=
  let k := k.flushMarker e.time
  let entries := (writeBehind e k.fifo.reverse).reverse
  if k.fifo.length < 16 then { k with fifo := entries }
  else { k with fifo := entries.take 16, overflows := satInc 65535 k.overflows, overflowPending := true }

/-- TRK takes the entry at the head; the slot it frees takes the marker of a loss (R7, R8). -/
def Cap.take (k : Cap) (now : Time) : Cap := { k with fifo := k.fifo.tail }.flushMarker now

/-- TRK takes entries: from the completion of the store load, while the part is awake (R191, R19). The entry at the head. -/
def State.headEntry (s : State) : Option Entry := if s.operating then s.cap.fifo.head? else none

/-- The head entry has left the FIFO (R7). -/
def State.takeHead (s : State) : State := s.withCap (·.take s.now)

end Sys2Proof.Machine
end

