-- ==== Sys2Proof/Machine/Flags.lean ====
section
/-! DEFINITION. The condition flags: MON's records and how their three fields change, the presented condition, and the STATUS
queued when it changes (R174, R175, R181). -/

namespace Sys2Proof.Machine

/-- The place of a condition's record: its code of R181 less 1. -/
def Cond.idx : Cond → Fin 20
  | .coilShort .i => 0
  | .coilShort .e => 1
  | .openLoad .i => 2
  | .openLoad .e => 3
  | .supplyLow => 4
  | .phaseStuck .i => 5
  | .phaseStuck .e => 6
  | .demandLost => 7
  | .syncLoss => 8
  | .camPattern => 9
  | .camSignal .i => 10
  | .camSignal .e => 11
  | .pressureSensor => 12
  | .tempSensor => 13
  | .lineStuck => 14
  | .stationClash => 15
  | .peerLost => 16
  | .cycleDisagree => 17
  | .learnFailed => 18
  | .storeFault => 19

/-- The record of a condition. -/
def Mon.get (m : Mon) (k : Cond) : CondRecord := m.records.get k.idx

/-- The record of a condition replaced. -/
def Mon.put (m : Mon) (k : Cond) (r : CondRecord) : Mon := { m with records := m.records.set k.idx r }

/-- A record that can be presented: active or pending set (R175). -/
def CondRecord.live (r : CondRecord) : Bool := r.active || r.pending

/-- The presented condition: the lowest code whose record has active or pending set, or 0 (R175). -/
def Mon.presented (m : Mon) : Nat :=
  match (List.finRange 20).find? (fun k => (m.records.get k).live) with
  | some k => k.val + 1
  | none => 0

/-- The number of records other than the presented one that have active or pending set (R177). -/
def Mon.others (m : Mon) : Nat := (m.records.toList.filter CondRecord.live).length - 1

/-- A condition is active. -/
def State.active (s : State) (k : Cond) : Bool := (s.mon.get k).active

/-- A change of MON's records: the presented code is recomputed, and STATUS is queued when it differs (R175). -/
def State.changeMon (s : State) (f : Mon → Mon) : State :=
  if (f s.mon).presented = s.mon.presented then s.withMon f else (s.withMon f).queue .status

/-- MON is told to make a level or latched condition active, which its owner does only while it is not (R174). -/
def State.activate (s : State) (k : Cond) : State :=
  if s.active k then s
  else s.changeMon (fun m => m.put k { active := true, pending := true, count := satInc 255 (m.get k).count })

/-- MON is told that a level condition is no longer active: pending and count are kept (R174). -/
def State.deactivate (s : State) (k : Cond) : State :=
  if s.active k then s.changeMon (fun m => m.put k { m.get k with active := false }) else s

/-- An event is raised (R174). -/
def State.raiseEvent (s : State) (k : Cond) : State :=
  s.changeMon (fun m => m.put k { m.get k with pending := true, count := satInc 255 (m.get k).count })

end Sys2Proof.Machine
end

