-- ==== Sys2Proof/Machine/Measure.lean ====
section
/-! DEFINITION. What SCAN makes of its windows: mean coil current (R11), supply (R12), oil pressure (R13, R14), oil temperature
(R15, R16). Each is a function of the counts held, so it is computed where a block reads "the latest value handed on". -/

namespace Sys2Proof.Machine

/-- A count enters a window of `size` counts; the oldest leaves a full one (R12, R13, R15). -/
def pushCount (size : Nat) (w : List Nat) (c : Nat) : List Nat := (w ++ [c]).drop (w.length + 1 - size)

/-- The mean coil current of a period in mA, 0 with no conversion (R11). -/
def CoilSum.milliamps (k : CoilSum) : Nat := if k.n = 0 then 0 else k.sum / k.n * 3000 / 4095

/-- The supply value handed on, in mV: 0 while the window holds fewer than 8 counts (R12). -/
def Scan.millivolts (k : Scan) : Nat := if k.supply.length = 8 then k.supply.sum / 8 * 20000 / 4095 else 0

/-- The pressure of a mean count (R13, R14). -/
def kpaOfCount (m : Nat) : Nat := (clampInt 0 1000 (((m : Int) - 410) * 1000 / 3276)).toNat

/-- Own pressure: valid while strap PSF is 1 and the window holds 16 counts (R13). -/
def State.ownPressure (s : State) : Option Nat :=
  if s.straps.psf = true ∧ s.scan.pressure.length = 16 then some (kpaOfCount (s.scan.pressure.sum / 16)) else none

/-- The temperature between two neighbouring points of the table, found from the first segment on (R16). -/
def segmentTemp : List TempPoint → Nat → Int
  | p :: q :: rest, m =>
    if q.count < m then p.temp + ((p.count : Int) - m) * (q.temp - p.temp) / ((p.count : Int) - q.count)
    else segmentTemp (q :: rest) m
  | [p], _ => p.temp
  | [], _ => -10

/-- The temperature of a mean count (R16). -/
def tempOfCount (st : Settings) (m : Nat) : Int :=
  if st.t1.count ≤ m then st.t1.temp else if m ≤ st.t8.count then st.t8.temp else segmentTemp st.tempTable m

/-- The temperature used: computed while the window holds 8 counts and TEMP_SENSOR is not active, -10 °C otherwise (R15). -/
def State.temperature (s : State) : Int :=
  if s.scan.temperature.length = 8 ∧ s.active .tempSensor = false then tempOfCount s.settings (s.scan.temperature.sum / 8) else -10

end Sys2Proof.Machine
end

