-- ==== Sys2Proof/Machine/Operands.lean ====
section
/-! DEFINITION. The operand forms of the commands: how a frame's bytes and payload are read (R37, R69, R127, R162, R165, R186)
and how a frame is put together (R162, R168). -/

namespace Sys2Proof.Machine

/-! ## Frames -/

/-- The code of a kind (R162). -/
def Kind.code : Kind → Nat
  | .demand => 2
  | .sync => 3
  | .share => 4
  | .request => 9
  | .reply => 10
  | .status => 12

/-- The kind of a code, none where the code is not one of the six of the table (R162). -/
def Kind.ofCode : Nat → Option Kind
  | 2 => some .demand
  | 3 => some .sync
  | 4 => some .share
  | 9 => some .request
  | 10 => some .reply
  | 12 => some .status
  | _ => none

/-- The kind of the frames a transmit slot sends (R167). -/
def Slot.kind : Slot → Kind
  | .sync => .sync
  | .share => .share
  | .reply => .reply
  | .status => .status

/-- Bit 7 of byte 7 of a SHARE payload: a pressure is present (R127). -/
def pressureFlag (payload : List Byte) : Bool := (payload.getD 6 0).getLsbD 7

/-- The payload is accepted for the kind (R162's table; for SHARE the length is judged against the pressure flag, R127). -/
def lengthAccepted (k : Kind) (payload : List Byte) : Bool :=
  match k with
  | .demand => decide (payload.length ∈ [1, 4, 7, 10, 13])
  | .sync => decide (payload.length = 4)
  | .share => decide (payload.length = if pressureFlag payload then 9 else 7)
  | .request => decide (2 ≤ payload.length ∧ payload.length ≤ 15)
  | .reply => decide (3 ≤ payload.length ∧ payload.length ≤ 15)
  | .status => decide (payload.length = 8)

/-- What the checks of R165 make of a received frame. -/
inductive Verdict where
  | crcError
  | malformed
  | unknownKind
  | clash
  | valid (f : Frame)
  deriving DecidableEq, Repr

/-- The checks of R165 in their order, on the bytes of a complete frame, for a station with number `own`. -/
def judgeFrame (own : Nat) (bytes : List Byte) : Verdict :=
  let byte1 := (bytes.getD 0 0).toNat
  let byte2 := (bytes.getD 1 0).toNat
  let payload := (bytes.drop 2).take (bytes.length - 4)
  if crcMatches bytes = false then .crcError
  else if 8 ≤ byte1 % 16 then .malformed
  else match Kind.ofCode (byte1 / 16) with
    | none => .unknownKind
    | some k =>
      if lengthAccepted k payload = false then .malformed
      else if byte1 % 16 = own then .clash
      else .valid ⟨k, byte1 % 16, byte2 / 16, payload⟩

/-- The bytes of a frame: byte 1, byte 2, payload, CRC (R162). -/
def Frame.bytes (f : Frame) : List Byte :=
  withCrc ([BitVec.ofNat 8 (f.kind.code * 16 + f.station), BitVec.ofNat 8 (f.seq * 16 + f.payload.length)] ++ f.payload)

/-- A frame its fields can carry: station 0..7, sequence 0..15, payload of an accepted length (R162). -/
def Frame.sound (f : Frame) : Bool :=
  decide (f.station ≤ 7 ∧ f.seq ≤ 15) && lengthAccepted f.kind f.payload

/-! ## DEMAND (R69) -/

/-- An entry of a DEMAND frame. -/
structure DemandEntry where
  station : Nat
  cam     : Nat
  target  : Nat
  deriving DecidableEq, Repr

/-- The entries of a DEMAND payload after its mode byte, three bytes each (R69). -/
def demandEntries : List Byte → List DemandEntry
  | who :: hi :: lo :: rest => ⟨who.toNat / 16, who.toNat % 16, word16 hi lo⟩ :: demandEntries rest
  | _ => []

/-- The mode of a DEMAND frame: any value but RUN and HOLD is taken as PARK (R69). -/
def demandMode (b : Byte) : DemandMode :=
  if b = 1 then .run else if b = 3 then .hold else .park

/-! ## SYNC (R37, R39) -/

/-- The half and source of a SYNC payload, none where one is out of range (R39). -/
def cycleReport (payload : List Byte) : Option (Half × ReportSource) :=
  let half : Option Half := match (payload.getD 0 0).toNat with
    | 0 => some .a
    | 1 => some .b
    | _ => none
  let source : Option ReportSource := match (payload.getD 1 0).toNat with
    | 0 => some .camI
    | 1 => some .camE
    | 2 => some .adopted
    | 3 => some .controller
    | _ => none
  match half, source with
  | some h, some r => some (h, r)
  | _, _ => none

/-- The code of a half: A 0, B 1 (R37, R43). -/
def halfCode : Half → Nat
  | .a => 0
  | .b => 1

/-- The code of a cycle report's source (R37). -/
def ReportSource.code : ReportSource → Nat
  | .camI => 0
  | .camE => 1
  | .adopted => 2
  | .controller => 3

/-! ## SHARE (R127, R130) -/

/-- The pressure of a SHARE payload that is filed: present with the flag set and a value of 0..1000 (R130). -/
def sharePressure (payload : List Byte) : Option Nat :=
  let p := word16 (payload.getD 7 0) (payload.getD 8 0)
  if pressureFlag payload = true ∧ p ≤ 1000 then some p else none

/-- The flow filed from two bytes: a value above 1000 is filed as 1000 (R130). -/
def shareFlow (payload : List Byte) (k : Nat) : Nat := min 1000 (word16 (payload.getD k 0) (payload.getD (k + 1) 0))

/-! ## REQUEST (R186, R187) -/

/-- The requests of R187's table. -/
inductive Request where
  | readCam
  | readTracker
  | readPeer
  | readCondition
  | readCounters
  | readSetting
  | writeSetting
  | learnPark
  | clearConditions
  deriving DecidableEq, Repr

/-- The request of a code, and the payload lengths accepted for it (R187's table). -/
def requestOfCode : Nat → Option (Request × List Nat)
  | 1 => some (.readCam, [4, 5])
  | 2 => some (.readTracker, [2, 3])
  | 3 => some (.readPeer, [3, 4])
  | 4 => some (.readCondition, [3])
  | 5 => some (.readCounters, [3])
  | 6 => some (.readSetting, [3, 4])
  | 7 => some (.writeSetting, [11])
  | 8 => some (.learnPark, [3])
  | 9 => some (.clearConditions, [2])
  | _ => none

/-- The request a REQUEST payload makes; none for an unknown code or a length not accepted for the code (R187). -/
def requestOf (payload : List Byte) : Option Request :=
  match requestOfCode (payload.getD 1 0).toNat with
  | some (r, lengths) => if payload.length ∈ lengths then some r else none
  | none => none

/-- The k-th argument of a request, 0 where an optional one is absent (R187). -/
def argument (payload : List Byte) (k : Nat) : Nat := (payload.getD (k + 2) 0).toNat

/-- The code of a result (R186). -/
def Result.code : Result → Nat
  | .ok => 0
  | .busy => 1
  | .refused => 2
  | .badRequest => 3
  | .badIndex => 4

end Sys2Proof.Machine
end

