-- ==== Sys2Proof/Machine/FlowShare.lean ====
section
/-! DEFINITION. The flow share unit (chapter 6): pressure source and available flow, station demand and grants, the SHARE frame,
the peer table, and the commands SHARE_TIMER, PEER_STALE and PEER_DELETE. SHARE_FRAME, which takes its frame from a receive
buffer, is in Machine/Delivery.lean. -/

namespace Sys2Proof.Machine

/-! ## Available flow (R119 to R122) -/

/-- The flow of a pressure (R120). -/
def flowOfPressure (st : Settings) (p : Nat) : Nat :=
  (clampInt 0 1000 (((p : Int) - st.pFloor) * 1000 / ((st.pFull : Int) - st.pFloor))).toNat

/-- A record that can be the pressure source: FRESH, holding a pressure; its filing order, station and pressure (R119). -/
def Peer.candidate (p : Peer) : Option (Nat × Nat × Nat) :=
  match p.fresh, p.share, p.pressure with
  | true, some d, some k => some (d.filing, p.station, k)
  | _, _, _ => none

/-- The candidate with the most recent SHARE filing (R119). -/
def latestFiling : List (Nat × Nat × Nat) → Option (Nat × Nat × Nat)
  | [] => none
  | c :: rest =>
    match latestFiling rest with
    | none => some c
    | some d => if c.1 < d.1 then some d else some c

/-- The pressure source as R119 chooses it, with the pressure in use. -/
def State.chosenSource (s : State) : PressureSource × Option Nat :=
  match s.ownPressure with
  | some p => (.own, some p)
  | none =>
    match latestFiling (s.shr.peers.filterMap Peer.candidate) with
    | some (_, n, p) => (.peer n, some p)
    | none => (.none, none)

/-- F_avail of a source's pressure (R120). -/
def availableFlow (st : Settings) : Option Nat → Nat
  | some p => flowOfPressure st p
  | none => st.fFallback

/-- The source chosen again, the pressure in use taken afresh and F_avail recomputed (R119, R120). -/
def State.chooseSource (s : State) : State :=
  s.withShr (fun r => { r with
    source := s.chosenSource.1
    pressure := s.chosenSource.2
    fAvail := availableFlow s.settings s.chosenSource.2 })

/-- `chooseSource`, once the store load has completed (R117: until then SHR neither chooses nor computes). -/
def State.rechoose (s : State) : State := if s.operating then s.chooseSource else s

/-! ## Station demand and grants (R123 to R126) -/

/-- The station demand D_s (R123). -/
def Shr.stationDemand (r : Shr) : Nat := r.demand.i + r.demand.e

/-- A cam's latest d handed to SHR; SHARE is queued when D_s changes from 0 to a non-zero value (R123, R128). -/
def State.setDemand (s : State) (c : Cam) (d : Nat) : State :=
  let s' := s.withShr (fun r => { r with demand := r.demand.set c d })
  if s.shr.stationDemand = 0 ∧ s'.shr.stationDemand ≠ 0 then s'.queue .share else s'

/-- The demand a peer record adds to D_total: that of a FRESH record of role PHASE (R124). -/
def Peer.counted (p : Peer) : Nat :=
  match p.fresh, p.role, p.share with
  | true, .phase, some d => d.demand
  | _, _, _ => 0

/-- D_total (R124). -/
def Shr.totalDemand (r : Shr) : Nat := r.stationDemand + (r.peers.map Peer.counted).sum

/-- The station grant G_s (R124). -/
def Shr.stationGrant (r : Shr) : Nat :=
  if r.totalDemand = 0 then 0
  else if r.totalDemand ≤ r.fAvail then r.stationDemand
  else r.fAvail * r.stationDemand / r.totalDemand

/-- The cam grant g_c of the cam whose update asked (R125). -/
def Shr.camGrant (r : Shr) (c : Cam) : Nat :=
  if r.stationDemand = 0 then 0 else r.stationGrant * r.demand.get c / r.stationDemand

/-- The grant is met: G_s equals D_s (R124). -/
def Shr.grantMet (r : Shr) : Bool := decide (r.stationGrant = r.stationDemand)

/-- A grant computation that a loop update asks for counts when it finds G_s below D_s (R126). -/
def State.countStarved (s : State) : State :=
  if s.shr.stationGrant < s.shr.stationDemand then s.withShr (fun r => { r with starved := satInc 65535 r.starved }) else s

/-! ## Peer table (R131 to R138) -/

/-- The record of a station. -/
def Shr.peer (r : Shr) (n : Nat) : Option Peer := r.peers.find? (fun p => decide (p.station = n))

/-- The record of a station changed in place. -/
def Shr.onPeer (r : Shr) (n : Nat) (f : Peer → Peer) : Shr :=
  { r with peers := r.peers.map (fun p => if p.station = n then f p else p) }

/-- A record put at its place by station number. -/
def insertPeer (p : Peer) : List Peer → List Peer
  | [] => [p]
  | q :: rest => if p.station < q.station then p :: q :: rest else q :: insertPeer p rest

/-- A record as it is created by a valid frame (R132). -/
def Peer.created (f : Frame) (now : Time) : Peer where
  station := f.station
  role := if f.station = 0 then .controller else .other
  lastSeq := f.seq
  missed := 0
  lastRefresh := now
  fresh := true
  share := none
  pressure := none
  report := none

/-- A record as a valid frame refreshes it (R133). -/
def Peer.refreshed (p : Peer) (seq : Nat) (now : Time) : Peer :=
  { p with
    missed := min 255 (p.missed + (seq + 31 - p.lastSeq) % 16)
    lastSeq := seq
    lastRefresh := now
    fresh := true }

/-- SHR brings the sender's record up to date for a valid frame: created or refreshed; the source is chosen again where a STALE
record becomes FRESH (R132, R133). -/
def State.refreshPeer (s : State) (f : Frame) : State :=
  match s.shr.peer f.station with
  | none => s.withShr (fun r => { r with peers := insertPeer (.created f s.now) r.peers, created := satInc 65535 r.created })
  | some p =>
    let s' := s.withShr (fun r => r.onPeer f.station (·.refreshed f.seq s.now))
    if p.fresh then s' else s'.rechoose

/-- A record with a SHARE payload filed (R130, items 1 to 6). -/
def Peer.filed (p : Peer) (payload : List Byte) (at_ : Time) (filing : Nat) : Peer :=
  { p with
    share := some {
      demand := shareFlow payload 0
      grant := shareFlow payload 2
      flow := shareFlow payload 4
      moving := ⟨(payload.getD 6 0).getLsbD 0, (payload.getD 6 0).getLsbD 1⟩
      time := at_
      filing := filing }
    pressure := sharePressure payload
    role := if p.station = 0 then p.role else .phase }

/-- A SHARE filed in the sender's record, and the source chosen again (R130). -/
def State.fileShare (s : State) (r : Received) : State :=
  (s.withShr (fun k => { k.onPeer r.frame.station (·.filed r.frame.payload r.time k.filings) with filings := k.filings + 1 })).rechoose

/-- A cycle report filed in the sender's record, where there is one (R138, R137). -/
def State.fileReport (s : State) (n : Nat) (report : Half × ReportSource) : State :=
  s.withShr (fun r => r.onPeer n (fun p => { p with report := some report }))

/-! ## Timer and ageing -/

/-- SHARE_TIMER's effect: SHARE is queued and the next expiry set a period after the one reached (R128). -/
def State.shareTimer (s : State) : State :=
  (s.withShr (fun r => { r with shareTimer := r.shareTimer.map Timer.again })).queue .share

/-- The share timer's expiry is reached in RUN (R128). -/
def State.shareTimerDue (s : State) : Bool := decide (s.pwr.power = .run) && dueAt s.shr.shareTimer s.now

/-- SHARE_TIMER (R128). -/
def execShareTimer (s : State) : Host.Outcome State Fault Refusal :=
  .next (if s.shareTimerDue then s.shareTimer else s)

/-- More than 30 ms have passed since the last refresh of a FRESH record (R135). -/
def State.staleDue (s : State) (n : Nat) : Bool :=
  s.operating && match s.shr.peer n with
    | some p => p.fresh && decide (60000 < elapsed s.now p.lastRefresh)
    | none => false

/-- The stale expiry of a record (R135). -/
def State.staleExpiry (s : State) (n : Nat) : State :=
  (s.withShr (fun r => r.onPeer n (fun p => { p with fresh := false }))).rechoose

/-- PEER_STALE (R135). -/
def execPeerStale (n : Fin 8) (s : State) : Host.Outcome State Fault Refusal :=
  .next (if s.staleDue n.val then s.staleExpiry n.val else s)

/-- More than 500 ms have passed since the last refresh of a record (R136). -/
def State.deleteDue (s : State) (n : Nat) : Bool :=
  s.operating && match s.shr.peer n with
    | some p => decide (1000000 < elapsed s.now p.lastRefresh)
    | none => false

/-- The record to be deleted is one whose deletion raises PEER_LOST: role PHASE, with the own power state RUN (R136). -/
def State.lostPeer (s : State) (n : Nat) : Bool :=
  decide (s.pwr.power = .run) && match s.shr.peer n with
    | some p => decide (p.role = .phase)
    | none => false

/-- The delete expiry of a record (R136). -/
def State.deleteExpiry (s : State) (n : Nat) : State :=
  ((if s.lostPeer n then s.raiseEvent .peerLost else s).withShr (fun r => { r with
    deleted := satInc 65535 r.deleted
    peers := r.peers.filter (fun p => decide (p.station ≠ n)) })).rechoose

/-- PEER_DELETE (R136). -/
def execPeerDelete (n : Fin 8) (s : State) : Host.Outcome State Fault Refusal :=
  .next (if s.deleteDue n.val then s.deleteExpiry n.val else s)

end Sys2Proof.Machine
end

