-- ==== Sys2Proof/Machine/Learning.lean ====
section
/-! DEFINITION. Park learning (section 3.8): the conditions of a run, its start, evaluation and abandonment. -/

namespace Sys2Proof.Machine

/-- The conditions of R59, the learn-done flag apart: PARKED with the rested mark set, CYCLE_SYNC with the adopted flag clear,
rpm in 700..RPM_MAX_LEARN. -/
def State.canLearn (s : State) (c : Cam) : Bool :=
  decide ((s.camOf c).state = .parked ∧ (s.camOf c).rested = true ∧ s.trk.state = .cycleSync ∧ s.trk.adopted = false
    ∧ 700 ≤ s.trk.rpm ∧ s.trk.rpm ≤ s.settings.rpmMaxLearn)

/-- An automatic run starts: all conditions of R59. -/
def State.autoLearns (s : State) (c : Cam) : Bool :=
  !(s.phmOf c).learnDone && decide ((s.phmOf c).status ≠ .learning) && s.canLearn c

/-- The start of a run (R59, R60). -/
def Phm.startRun (p : Phm) (o : LearnOrigin) : Phm :=
  { p with status := .learning, statusBefore := some p.status, runOrigin := some o, collector := [] }

/-- The status a run in progress returns to (R63, R64). -/
def Phm.statusAfter (p : Phm) : LearnStatus := p.statusBefore.getD .notLearned

/-- A run in progress abandoned (R64). -/
def Phm.abandon (p : Phm) : Phm :=
  if p.status = .learning then
    { p with
      status := p.statusAfter
      statusBefore := none
      runOrigin := none
      collector := []
      lastResult := some ⟨.aborted, p.collector.length, none, none, p.runOrigin.getD .automatic⟩ }
  else p

/-- The largest value of a list less the smallest (R61). -/
def spreadOf : List Int → Nat
  | [] => 0
  | x :: rest => (rest.foldl max x - rest.foldl min x).toNat

/-- The mean of 32 values of sum `s`, rounded to nearest, halves away from zero (R62). -/
def roundedMean (s : Int) : Int := if 0 ≤ s then (s + 16) / 32 else -((-s + 16) / 32)

/-- The run succeeds (R61). -/
def runSucceeds (values : List Int) : Bool :=
  decide (spreadOf values ≤ 16 ∧ -3072 ≤ values.sum ∧ values.sum ≤ 3072)

/-- The record after a successful run (R62, R65). -/
def Phm.succeed (p : Phm) : Phm :=
  { p with
    offset := roundedMean p.collector.sum
    status := .learned
    statusBefore := none
    runOrigin := none
    learnDone := true
    collector := []
    lastResult := some ⟨.ok, p.collector.length, some (spreadOf p.collector), some (roundedMean p.collector.sum),
      p.runOrigin.getD .automatic⟩ }

/-- The record after a failed run (R63, R65). -/
def Phm.fail (p : Phm) : Phm :=
  { p with
    status := p.statusAfter
    statusBefore := none
    runOrigin := none
    learnDone := true
    collector := []
    lastResult := some ⟨if 16 < spreadOf p.collector then .spread else .range, p.collector.length,
      some (spreadOf p.collector), some (roundedMean p.collector.sum), p.runOrigin.getD .automatic⟩ }

/-- The evaluation of a run of 32 values (R61 to R63, R183): a success updates the CAM image and marks the record dirty, a failure raises LEARN_FAILED. -/
def State.evaluateRun (s : State) (c : Cam) : State :=
  if runSucceeds (s.phmOf c).collector then ((s.onPhm c Phm.succeed).refreshImage c).markDirty (.cam c)
  else (s.onPhm c Phm.fail).raiseEvent .learnFailed

/-- Step 7 of R49: the raw deviation of an identified edge is collected while the cam is LEARNING, and the run is evaluated
when the collector holds 32 values (R61). -/
def State.collect (s : State) (c : Cam) (raw : Int) : State :=
  if (s.phmOf c).status = .learning then
    let s' := s.onPhm c (fun p => { p with collector := p.collector ++ [raw] })
    if 32 ≤ (s'.phmOf c).collector.length then s'.evaluateRun c else s'
  else s

end Sys2Proof.Machine
end

