-- ==== Sys2Proof/Machine/CamControl.lean ====
section
/-! DEFINITION. Demand processor and cam control (chapter 4): effective target, ramp, the cam machine with its state entries and
reviews, demand loss, and the commands DEMAND_TIMEOUT, HOLD_EXPIRY, RELEASE_EXPIRY and RESTED_MARK. -/

namespace Sys2Proof.Machine

/-! ## Limit chain and cold flag (R77, R78) -/

/-- The effective target of a cam, from the inputs as they stand (R77). -/
def State.effectiveTarget (s : State) (c : Cam) : Nat :=
  let demand := if s.camc.mode = .park ∨ s.camc.loss = .lossPark then 0 else (s.camOf c).commanded
  let cold := if s.camc.cold then min demand s.settings.lCold else demand
  let unlearned := if (s.phmOf c).status = .learned then cold else min cold 480
  if s.trk.rpm < s.settings.rpmMinPhase then 0 else unlearned

/-- The cold flag at a hand-over of the temperature (R78). -/
def coldAfter (cold : Bool) (tCold t : Int) : Bool := if cold then !decide (tCold + 5 ≤ t) else decide (t < tCold)

/-- SCAN hands the temperature used to CAMC (R15, R78). During the store load it is judged by the default T_COLD and temperature
table, which the spec leaves open (DESIGN CHOICE, notes/assumptions/7.md). -/
def State.handTemperature (s : State) : State :=
  s.withCamc (fun k => { k with cold := coldAfter k.cold s.settings.tCold s.temperature })

/-! ## Phasing allowed (R81) -/

/-- The cam's machine takes transitions: not the exhaust machine with strap XCF = 0, neither machine with station number 0
(R80). -/
def State.machineRuns (s : State) (c : Cam) : Bool :=
  decide (s.own ≠ 0) && (decide (c = .i) || s.straps.xcf)

/-- The cam can be under control: CYCLE_SYNC, CAM_SIGNAL_x and SUPPLY_LOW not active (R81, R83). -/
def State.controllable (s : State) (c : Cam) : Bool :=
  decide (s.trk.state = .cycleSync) && !s.active (.camSignal c) && !s.active .supplyLow

/-- Phasing is allowed for the cam (R81). -/
def State.phasingAllowed (s : State) (c : Cam) : Bool :=
  s.controllable c && decide (s.camc.mode ≠ .park) && decide (s.camc.loss ≠ .lossPark)
    && decide (s.settings.rpmMinPhase ≤ s.trk.rpm)

/-- "Release wanted" (R81). -/
def State.releaseWanted (s : State) (c : Cam) : Bool :=
  s.phasingAllowed c && decide (s.settings.parkBand < s.effectiveTarget c)

/-! ## State entry (R82) -/

/-- The phase a cam enters FOLLOW with, limited to its range (R79). -/
def State.rampAtFollow (s : State) (c : Cam) : Nat :=
  match (s.phmOf c).measurement with
  | some m => (clampInt 0 (s.camSettings c).limit m.phase).toNat
  | none => 0

/-- CAMC's own record of the cam on entry to a state; `parkTime` is the PARKED entry time (R79, R80, R82). -/
def State.enterCtl (s : State) (c : Cam) (new : CamState) (parkTime : Time) (k : CamCtl) : CamCtl :=
  { k with
    state := new
    ramp := if new = .follow then s.rampAtFollow c else 0
    parkedAt := if new = .parked then some parkTime else none
    rested := false
    settleStart := none
    releaseExpiry := if new = .release then some ⟨s.now, s.settings.releaseTime * 2000⟩ else none
    stuck := 0 }

/-- LOOP's record of the cam on entry to a state (R82, R97, R112). -/
def State.enterLoop (s : State) (old new : CamState) (k : Loop) : Loop :=
  let restart : Bool := decide (new = .follow ∨ (new = .parking ∧ old = .off))
  { k with
    integral := if new = .parking then k.integral else 0
    settled := 0
    lastUpdate := if restart then s.now else k.lastUpdate
    first := restart || k.first }

/-- The cam's channel on entry to a state: the pending duty written (R82, R144), and the output cut on FAULTED (R149). -/
def State.enterDrv (s : State) (c : Cam) (new : CamState) (d : Drv) : Drv :=
  match new with
  | .off => { d with pending := 0 }
  | .parked => { d with pending := 0 }
  | .faulted => { d with pending := 0, active := 0, applied := 0, output := false }
  | .release => { d with pending := (s.loopOf c).hold + s.settings.releaseOffset }
  | .parking => d
  | .follow => d

/-- The states whose entry sets the cam demand to 0 (R82, R123). -/
def CamState.dropsDemand : CamState → Bool
  | .off => true
  | .parked => true
  | .release => true
  | .faulted => true
  | .parking => false
  | .follow => false

/-- The entry of a cam to a state, with its changes in the neighbouring blocks (R82). A learn run in progress is abandoned
first where the cam leaves PARKED (R64, R85). -/
def State.enterCam (s : State) (c : Cam) (new : CamState) (parkTime : Time) : State :=
  let old := (s.camOf c).state
  let s1 := if old = .parked ∧ new ≠ .parked then s.onPhm c Phm.abandon else s
  let s2 := s1.onCam c (s1.enterCtl c new parkTime)
  let s3 := s2.onLoop c (s2.enterLoop old new)
  let s4 := s3.onDrv c (s3.enterDrv c new)
  if new.dropsDemand then s4.setDemand c 0 else s4

/-- The states from which the events of R88 take a cam to OFF. -/
def CamState.controlled : CamState → Bool
  | .parking => true
  | .parked => true
  | .release => true
  | .follow => true
  | .off => false
  | .faulted => false

/-- A cam under control goes to OFF (R88). -/
def State.camToOff (c : Cam) (s : State) : State :=
  if s.machineRuns c && (s.camOf c).state.controlled then s.enterCam c .off s.now else s

/-- A cam goes to FAULTED from any other state (R89). -/
def State.camToFaulted (c : Cam) (s : State) : State :=
  if s.machineRuns c && decide ((s.camOf c).state ≠ .faulted) then s.enterCam c .faulted s.now else s

/-- A latched condition of a cam raised by its owner, who tests it first (R89, R151, R152). -/
def State.raiseLatched (s : State) (c : Cam) (k : Cond) : State :=
  if s.active k then s else (s.activate k).camToFaulted c

/-! ## Reviews (R81, R83 to R87) -/

/-- The park settle at a review made at a measurement (R84). -/
def State.judgePark (s : State) (c : Cam) (m : Measurement) : State :=
  if s.settings.parkBand < m.phase.natAbs then s.onCam c (fun k => { k with settleStart := none })
  else match (s.camOf c).settleStart with
    | none => s.onCam c (fun k => { k with settleStart := some m.time })
    | some t => if 400000 ≤ elapsed m.time t then s.enterCam c .parked m.time else s

/-- A review of a cam, made at a valid measurement or (none) at a DEMAND frame or a change of the loss stage (R81). -/
def State.review (s : State) (c : Cam) (at_ : Option Measurement) : State :=
  if s.machineRuns c = false then s
  else match (s.camOf c).state, at_ with
    | .off, some m => if s.controllable c then (s.enterCam c .parking s.now).judgePark c m else s
    | .off, none => s
    | .parking, some m => if s.releaseWanted c then s.enterCam c .follow s.now else s.judgePark c m
    | .parking, none => if s.releaseWanted c then s.enterCam c .follow s.now else s
    | .parked, _ => if s.releaseWanted c then s.enterCam c .release s.now else s
    | .release, _ => if s.effectiveTarget c ≤ s.settings.parkBand then s.enterCam c .parked s.now else s
    | .follow, _ =>
      if s.phasingAllowed c = false ∨ s.effectiveTarget c ≤ s.settings.parkBand then s.enterCam c .parking s.now else s
    | .faulted, _ => s

/-- Both cams reviewed, without a measurement (R70, R74, R75). -/
def State.reviewBoth (s : State) : State := (s.review .i none).review .e none

/-! ## Ramp and stuck timing (R79, R90) -/

/-- The ramp moved toward the effective target by one step of R79. -/
def rampToward (ramp target stepMax : Nat) : Nat :=
  let k := if stepMax = 0 then 1 else stepMax
  if ramp < target then min target (ramp + k) else if target < ramp then max target (ramp - k) else ramp

/-- CAMC steps the ramp at the target stage of a loop update in FOLLOW (R79). -/
def State.stepRamp (s : State) (c : Cam) (dtq : Nat) : State :=
  s.onCam c (fun k => { k with ramp := rampToward k.ramp (s.effectiveTarget c) (s.settings.slew * 16 * dtq / 4000) })

/-- The stuck time after a loop update in FOLLOW, before its limit is acted on (R90). -/
def stuckAfter (stuck : Nat) (e : Int) (dtq : Nat) (met : Bool) : Nat :=
  if e.natAbs ≤ 128 then 0 else if met then min 4000 (stuck + dtq) else stuck

/-- CAMC's stuck timing; at 1 s PHASE_STUCK_x is made active and the cam goes to FAULTED (R90). -/
def State.timeStuck (s : State) (c : Cam) (e : Int) (dtq : Nat) (met : Bool) : State :=
  let t := stuckAfter (s.camOf c).stuck e dtq met
  let s' := s.onCam c (fun k => { k with stuck := t })
  if 4000 ≤ t then (s'.activate (.phaseStuck c)).camToFaulted c else s'

/-! ## Demand loss (R73 to R75) -/

/-- Each cam's commanded target is set to its ramp position (R72, R75). -/
def State.freezeTargets (s : State) : State :=
  s.withCamc (fun k => { k with cams :=
    { i := { k.cams.i with commanded := k.cams.i.ramp }, e := { k.cams.e with commanded := k.cams.e.ramp } } })

/-- The loss stage becomes LOSS_PARK and both cams are reviewed (R74, R75). -/
def State.toLossPark (s : State) : State :=
  (s.withCamc (fun k => { k with loss := .lossPark, holdExpiry := none })).reviewBoth

/-- The loss stage becomes LOSS_HOLD: targets frozen, the hold expiry set 1 s later (R75). -/
def State.toLossHold (s : State) : State :=
  (s.freezeTargets.withCamc (fun k => { k with loss := .lossHold, holdExpiry := some ⟨s.now, 2000000⟩ })).reviewBoth

/-- The demand age exceeds DEMAND_TIMEOUT (R73). -/
def State.demandTimeoutDue (s : State) : Bool :=
  s.operating && match s.camc.ageStart with
    | some t => decide (s.settings.demandTimeout * 2000 < elapsed s.now t)
    | none => false

/-- The expiry of the demand age (R73): DEMAND_LOST, and from NONE the configured reaction (R74, R75). -/
def State.demandExpiry (s : State) : State :=
  let s1 := (s.withCamc (fun k => { k with ageStart := none })).activate .demandLost
  if s1.camc.loss = .none then (if s1.settings.lossReaction = 0 then s1.toLossPark else s1.toLossHold) else s1

/-- DEMAND_TIMEOUT (R73). -/
def execDemandTimeout (s : State) : Host.Outcome State Fault Refusal :=
  .next (if s.demandTimeoutDue then s.demandExpiry else s)

/-- The hold expiry is reached in LOSS_HOLD (R75). -/
def State.holdDue (s : State) : Bool := decide (s.camc.loss = .lossHold) && dueAt s.camc.holdExpiry s.now

/-- HOLD_EXPIRY (R75). -/
def execHoldExpiry (s : State) : Host.Outcome State Fault Refusal :=
  .next (if s.holdDue then s.toLossPark else s)

/-! ## DEMAND acceptance (R70 to R73) -/

/-- One entry applied: one for the own station and cam 0 or 1 sets that cam's commanded target, limited to L_c (R71). -/
def State.applyEntry (s : State) (d : DemandEntry) : State :=
  if d.station = s.own ∧ d.cam ≤ 1 then
    let c : Cam := if d.cam = 0 then .i else .e
    s.onCam c (fun k => { k with commanded := min d.target (s.camSettings c).limit })
  else s

/-- An accepted DEMAND payload: mode and entries (R71, R72), the age restarted, a loss ended (R73), both cams reviewed. -/
def State.acceptDemand (s : State) (payload : List Byte) : State :=
  let mode := demandMode (payload.getD 0 0)
  let s1 := if mode = .hold ∧ s.camc.mode ≠ .hold then s.freezeTargets else s
  let s2 := s1.withCamc (fun k => { k with mode := mode })
  let s3 := if mode = .hold then s2 else (demandEntries (payload.drop 1)).foldl State.applyEntry s2
  let s4 := s3.withCamc (fun k => { k with ageStart := some s.now, loss := .none, holdExpiry := none })
  (s4.deactivate .demandLost).reviewBoth

/-! ## Expiries of the machine -/

/-- The release expiry is reached in RELEASE (R86). -/
def State.releaseDue (s : State) (c : Cam) : Bool :=
  s.machineRuns c && decide ((s.camOf c).state = .release) && dueAt (s.camOf c).releaseExpiry s.now

/-- RELEASE_EXPIRY (R86). -/
def execReleaseExpiry (c : Cam) (s : State) : Host.Outcome State Fault Refusal :=
  .next (if s.releaseDue c then s.enterCam c .follow s.now else s)

/-- 500 ms have passed from the PARKED entry time and the rested mark is not yet set (R80). -/
def State.restedDue (s : State) (c : Cam) : Bool :=
  decide ((s.camOf c).state = .parked) && !(s.camOf c).rested && match (s.camOf c).parkedAt with
    | some t => decide (1000000 ≤ elapsed s.now t)
    | none => false

/-- RESTED_MARK (R80). -/
def execRestedMark (c : Cam) (s : State) : Host.Outcome State Fault Refusal :=
  .next (if s.restedDue c then s.onCam c (fun k => { k with rested := true }) else s)

end Sys2Proof.Machine
end

