-- ==== Sys2Proof/Machine/ValveDrive.lean ====
section
/-! DEFINITION. The valve drivers and the supply monitor (chapter 7): period close and open, compensation, dither, output, trip
and open-load detection, and the commands PERIOD_BOUNDARY, ON_TIME_END, CURRENT_TRIP, SUPPLY_LOW_EXPIRY and
SUPPLY_RECOVERY_EXPIRY. -/

namespace Sys2Proof.Machine

/-! ## Settings of the drivers (R142) -/

/-- The period length L in ticks (R142). -/
def periodLength (st : Settings) : Nat :=
  match st.pwmFreq with
  | 0 => 10000
  | 1 => 8000
  | _ => 6667

/-- The periods N of one dither cycle (R142). -/
def ditherPeriods (st : Settings) : Nat := 2 * (st.ditherLen + 1)

/-- The current trip threshold in mA (R142). -/
def tripMilliamps (st : Settings) : Nat := 1500 + 500 * st.iTrip

/-! ## Period open (R145 to R148) -/

/-- The compensated duty (R146). -/
def compensated (active millivolts : Nat) : Nat := active * 13500 / max millivolts 9000

/-- Dither is suppressed: active duty 0, or the cam in RELEASE, PARKED, OFF or FAULTED (R147). -/
def ditherSuppressed (active : Nat) (state : CamState) : Bool :=
  decide (active = 0) || decide (state ≠ .parking ∧ state ≠ .follow)

/-- The dither of a period (R147). -/
def ditherOf (st : Settings) (active : Nat) (state : CamState) (phase : Nat) : Int :=
  if ditherSuppressed active state then 0
  else if phase ≤ ditherPeriods st / 2 then (st.ditherAmp : Int) else -(st.ditherAmp : Int)

/-- The dither phase after a period open (R147). -/
def ditherPhaseAfter (st : Settings) (active : Nat) (state : CamState) (phase : Nat) : Nat :=
  if ditherSuppressed active state then 1 else if ditherPeriods st ≤ phase then 1 else phase + 1

/-- The applied duty (R148). -/
def appliedDuty (c : Nat) (dither : Int) : Nat := (clampInt 0 1000 ((c : Int) + dither)).toNat

/-- The channel's record after a period open at `now`, with the supply value read (R145, open). -/
def Drv.opened (d : Drv) (st : Settings) (state : CamState) (millivolts : Nat) (now : Time) : Drv :=
  let applied := appliedDuty (compensated d.pending millivolts) (ditherOf st d.pending state d.ditherPhase)
  { d with
    active := d.pending
    applied := applied
    ditherPhase := ditherPhaseAfter st d.pending state d.ditherPhase
    periodStart := some now
    output := decide (0 < applied)
    supplyRead := millivolts }

/-- A period open of a channel (R145); SCAN's coil current sum and count restart (R11). -/
def State.openPeriod (c : Cam) (s : State) : State :=
  (s.onDrv c (·.opened s.settings (s.camOf c).state s.scan.millivolts s.now)).withScan
    (fun k => { k with coil := k.coil.set c {} })

/-! ## Period close (R145, R151, R152) -/

/-- The trip run after a close (R151). -/
def tripRunAfter (tripped : Bool) (run : Nat) : Nat := if tripped then satInc 8 run else 0

/-- The period counts toward an open load: applied duty 200 or more and mean current below 50 mA (R152). -/
def openLoadPeriod (applied milliamps : Nat) : Bool := decide (200 ≤ applied ∧ milliamps < 50)

/-- Steps 1 and 2 of a close: the mean current handed over, the trip run updated, COIL_SHORT_x at 8 (R145, R151). The move to
FAULTED and its cut come here, before step 3 (DESIGN CHOICE, notes/assumptions/28.md). -/
def State.closeTrip (s : State) (c : Cam) : State :=
  let s1 := s.onDrv c (fun d => { d with
    meanCurrent := (s.scan.coil.get c).milliamps, tripRun := tripRunAfter d.tripped d.tripRun })
  if (s1.drvOf c).tripRun = 8 then s1.raiseLatched c (.coilShort c) else s1

/-- The channel's open-load run and counter after step 3 of a close (R152, R155). -/
def Drv.openJudged (d : Drv) (counts : Bool) : Drv :=
  if counts then { d with openRun := satInc 3 d.openRun, openPeriods := satInc 65535 d.openPeriods } else { d with openRun := 0 }

/-- Step 3 of a close: the open-load run, judged from the applied duty of the ending period, and OPEN_LOAD_x at 3 (R152). -/
def State.closeOpenLoad (s : State) (c : Cam) : State :=
  let s1 := s.onDrv c (fun d => d.openJudged (openLoadPeriod d.applied d.meanCurrent))
  if (s1.drvOf c).openRun = 3 then s1.raiseLatched c (.openLoad c) else s1

/-- A period close (R145): the tripped mark is cleared last. -/
def State.closePeriod (s : State) (c : Cam) : State :=
  ((s.closeTrip c).closeOpenLoad c).onDrv c (fun d => { d with tripped := false })

/-- The channel's period has reached its length L (R143). -/
def State.boundaryDue (s : State) (c : Cam) : Bool :=
  decide (s.pwr.power = .run) && match (s.drvOf c).periodStart with
    | some t => decide (periodLength s.settings ≤ elapsed s.now t)
    | none => false

/-- PERIOD_BOUNDARY (R145). -/
def execPeriodBoundary (c : Cam) (s : State) : Host.Outcome State Fault Refusal :=
  .next (if s.boundaryDue c then (s.closePeriod c).openPeriod c else s)

/-- Periods stop on entry to STANDBY or DOZE: the pending duty, the mean current, the value read and the counters are kept
(R143). -/
def Drv.stopped (d : Drv) : Drv :=
  { d with active := 0, applied := 0, ditherPhase := 1, periodStart := none, tripped := false, tripRun := 0, openRun := 0
           output := false }

/-! ## Output (R148, R150) -/

/-- The on-time of the applied duty has passed since the period start, with the output on. An applied duty of 1000 leaves the
output on for the whole period (R148). -/
def State.onTimeOver (s : State) (c : Cam) : Bool :=
  (s.drvOf c).output && decide ((s.drvOf c).applied < 1000) && match (s.drvOf c).periodStart with
    | some t => decide ((s.drvOf c).applied * periodLength s.settings / 1000 ≤ elapsed s.now t)
    | none => false

/-- ON_TIME_END (R148). -/
def execOnTimeEnd (c : Cam) (s : State) : Host.Outcome State Fault Refusal :=
  .next (if s.onTimeOver c then s.onDrv c (fun d => { d with output := false }) else s)

/-- The channel's record after a current trip (R150). -/
def Drv.trip (d : Drv) : Drv := { d with output := false, tripped := true, trips := satInc 65535 d.trips }

/-- CURRENT_TRIP (R150): the comparator acts while the output is on, when the current is past I_TRIP. -/
def execCurrentTrip (c : Cam) (milliamps : Nat) (s : State) : Host.Outcome State Fault Refusal :=
  .next (if (s.drvOf c).output = true ∧ tripMilliamps s.settings < milliamps then s.onDrv c Drv.trip else s)

/-! ## Supply monitor (R153, R154) -/

/-- A supply value judged while JUDGING, by R153's table. -/
def SupplyMon.judge (k : SupplyMon) (low : Bool) (v : Nat) (now : Time) : SupplyMon :=
  if v < 7000 then
    (if low then { k with recoveryExpiry := none }
     else { k with lowExpiry := if k.lowExpiry.isNone then some ⟨now, 20000⟩ else k.lowExpiry })
  else if v < 8000 then
    (if low then { k with recoveryExpiry := none } else { k with lowExpiry := none })
  else
    (if low then { k with recoveryExpiry := if k.recoveryExpiry.isNone then some ⟨now, 200000⟩ else k.recoveryExpiry }
     else { k with lowExpiry := none })

/-- A supply value handed on to the monitor: ignored while WAITING, until the first value from a full window (R153). -/
def State.handSupply (s : State) : State :=
  if s.supply.judging = true ∨ s.scan.supply.length = 8 then
    s.withSupply (fun k => { k with judging := true }.judge (s.active .supplyLow) s.scan.millivolts s.now)
  else s

/-- The low expiry is reached: SUPPLY_LOW, and the cams under control go to OFF (R153, R154). -/
def State.supplyLowExpiry (s : State) : State :=
  ((s.withSupply (fun k => { k with lowExpiry := none })).activate .supplyLow).bothCams State.camToOff

/-- SUPPLY_LOW_EXPIRY (R154). -/
def execSupplyLowExpiry (s : State) : Host.Outcome State Fault Refusal :=
  .next (if dueAt s.supply.lowExpiry s.now then s.supplyLowExpiry else s)

/-- SUPPLY_RECOVERY_EXPIRY (R153). -/
def execSupplyRecoveryExpiry (s : State) : Host.Outcome State Fault Refusal :=
  .next (if dueAt s.supply.recoveryExpiry s.now then
    (s.withSupply (fun k => { k with recoveryExpiry := none })).deactivate .supplyLow else s)

end Sys2Proof.Machine
end

