-- ==== Sys2Proof/Machine/Scan.lean ====
section
/-! DEFINITION. The analog scan (section 1.6 to 1.8): the rotation and its rate, and the commands COIL_CURRENT_CONVERSION,
SUPPLY_CONVERSION, PRESSURE_CONVERSION, TEMPERATURE_CONVERSION and SCAN_PASS_START. -/

namespace Sys2Proof.Machine

/-- A pass starts at position 1 (R9, R10). -/
def Scan.startPass (k : Scan) (now : Time) : Scan :=
  { k with conversion := some ⟨.coil .i, now⟩, passStart := some now }

/-- The conversion of this channel completes: it is in progress and its 16 converter cycles (8 µs, 16 ticks) have passed (R9). -/
def State.converts (s : State) (ch : Channel) : Bool :=
  match s.scan.conversion with
  | some v => decide (v.channel = ch ∧ 16 ≤ elapsed s.now v.start)
  | none => false

/-- The next conversion of the pass begins (R9). -/
def State.nextConversion (s : State) (ch : Channel) : State :=
  s.withScan (fun k => { k with conversion := some ⟨ch, s.now⟩ })

/-- The rotation after position 5: the next pass at once where passes run back to back (until the first STANDBY, in RUN, and
for the 16 passes of a wake), else the wait of STANDBY (R10). -/
def State.endPass (s : State) : State :=
  let left := s.scan.wakePasses - 1
  let s1 := s.withScan (fun k => { k with wakePasses := left })
  if 0 < left ∨ s.pwr.power = .loading ∨ s.pwr.power = .run then s1.withScan (·.startPass s.now)
  else s1.withScan (fun k => { k with conversion := none })

/-- A coil current count added to its channel's period sum; discarded while the channel has no period (R11, R143). -/
def State.addCoil (s : State) (c : Cam) (count : Nat) : State :=
  if (s.drvOf c).periodStart.isNone then s
  else s.withScan (fun k => { k with coil := k.coil.modify c (fun q => { sum := q.sum + count, n := q.n + 1 }) })

/-- The position after a coil current of the rotation (R9). -/
def afterCoil : Cam → Channel
  | .i => .coil .e
  | .e => .supply

/-- COIL_CURRENT_CONVERSION (R11). -/
def execCoilCurrentConversion (c : Cam) (count : BitVec 12) (s : State) : Host.Outcome State Fault Refusal :=
  .next (if s.converts (.coil c) then (s.addCoil c count.toNat).nextConversion (afterCoil c) else s)

/-- SUPPLY_CONVERSION (R12): the count enters the window, and the value is handed to DRV and to the supply monitor. -/
def execSupplyConversion (count : BitVec 12) (s : State) : Host.Outcome State Fault Refusal :=
  .next (if s.converts .supply then
    ((s.withScan (fun k => { k with supply := pushCount 8 k.supply count.toNat })).handSupply).nextConversion .pressure
  else s)

/-- A pressure count with strap PSF = 1 (R13): an invalid one empties the window and makes PRESSURE_SENSOR active, a valid one
enters the window, and a window that becomes full ends PRESSURE_SENSOR. SHR is told of the change or of the new value (R121). -/
def State.pressureCount (s : State) (count : Nat) : State :=
  if count < 205 ∨ 3890 < count then
    ((s.withScan (fun k => { k with pressure := [] })).activate .pressureSensor).rechoose
  else
    let s1 := s.withScan (fun k => { k with pressure := pushCount 16 k.pressure count })
    if s1.scan.pressure.length = 16 then (s1.deactivate .pressureSensor).rechoose else s1

/-- PRESSURE_CONVERSION (R13): with strap PSF = 0 the count is discarded. -/
def execPressureConversion (count : BitVec 12) (s : State) : Host.Outcome State Fault Refusal :=
  .next (if s.converts .pressure then
    (if s.straps.psf then s.pressureCount count.toNat else s).nextConversion .temperature
  else s)

/-- A temperature count (R15): an invalid one empties the window and makes TEMP_SENSOR active, a valid one enters the window,
and a window that becomes full ends TEMP_SENSOR. -/
def State.temperatureCount (s : State) (count : Nat) : State :=
  if count < 100 ∨ 4000 < count then (s.withScan (fun k => { k with temperature := [] })).activate .tempSensor
  else
    let s1 := s.withScan (fun k => { k with temperature := pushCount 8 k.temperature count })
    if s1.scan.temperature.length = 8 then s1.deactivate .tempSensor else s1

/-- TEMPERATURE_CONVERSION (R15): the temperature used is handed to CAMC, and the pass ends. -/
def execTemperatureConversion (count : BitVec 12) (s : State) : Host.Outcome State Fault Refusal :=
  .next (if s.converts .temperature then ((s.temperatureCount count.toNat).handTemperature).endPass else s)

/-- In STANDBY, between passes, 100 ms have passed since the start of the previous pass (R10). -/
def State.passDue (s : State) : Bool :=
  decide (s.pwr.power = .standby) && s.scan.conversion.isNone && match s.scan.passStart with
    | some t => decide (200000 ≤ elapsed s.now t)
    | none => false

/-- SCAN_PASS_START (R10). -/
def execScanPassStart (s : State) : Host.Outcome State Fault Refusal :=
  .next (if s.passDue then s.withScan (·.startPass s.now) else s)

end Sys2Proof.Machine
end

