-- ==== Sys2Proof/Machine/Power.lean ====
section
/-! DEFINITION. Power states and resets (section 10.3): entries to RUN, STANDBY and DOZE, the wake, the reset and the start
sequence, with the status and listen timers (R172, R178), and their commands. -/

namespace Sys2Proof.Machine

/-! ## Entries to the power states (R189, R190) -/

/-- SCAN on entry to RUN: a waiting scan starts a pass at once (R10). -/
def Scan.onRun (k : Scan) (now : Time) : Scan := if k.conversion.isNone then k.startPass now else k

/-- The entry to RUN (R189): share and status timers, the first period of each channel, the scan, the stop timer. -/
def State.enterRun (s : State) : State :=
  let s1 := s.withPwr (fun p => { p with
    power := .run
    quietTimer := none
    stopTimer := if s.trk.state = .stopped then some ⟨s.now, 4000000⟩ else none })
  let s2 := s1.withShr (fun r => { r with shareTimer := some ⟨s.now, 20000⟩ })
  let s3 := s2.withMon (fun m => { m with statusTimer := some ⟨s.now, 200000⟩ })
  (s3.withScan (·.onRun s.now)).bothCams State.openPeriod

/-- Both channels' periods stop (R143). -/
def State.stopDrivers (s : State) : State := s.withDrv (fun d => { i := d.i.stopped, e := d.e.stopped })

/-- The entry to STANDBY (R189, R190, R143, R128, R178). -/
def State.enterStandby (s : State) : State :=
  let s1 := s.stopDrivers.withPwr (fun p => { p with
    power := .standby, stopTimer := none, quietTimer := some ⟨s.now, 10000000⟩, quietMark := false })
  let s2 := (s1.withShr (fun r => { r with shareTimer := none })).withdraw .share
  s2.withMon (fun m => { m with statusTimer := none })

/-- CAP on entry to DOZE (R5, R8, section 1.9): the counters are kept. -/
def Cap.dozed (k : Cap) : Cap :=
  { k with crankLast := none, pLast := none, camLast := .both none, fifo := [], overflowPending := false }

/-- PHM's record of a cam on entry to DOZE (R45). -/
def Phm.dozed (p : Phm) : Phm := { p with measurement := none, tally := 0, wholeCycle := false }

/-- CAMC on entry to DOZE (R73, R75). -/
def Camc.dozed (k : Camc) : Camc :=
  { k with ageStart := none, holdExpiry := none, loss := if k.loss = .lossHold then .lossPark else k.loss }

/-- SHR on entry to DOZE (R117): own pressure is invalid, since SCAN empties its window on the same entry. -/
def Shr.dozed (r : Shr) (st : Settings) : Shr :=
  { r with peers := [], shareTimer := none, source := .none, pressure := none, fAvail := st.fFallback }

/-- LINE on entry to DOZE (R166, R167, R172): life state, sequence number, counters and the disabled transmitter of an active
LINE_STUCK are kept. The rest of the drive of a last CRC bit is cut (DESIGN CHOICE, notes/assumptions/30.md). -/
def Line.dozed (l : Line) : Line :=
  { l with receiver := .off, drive := none, dataBits := 0, sampled := [], bufferX := none, bufferY := none
           lastBuffer := none, slots := {}, sending := none, aborting := false }

/-- The entry to DOZE (R190), with the changes of each chapter. -/
def State.enterDoze (s : State) : State :=
  let s1 := ((s.withCap Cap.dozed).withScan (fun _ => {})).withPhm (fun p => { i := p.i.dozed, e := p.e.dozed })
  let s2 := ((s1.withCamc Camc.dozed).withShr (·.dozed s.settings)).stopDrivers
  let s3 := (s2.withSupply (fun _ => {})).withLine Line.dozed
  let s4 := (s3.withMon (fun m => { m with statusTimer := none, noted := none })).withService (fun _ => {})
  s4.withPwr (fun p => { p with
    power := .doze, stopTimer := none, quietTimer := none, quietMark := false, wakeTicks := 0 })

/-- The four things that hold together for DOZE: STANDBY, the quiet mark, a clean store, no own frame being sent (R190). That the 2Tb
low of a bit error still belongs to its frame is DEDUCED (notes/assumptions/30.md). -/
def State.dozeReady (s : State) : Bool :=
  decide (s.pwr.power = .standby) && s.pwr.quietMark && s.store.clean && s.line.sending.isNone && !s.line.aborting

/-- The part enters DOZE where the four things have come to hold (R190). -/
def State.dozeCheck (s : State) : State := if s.dozeReady then s.enterDoze else s

/-! ## Timers -/

/-- STOP_TIMER (R189): the expiry in RUN. -/
def execStopTimer (s : State) : Host.Outcome State Fault Refusal :=
  .next (if decide (s.pwr.power = .run) && dueAt s.pwr.stopTimer s.now then s.enterStandby else s)

/-- The quiet timer's expiry is reached in STANDBY (R190). -/
def State.quietDue (s : State) : Bool := decide (s.pwr.power = .standby) && dueAt s.pwr.quietTimer s.now

/-- QUIET_TIMER (R190): the quiet mark is set, and DOZE is entered where the rest holds. -/
def execQuietTimer (s : State) : Host.Outcome State Fault Refusal :=
  .next (if s.quietDue then (s.withPwr (fun p => { p with quietTimer := none, quietMark := true })).dozeCheck else s)

/-- The status timer's expiry is reached (R178). -/
def State.statusTimerDue (s : State) : Bool := decide (s.pwr.power = .run) && dueAt s.mon.statusTimer s.now

/-- STATUS_TIMER (R178). -/
def execStatusTimer (s : State) : Host.Outcome State Fault Refusal :=
  .next (if s.statusTimerDue then
    (s.withMon (fun m => { m with statusTimer := m.statusTimer.map Timer.again })).queue .status else s)

/-- LISTEN_EXPIRY (R172, R191): the station becomes ACTIVE and STATUS is queued; with station number 0 it stays in LISTEN. -/
def execListenExpiry (s : State) : Host.Outcome State Fault Refusal :=
  .next (if dueAt s.pwr.listenTimer s.now then
    let s1 := s.withPwr (fun p => { p with listenTimer := none })
    if s.own = 0 then s1 else (s1.withLine (fun l => { l with life := .active })).queue .status
  else s)

/-! ## Wake (R190) -/

/-- WAKE_EDGE (R172, R190): in DOZE, a falling edge on SLN or on the crank signal starts the wake. DESIGN CHOICE (log 14): the
command does not say which signal it was and leaves the level of SLN as it was; an edge of SLN comes as this command and
LINE_FALLING_EDGE. -/
def execWakeEdge (s : State) : Host.Outcome State Fault Refusal :=
  .next (if s.pwr.power = .doze then s.withPwr (fun p => { p with power := .waking, wakeTicks := 0 }) else s)

/-- The receiver comes on and enters WAIT_IDLE at `now`, from which the line's low or high is timed (R160, R161). -/
def Line.listenFrom (l : Line) (now : Time) : Line :=
  { l with receiver := .waitIdle, lastFall := now, lastRise := now, dataBits := 0, sampled := [] }

/-- The completion of a wake (R190): the time counter restarts from 0, STANDBY is entered, SCAN runs its 16 passes, the receiver
enters WAIT_IDLE, the demand age restarts (R73) and STATUS is queued (R178). -/
def State.wakeUp (s : State) : State :=
  let s1 := { s with now := 0 }.enterStandby
  let s2 := s1.withScan (fun k => { k with wakePasses := 16 }.startPass 0)
  let s3 := (s2.withLine (·.listenFrom 0)).withCamc (fun k => { k with ageStart := some 0 })
  (s3.withPwr (fun p => { p with wakeTicks := 0 })).queue .status

/-- WAKE_COMPLETE (R190): the 200 µs of the wake have passed. -/
def execWakeComplete (s : State) : Host.Outcome State Fault Refusal :=
  .next (if s.pwr.power = .waking ∧ 400 ≤ s.pwr.wakeTicks then s.wakeUp else s)

/-! ## Reset and start sequence (R191) -/

/-- The store as a reset leaves it: the record of a write in flight is part-written (R185). -/
def State.storedAtReset (s : State) : PerRec Stored :=
  match s.store.inFlight with
  | some w => s.stored.set w.record .torn
  | none => s.stored

/-- All volatile state at its reset value, the reset asserted with this cause (R191). The queue of waiting commands and the level
other stations give SLN, which are outside the part, the non-volatile store, the recorded cause and the free values drawn
stay. -/
def State.assertReset (s : State) (cause : ResetCause) : State :=
  { State.reset with
    pending := s.pending
    line := { othersLow := s.line.othersLow }
    stored := s.storedAtReset
    freeDraws := s.freeDraws
    pwr := { power := .held, cause := s.pwr.cause, asserted := cause, sequence := none } }

/-- RESET (R191). -/
def execReset (cause : ResetCause) (s : State) : Host.Outcome State Fault Refusal := .next (s.assertReset cause)

/-- The release of a reset: the cause last asserted is recorded, the time counter runs from 0, the start delay begins (R191). -/
def State.releaseReset (s : State) : State :=
  { s with now := 0, pwr := { s.pwr with power := .startDelay, cause := s.pwr.asserted, sequence := some ⟨0, 4000⟩ } }

/-- RESET_RELEASE (R191). -/
def execResetRelease (s : State) : Host.Outcome State Fault Refusal :=
  .next (if s.pwr.power = .held then s.releaseReset else s)

/-- The end of the start delay: straps read, capture, scan and receiver started, the store load of 1 ms begun (R191, R10,
R157, R160). -/
def State.startUp (s : State) (pins : Straps) : State :=
  let s1 := { s with straps := pins }.withPwr (fun p => { p with power := .loading, sequence := some ⟨s.now, 2000⟩ })
  (s1.withScan (·.startPass s.now)).withLine (·.listenFrom s.now)

/-- START_DELAY_END (R191). -/
def execStartDelayEnd (pins : Straps) (s : State) : Host.Outcome State Fault Refusal :=
  .next (if decide (s.pwr.power = .startDelay) && dueAt s.pwr.sequence s.now then s.startUp pins else s)

end Sys2Proof.Machine
end

