-- ==== Sys2Proof/Machine/Capture.lean ====
section
/-! DEFINITION. The capture unit (sections 1.2 to 1.5): the noise filters and the commands CRANK_EDGE, CAM_EDGE,
CRANK_FILTER_FORGET and CAM_FILTER_FORGET. -/

namespace Sys2Proof.Machine

/-- The crank filter's threshold in ticks (R3). -/
def crankThreshold (pLast : Option Nat) : Nat :=
  match pLast with
  | some p => max 40 (p / 4)
  | none => 40

/-- The crank filter accepts an edge at `t` (R3). -/
def Cap.crankAccepts (k : Cap) (t : Time) : Bool :=
  match k.crankLast with
  | none => true
  | some last => decide (crankThreshold k.pLast ≤ elapsed t last)

/-- The crank filter after an accepted edge (R3). -/
def Cap.crankAccepted (k : Cap) (t : Time) : Cap :=
  { k with crankLast := some t, pLast := k.crankLast.map (elapsed t) }

/-- An accepted crank edge signalled to PWR (R3, R189, R191): the crank mark during the load, RUN from STANDBY, the stop timer
absent in RUN. -/
def State.signalCrank (s : State) : State :=
  match s.pwr.power with
  | .loading => s.withPwr (fun p => { p with crankMark := true })
  | .standby => s.enterRun
  | .run => s.stopTimerOff
  | .held => s
  | .startDelay => s
  | .doze => s
  | .waking => s

/-- A crank edge taken (R3). -/
def State.crankEdge (s : State) : State :=
  if s.cap.crankAccepts s.now then
    (s.withCap (fun k => (k.crankAccepted s.now).write ⟨.crank, s.now⟩)).signalCrank
  else s.withCap (fun k => { k with crankNoise := satInc 65535 k.crankNoise })

/-- CRANK_EDGE (R3): edges are taken while capture is active (R2). -/
def execCrankEdge (s : State) : Host.Outcome State Fault Refusal := .next (if s.sensing then s.crankEdge else s)

/-- A cam filter accepts an edge at `t` (R4). -/
def Cap.camAccepts (k : Cap) (c : Cam) (t : Time) : Bool :=
  match k.camLast.get c with
  | none => true
  | some last => decide (100 ≤ elapsed t last)

/-- A cam edge taken (R4). -/
def State.camEdge (s : State) (c : Cam) : State :=
  if s.cap.camAccepts c s.now then
    s.withCap (fun k => { k with camLast := k.camLast.set c (some s.now) }.write ⟨.cam c, s.now⟩)
  else s.withCap (fun k => { k with camNoise := k.camNoise.modify c (satInc 65535) })

/-- CAM_EDGE (R4): edges are taken while capture is active (R2). -/
def execCamEdge (c : Cam) (s : State) : Host.Outcome State Fault Refusal := .next (if s.sensing then s.camEdge c else s)

/-- 400,000 ticks have passed from the last accepted edge of a filter (R3, R4). -/
def forgetDue (last : Option Time) (now : Time) : Bool :=
  match last with
  | some t => decide (400000 ≤ elapsed now t)
  | none => false

/-- CRANK_FILTER_FORGET (R3). -/
def execCrankFilterForget (s : State) : Host.Outcome State Fault Refusal :=
  .next (if forgetDue s.cap.crankLast s.now then s.withCap (fun k => { k with crankLast := none, pLast := none }) else s)

/-- CAM_FILTER_FORGET (R4). -/
def execCamFilterForget (c : Cam) (s : State) : Host.Outcome State Fault Refusal :=
  .next (if forgetDue (s.cap.camLast.get c) s.now then
    s.withCap (fun k => { k with camLast := k.camLast.set c none }) else s)

end Sys2Proof.Machine
end

