-- ==== Sys2Proof/WellFormed.lean ====
section
/-! DEFINITION. Which commands are well formed. Most operands are bounded by their types (a converter count has 12 bits, a
station number is below 8). What is left: the sampled bytes of a received frame are a whole frame (R163), and the bytes read
back from the store are those of one of its records (R182). -/

namespace Sys2Proof

/-- The sampled bytes end where R163 ends a frame: with n the low four bits of byte 2, after 4 + n bytes. -/
def frameComplete (bytes : List Byte) : Bool :=
  decide (2 ≤ bytes.length ∧ bytes.length = 4 + ((bytes.getD 1 0).toNat % 16))

/-- The size of a stored record with its check: CONFIG 66 bytes, CAM-I and CAM-E 8 bytes (R182). -/
def recordSized (bytes : List Byte) : Bool := decide (bytes.length = 66 ∨ bytes.length = 8)

/-- A command whose operands could come from the hardware. -/
def Instr.wellFormed : Instr → Bool
  | .frameReceived bytes => frameComplete bytes
  | .storeWriteEnd readBack => recordSized readBack
  | .crankEdge | .camEdge _ | .crankFilterForget | .camFilterForget _ | .takeCrankEntry | .takeCamEntry
  | .takeOverflowMarker | .stallTimeout | .cycleReport | .coilCurrentConversion _ _ | .supplyConversion _
  | .pressureConversion _ | .temperatureConversion _ | .scanPassStart | .demandFrame | .demandTimeout | .holdExpiry
  | .releaseExpiry _ | .restedMark _ | .shareFrame | .shareTimer | .peerStale _ | .peerDelete _ | .periodBoundary _
  | .onTimeEnd _ | .currentTrip _ _ | .supplyLowExpiry | .supplyRecoveryExpiry | .framingError | .lineIdle | .lineHeld
  | .transmitStart | .arbitrationLoss | .bitError | .transmitComplete | .listenExpiry | .statusTimer | .readCam
  | .readTracker | .readPeer | .readCondition | .readCounters | .readSetting | .writeSetting | .learnPark
  | .clearConditions | .unknownRequest | .storeWriteStart | .stopTimer | .quietTimer | .wakeEdge | .wakeComplete
  | .reset _ | .resetRelease | .startDelayEnd _ | .storeLoadComplete | .lineFallingEdge | .startOfFrame => true

end Sys2Proof
end

