-- ==== Sys2Proof/Machine/Line.lean ====
section
/-! DEFINITION. The line controller (chapter 8): receiver, framing, receive buffers, composition of frames, transmission, and the
commands FRAMING_ERROR, LINE_IDLE, LINE_HELD, FRAME_RECEIVED, TRANSMIT_START, ARBITRATION_LOSS, BIT_ERROR, TRANSMIT_COMPLETE,
LINE_FALLING_EDGE and START_OF_FRAME. -/

namespace Sys2Proof.Machine

/-! ## The line's level (R158, R160, R161) -/

/-- SLN is low: another station pulls it low, or the part drives it. -/
def Line.low (l : Line) : Bool := l.othersLow || l.drive.isSome

/-- The part stops driving SLN, which rises where no other station holds it; a 2Tb low of the part's is over with its drive (R170). -/
def Line.release (l : Line) (now : Time) : Line :=
  { l with drive := none, aborting := false, lastRise := if l.drive.isSome && !l.othersLow then now else l.lastRise }

/-- The receiver returns to WAIT_IDLE (R160). -/
def Line.wait (l : Line) : Line := { l with receiver := .waitIdle, dataBits := 0, sampled := [] }

/-- The `k`-th data bit of a frame being sent, from 1 (R162). -/
def Transmission.bit (x : Transmission) (k : Nat) : Bool := (bitsOf x.bytes).getD (k - 1) true

/-- How long a data bit is driven low: a 1 for Tb/4, a 0 for 3Tb/4 (R158). -/
def pulse (tb : Nat) (bit : Bool) : Nat := if bit then tb / 4 else 3 * (tb / 4)

/-- A data bit begins at the falling edge of this moment; a transmitting station drives it from there (R158, R159). -/
def Line.beginBit (l : Line) (now : Time) (tb : Nat) : Line :=
  { l with
    lastFall := now
    dataBits := l.dataBits + 1
    drive := match l.sending with
      | some x => some ⟨now, pulse tb (x.bit (l.dataBits + 1))⟩
      | none => l.drive }

/-- A drive of the part ends at its release (R158, R170). -/
def Line.releaseDue (l : Line) (now : Time) : Line := if dueAt l.drive now then l.release now else l

/-- A transmitting station drives its first data bit 2Tb after the SOF edge and each other one Tb after the edge of the bit before
it (R158, R160); on a line that another station holds low no edge comes of it. -/
def Line.driveNext (l : Line) (now : Time) (tb : Nat) : Line :=
  match l.sending with
  | none => l
  | some x =>
    if l.receiver = .frame ∧ l.drive = none ∧ l.dataBits < 8 * x.bytes.length
        ∧ elapsed now l.lastFall = (if l.dataBits = 0 then 2 * tb else tb) then
      if l.othersLow then { l with drive := some ⟨now, pulse tb (x.bit (l.dataBits + 1))⟩ } else l.beginBit now tb
    else l

/-- The moment of the sample of the current data bit, Tb/2 after its falling edge (R159). -/
def Line.atSample (l : Line) (now : Time) (tb : Nat) : Bool :=
  decide (l.receiver = .frame ∧ 1 ≤ l.dataBits ∧ elapsed now l.lastFall = tb / 2)

/-- A data bit is sampled: a low line is a 0, a high line a 1 (R159). -/
def Line.sample (l : Line) (now : Time) (tb : Nat) : Line :=
  if l.atSample now tb then { l with sampled := l.sampled ++ [!l.low] } else l

/-- What a tick brings to the line controller's drive and samples (R158, R159, R160). -/
def Line.tick (l : Line) (now : Time) (tb : Nat) : Line := ((l.releaseDue now).driveNext now tb).sample now tb

/-- The current data bit has been sampled at this moment. -/
def State.sampledNow (s : State) : Bool :=
  s.line.atSample s.now s.tb && decide (s.line.sampled.length = s.line.dataBits)

/-- The latest sample (R159). -/
def Line.lastSample (l : Line) : Bool := l.sampled.getLastD true

/-! ## Receiver (R159, R160, R161) -/

/-- What follows a frame of the own dropped in the middle (R170): not requeued, the transmit failure counter advances, a STATUS
note is discarded (R177), the composed reply is discarded (R187), the sequence number stands. -/
def State.dropOwnFrame (s : State) : State :=
  match s.line.sending with
  | none => s
  | some x =>
    let s1 := s.withLine (fun l => { l with sending := none, txFailures := satInc 65535 l.txFailures })
    match x.slot with
    | .status => s1.withMon (fun m => { m with noted := none })
    | .reply => s1.withService (fun v => if v.composed then {} else v)
    | .sync => s1
    | .share => s1

/-- A framing error (R159, R160): the frame being received is dropped and counted, the receiver returns to WAIT_IDLE. One that
the own receiver records while the station transmits ends the transmission and its drive (R170). R170 says so from byte 1 on; that
one before the first data bit ends the frame in the same way is DEDUCED (notes/assumptions/29.md). -/
def State.framingError (s : State) : State :=
  (s.withLine (fun l =>
    let l := { l with framing := satInc 65535 l.framing }.wait
    if l.sending.isSome then l.release s.now else l)).dropOwnFrame

/-- A framing error of the line's level or the lack of an edge: in START a low past 7Tb/4; in FRAME no edge by 17Tb/8 after the SOF
edge or by 9Tb/8 after the bit before, or a data bit's low past 7Tb/8 (R159, R160). -/
def State.framingDue (s : State) : Bool :=
  let dt := elapsed s.now s.line.lastFall
  let u := s.tb / 8
  match s.line.receiver with
  | .start => s.line.low && decide (14 * u < dt)
  | .frame =>
    if s.line.dataBits = 0 then decide (17 * u < dt) else decide (9 * u < dt) || s.line.low && decide (7 * u < dt)
  | .off => false
  | .waitIdle => false
  | .idle => false

/-- FRAMING_ERROR (R159), with the DOZE entry that the end of an own frame can bring (R190). -/
def execFramingError (s : State) : Host.Outcome State Fault Refusal :=
  .next (if s.framingDue then s.framingError.dozeCheck else s)

/-- The line has been recessive for 12Tb (R160, R161): the receiver enters IDLE, the transmitter is enabled and LINE_STUCK no
longer active. -/
def State.lineIdle (s : State) : State :=
  (s.withLine (fun l => { l with txEnabled := true, receiver := .idle })).deactivate .lineStuck

/-- In WAIT_IDLE, the line has been recessive for 12Tb from its last rising edge (R160). -/
def State.idleReached (s : State) : Bool :=
  decide (s.line.receiver = .waitIdle) && !s.line.low && decide (12 * s.tb ≤ elapsed s.now s.line.lastRise)

/-- LINE_IDLE (R160). -/
def execLineIdle (s : State) : Host.Outcome State Fault Refusal := .next (if s.idleReached then s.lineIdle else s)

/-- The line is held (R161): LINE_STUCK is made active and the transmitter disabled. -/
def State.lineHeld (s : State) : State := (s.activate .lineStuck).withLine (fun l => { l with txEnabled := false })

/-- While the receiver is on, a low has lasted 16Tb (R161). -/
def State.holdReached (s : State) : Bool :=
  decide (s.line.receiver ≠ .off) && s.line.low && decide (16 * s.tb ≤ elapsed s.now s.line.lastFall)

/-- LINE_HELD (R161). -/
def execLineHeld (s : State) : Host.Outcome State Fault Refusal := .next (if s.holdReached then s.lineHeld else s)

/-! ## Edges (R159, R160) -/

/-- In STANDBY, a falling edge seen while the station is not transmitting sets the quiet timer and clears the quiet mark
(R190). -/
def State.quietRestart (s : State) : State :=
  if s.pwr.power = .standby ∧ s.line.sending.isNone = true then
    s.withPwr (fun p => { p with quietTimer := some ⟨s.now, 10000000⟩, quietMark := false })
  else s

/-- The falling edge that begins a data bit comes in time: 15Tb/8..17Tb/8 after the SOF edge for the first (R160), 7Tb/8..9Tb/8
after the bit before it for the others (R159). -/
def State.bitInTime (s : State) : Bool :=
  let dt := elapsed s.now s.line.lastFall
  let u := s.tb / 8
  if s.line.dataBits = 0 then decide (15 * u ≤ dt ∧ dt ≤ 17 * u) else decide (7 * u ≤ dt ∧ dt ≤ 9 * u)

/-- A falling edge of SLN, by receiver state (R160, R159). -/
def State.fallingEdge (s : State) : State :=
  match s.line.receiver with
  | .off => s
  | .waitIdle => s.withLine (fun l => { l with lastFall := s.now })
  | .idle => s.withLine (fun l => { l with receiver := .start, lastFall := s.now, dataBits := 0, sampled := [] })
  | .start => s
  | .frame =>
    if s.bitInTime then s.withLine (·.beginBit s.now s.tb)
    else (s.withLine (fun l => { l with lastFall := s.now })).framingError

/-- The count of 12Tb that this moment completes is complete for an edge of this moment too (R160). -/
def State.idleSettled (s : State) : State := if s.idleReached then s.lineIdle else s

/-- A low of 16Tb that this moment completes has lasted 16Tb for a rise of this moment too (R161). -/
def State.holdSettled (s : State) : State := if s.holdReached then s.lineHeld else s

/-- Another station pulls SLN low: an edge where the line was high. DESIGN CHOICE (log 14): in DOZE and while waking this keeps the
level only; the wake is WAKE_EDGE's (R172, R190). -/
def State.pulledLow (s : State) : State :=
  let pull (u : State) : State := u.withLine (fun l => { l with othersLow := true })
  if s.line.low then pull s else (pull s.idleSettled).quietRestart.fallingEdge

/-- LINE_FALLING_EDGE (R160, R190): another station pulls SLN low. -/
def execLineFallingEdge (s : State) : Host.Outcome State Fault Refusal := .next s.pulledLow.dozeCheck

/-- The rising edge that ends a low in START (R160): shorter than 5Tb/4 ignored, up to 7Tb/4 a start of frame, longer a framing
error. -/
def State.judgeLow (s : State) : State :=
  let low := elapsed s.now s.line.lastFall
  let q := s.tb / 4
  if low < 5 * q then s.withLine Line.wait
  else if low ≤ 7 * q then s.withLine (fun l => { l with receiver := .frame, dataBits := 0, sampled := [] })
  else s.framingError

/-- The line rises as the other stations release it: a low in START is judged by its length (R160), a low in FRAME that has passed
its limit is the framing error it has become (R159), and any other low only ends. -/
def State.riseJudged (s : State) : State :=
  let risen := s.withLine (fun l => { l with othersLow := false, lastRise := s.now })
  match s.line.receiver with
  | .start => risen.judgeLow
  | .frame => if s.framingDue then risen.framingError else risen
  | .off => risen
  | .waitIdle => risen
  | .idle => risen

/-- The other stations release SLN: the line rises where the part does not drive it. -/
def State.letGo (s : State) : State :=
  if s.line.drive.isSome then s.withLine (fun l => { l with othersLow := false }) else s.holdSettled.riseJudged

/-- START_OF_FRAME (R160, R159, R161): the rising edge of a low that other stations pulled, with the DOZE entry that the end of an
own frame can bring (R190). -/
def execStartOfFrame (s : State) : Host.Outcome State Fault Refusal :=
  .next (if s.line.othersLow then (if s.line.sending.isSome then s.letGo.dozeCheck else s.letGo) else s)

/-! ## Receive buffers (R166) -/

def Line.buffer (l : Line) : Buffer → Option Received
  | .x => l.bufferX
  | .y => l.bufferY

def Line.setBuffer (l : Line) (b : Buffer) (r : Option Received) : Line :=
  match b with
  | .x => { l with bufferX := r }
  | .y => { l with bufferY := r }

def Buffer.other : Buffer → Buffer
  | .x => .y
  | .y => .x

/-- The buffer the next valid frame is offered to: X first, then the one that did not take the previous valid frame (R166). -/
def Line.turn (l : Line) : Buffer :=
  match l.lastBuffer with
  | none => .x
  | some b => b.other

/-- The buffer that holds the oldest waiting frame: frames leave in the order they came (R166). -/
def Line.oldestBuffer (l : Line) : Buffer := if (l.buffer l.turn).isSome then l.turn else l.turn.other

/-- The oldest waiting frame. -/
def Line.oldest (l : Line) : Option Received := l.buffer l.oldestBuffer

/-- The oldest waiting frame, where it is of this kind. -/
def State.waiting (s : State) (k : Kind) : Option Received :=
  match s.line.oldest with
  | some r => if r.frame.kind = k then some r else none
  | none => none

/-- The owner has taken the oldest frame: its buffer is freed (R166). -/
def State.freeOldest (s : State) : State := s.withLine (fun l => l.setBuffer l.oldestBuffer none)

/-- The kinds that have no owner: their buffer is freed when the peer refresh is done (R166). -/
def Kind.ownerless : Kind → Bool
  | .reply => true
  | .status => true
  | .demand => false
  | .sync => false
  | .share => false
  | .request => false

/-- A valid frame placed in the buffer whose turn it is, which REPLY and STATUS leave empty again (R166). -/
def Line.place (l : Line) (f : Frame) (now : Time) (early : Bool) : Line :=
  { (l.setBuffer l.turn (if f.kind.ownerless then none else some ⟨f, now, early⟩)) with
    lastBuffer := some l.turn
    received := satInc 65535 l.received }

/-- A valid frame (R166): dropped as an overrun where its buffer is not empty, else placed, and the sender's peer record brought
up to date (R132, R133). -/
def State.takeValid (s : State) (f : Frame) : State :=
  if (s.line.buffer s.line.turn).isSome then s.withLine (fun l => { l with overruns := satInc 65535 l.overruns })
  else (s.withLine (·.place f s.now !s.operating)).refreshPeer f

/-- The outcome of the checks of a received frame (R165). -/
def State.received (s : State) : Verdict → State
  | .crcError => s.withLine (fun l => { l with crcErrors := satInc 65535 l.crcErrors })
  | .malformed => s.withLine (fun l => { l with malformed := satInc 65535 l.malformed })
  | .unknownKind => s.withLine (fun l => { l with unknownKind := satInc 65535 l.unknownKind })
  | .clash => s.raiseEvent .stationClash
  | .valid f => s.takeValid f

/-- These bytes complete a frame (R163): they are the bits sampled, at the moment of the last sample, and the station is not
transmitting, nor aborting a frame of its own (R166, R170). -/
def State.receives (s : State) (bytes : List Byte) : Bool :=
  s.sampledNow && s.line.sending.isNone && !s.line.aborting && frameComplete bytes && decide (s.line.sampled = bitsOf bytes)

/-- A frame completes at the sample of its last CRC bit, and the receiver enters WAIT_IDLE (R160, R163); then the checks of
R165. -/
def State.completeFrame (s : State) (bytes : List Byte) : State :=
  (s.withLine Line.wait).received (judgeFrame s.own bytes)

/-- FRAME_RECEIVED (R165). Bytes that are no complete frame complete none (R163). -/
def execFrameReceived (bytes : List Byte) (s : State) : Host.Outcome State Fault Refusal :=
  .next (if s.receives bytes then s.completeFrame bytes else s)

/-! ## Composition (R38, R129, R168, R177, R186) -/

/-- A power state's code in STATUS (R176); the part transmits in STANDBY and RUN only (R177). -/
def Power.code : Power → Nat
  | .run => 2
  | _ => 1

/-- A tracker state's code (R43). -/
def TrkState.code : TrkState → Nat
  | .stopped => 0
  | .seek => 1
  | .crankSync => 2
  | .cycleSync => 3

/-- A cam state's code (R80). -/
def CamState.code : CamState → Nat
  | .off => 0
  | .parking => 1
  | .parked => 2
  | .release => 3
  | .follow => 4
  | .faulted => 5

/-- A reset cause's code (R176). -/
def resetCauseCode : ResetCause → Nat
  | .powerOn => 0
  | .supplyDip => 1
  | .resetLine => 2

/-- A number as one byte. -/
def byteOf (n : Nat) : Byte := BitVec.ofNat 8 n

/-- A number as two bytes, high byte first. -/
def halfWord (n : Nat) : List Byte := bytes16 (BitVec.ofNat 16 n)

/-- A cam moves under drive: PARKING, RELEASE or FOLLOW (R129). -/
def CamState.moving : CamState → Bool
  | .parking => true
  | .release => true
  | .follow => true
  | .off => false
  | .parked => false
  | .faulted => false

/-- The half a SYNC frame carries: the half of the current revolution, a free value while it is undecided (R38,
notes/assumptions/5.md). -/
def State.syncHalf (s : State) : Half := s.trk.half.getD (Config.freeHalf s.freeDraws)

/-- The payload of a SYNC frame (R37, R38). -/
def State.syncPayload (s : State) : List Byte :=
  [byteOf (halfCode s.syncHalf), if s.active (.camSignal .i) then 1 else 0] ++ halfWord s.trk.rpm

/-- The flags byte of a SHARE frame (R127, R129). -/
def State.shareFlags (s : State) : Byte :=
  byteOf ((if s.ownPressure.isSome then 128 else 0) + (if (s.camOf .e).state.moving then 2 else 0)
    + (if (s.camOf .i).state.moving then 1 else 0))

/-- The payload of a SHARE frame (R127, R129). -/
def State.sharePayload (s : State) : List Byte :=
  halfWord s.shr.stationDemand ++ halfWord s.shr.stationGrant ++ halfWord s.shr.fAvail ++ [s.shareFlags]
    ++ match s.ownPressure with
      | some p => halfWord p
      | none => []

/-- The payload of a REPLY frame, from the reply record (R186, R187). -/
def State.replyPayload (s : State) : List Byte :=
  match s.service.reply with
  | some r => [byteOf r.requester, r.code, byteOf r.result.code] ++ r.data
  | none => []

/-- The payload of a STATUS frame (R176, R177). -/
def State.statusPayload (s : State) : List Byte :=
  [byteOf s.pwr.power.code, byteOf s.trk.state.code, byteOf (s.camOf .i).state.code, byteOf (s.camOf .e).state.code,
    byteOf s.mon.presented, byteOf s.mon.others, byteOf (resetCauseCode s.pwr.cause), byteOf (min 255 (s.trk.rpm / 100))]

/-- The payload its owner composes for a slot, from the state as it stands (R168). -/
def State.payloadOf (s : State) : Slot → List Byte
  | .sync => s.syncPayload
  | .share => s.sharePayload
  | .reply => s.replyPayload
  | .status => s.statusPayload

/-- The frame composed for a slot (R168). -/
def State.compose (s : State) (k : Slot) : Frame := ⟨k.kind, s.own, s.line.seq, s.payloadOf k⟩

/-! ## Transmission (R168 to R171) -/

/-- A transmission starts: ACTIVE, transmitter enabled, receiver in IDLE, a slot pending (R168). -/
def State.transmits (s : State) : Option Slot :=
  if s.line.life = .active ∧ s.line.txEnabled = true ∧ s.line.receiver = .idle then s.line.slots.first else none

/-- What the owner notes at the composition (R177, R187; the free value drawn where an undecided half is composed). -/
def State.noteComposed (s : State) (k : Slot) : State :=
  match k with
  | .status => s.withMon (fun m => { m with noted := some m.presented })
  | .reply => s.withService (fun v => { v with composed := true })
  | .sync => if s.trk.half.isNone then { s with freeDraws := s.freeDraws + 1 } else s
  | .share => s

/-- The start of a transmission from a slot: the slot is emptied, the frame composed, the SOF driven for 3Tb/2 (R160, R168). -/
def State.startTransmission (s : State) (k : Slot) : State :=
  (s.withLine (fun l => { l with
    slots := l.slots.set k false
    sending := some ⟨k, (s.compose k).bytes⟩
    drive := some ⟨s.now, 6 * (s.tb / 4)⟩
    receiver := .frame
    lastFall := s.now
    dataBits := 0
    sampled := [] })).noteComposed k

/-- TRANSMIT_START (R168). -/
def execTransmitStart (s : State) : Host.Outcome State Fault Refusal :=
  .next (match s.transmits with
    | some k => s.startTransmission k
    | none => s)

/-- A lost arbitration (R169): the station stops driving and receives on, and the slot of the frame is pending again. -/
def State.loseArbitration (s : State) (x : Transmission) : State :=
  let s1 := (s.withLine (fun l =>
    { l with sending := none, arbLosses := satInc 65535 l.arbLosses }.release s.now)).queue x.slot
  match x.slot with
  | .status => s1.withMon (fun m => { m with noted := none })
  | .reply => s1.withService (fun v => { v with composed := false })
  | .sync => s1
  | .share => s1

/-- The transmission in progress, at the moment of the sample of a data bit. -/
def State.sendingSample (s : State) : Option Transmission := if s.sampledNow then s.line.sending else none

/-- The transmission that loses arbitration: in byte 1, at the sample of a 1 that reads 0 (R169). -/
def State.arbitrationLost (s : State) : Option Transmission :=
  match s.sendingSample with
  | some x => if s.line.dataBits ≤ 8 ∧ x.bit s.line.dataBits = true ∧ s.line.lastSample = false then some x else none
  | none => none

/-- ARBITRATION_LOSS (R169), with the DOZE entry that the end of an own frame can bring (R190). -/
def execArbitrationLoss (s : State) : Host.Outcome State Fault Refusal :=
  .next (match s.arbitrationLost with
    | some x => (s.loseArbitration x).dozeCheck
    | none => s)

/-- A bit error (R170): the frame is dropped and the line driven dominant for 2Tb from the falling edge of the bit. The own receiver
stays in FRAME; FRAMING_ERROR comes there, as at any receiver, when the low passes 7Tb/8 (R159). -/
def State.bitError (s : State) : State :=
  s.dropOwnFrame.withLine (fun l => { l with aborting := true, drive := some ⟨l.lastFall, 2 * s.tb⟩ })

/-- A bit error is sampled: from the first bit of byte 2 to the last CRC bit, a sample that differs from the bit sent (R170). -/
def State.bitErrorSampled (s : State) : Bool :=
  match s.sendingSample with
  | some x => decide (9 ≤ s.line.dataBits ∧ s.line.dataBits ≤ 8 * x.bytes.length
      ∧ s.line.lastSample ≠ x.bit s.line.dataBits)
  | none => false

/-- BIT_ERROR (R170). The DOZE entry that the end of an own frame can bring comes with the end of the 2Tb low (R190,
notes/assumptions/30.md). -/
def execBitError (s : State) : Host.Outcome State Fault Refusal := .next (if s.bitErrorSampled then s.bitError else s)

/-- MON clears the pending flag of the record noted in the STATUS frame that completed (R179). -/
def State.statusCompleted (s : State) : State :=
  let s1 := s.withMon (fun m => { m with noted := none })
  match s.mon.noted with
  | some (n + 1) =>
    if h : n < 20 then
      s1.changeMon (fun m => { m with records := m.records.set n { m.records.get ⟨n, h⟩ with pending := false } })
    else s1
  | _ => s1

/-- The owner of the kind is told that its frame has completed (R171, R179, R187). -/
def State.ownerTold (s : State) (k : Slot) : State :=
  match k with
  | .status => s.statusCompleted
  | .reply => s.withService (fun v => if v.composed then {} else v)
  | .sync => s
  | .share => s

/-- The completion of a transmission (R171). -/
def State.completeTransmission (s : State) (x : Transmission) : State :=
  (s.withLine (fun l => { l with
    sending := none
    seq := (l.seq + 1) % 16
    sent := satInc 65535 l.sent }.wait)).ownerTold x.slot

/-- The transmission whose last CRC bit, its bit 32 + 8n, is sampled as it was sent (R163, R171). -/
def State.lastBit (s : State) : Option Transmission :=
  match s.sendingSample with
  | some x => if s.line.dataBits = 8 * x.bytes.length ∧ s.line.lastSample = x.bit s.line.dataBits then some x else none
  | none => none

/-- TRANSMIT_COMPLETE (R171), with the DOZE entry that the end of an own frame can bring (R190). -/
def execTransmitComplete (s : State) : Host.Outcome State Fault Refusal :=
  .next (match s.lastBit with
    | some x => (s.completeTransmission x).dozeCheck
    | none => s)

end Sys2Proof.Machine
end

