-- ==== Sys2Proof/Machine/PositionLoop.lean ====
section
/-! DEFINITION. The position loop (chapter 5): the arithmetic of the thirteen stages, hold learning, and the loop update. -/

namespace Sys2Proof.Machine

/-! ## The arithmetic of the stages -/

/-- Stage 1: elapsed time in quarter-milliseconds (R97). -/
def elapsedQ (first : Bool) (t last : Time) : Nat := if first then 0 else min 160 (elapsed t last / 500)

/-- Stage 3: the effective error, 0 within the deadband (R99). -/
def effectiveError (deadband : Nat) (e : Int) : Int := if e.natAbs ≤ deadband then 0 else e

/-- Stage 4: the cam demand (R100). -/
def camDemand (eEff : Int) : Nat := min 500 eEff.natAbs

/-- Stage 6: the authority (R102). -/
def authority (st : Settings) (d g f : Nat) : Nat := if d = 0 ∨ f = 0 then 0 else max st.aMin (g * st.aMax / 500)

/-- Stage 7: the proportional term (R103). -/
def proportional (st : Settings) (eEff : Int) : Int := ((st.kp : Int) * eEff).tdiv 16

/-- Stage 8: the integral step ΔI (R104). -/
def integralStep (st : Settings) (eEff : Int) (dtq : Nat) : Int := ((st.ki : Int) * eEff * (dtq : Int)).tdiv 16

/-- Stage 9: the hold point of a hold duty and an integral (R105). -/
def holdPoint (hold : Nat) (integral : Int) : Int := (hold : Int) + integral.tdiv 256

/-- Stage 10: the raw output (R105). -/
def rawOutput (hold : Nat) (p iNew : Int) : Int := (hold : Int) + p + iNew.tdiv 256

/-- Stage 11: the authority band about the hold point (R106). -/
def bandClamp (h : Int) (a : Nat) (u : Int) : Int := if u < h - a then h - a else if h + a < u then h + a else u

/-- Stage 12: ΔI is discarded when the clamp pressed against its direction (R107). -/
def windupHeld (uRaw u dI : Int) : Bool := decide (u ≠ uRaw ∧ ((0 < uRaw - u ∧ 0 < dI) ∨ (uRaw - u < 0 ∧ dI < 0)))

/-- Stage 12: the integral as it is settled (R107). -/
def settleIntegral (st : Settings) (i dI uRaw u : Int) : Int :=
  if windupHeld uRaw u dI then i else clampInt (-((st.iLim : Int) * 256)) ((st.iLim : Int) * 256) (i + dI)

/-- Stage 13: the duty written (R108). -/
def finalDuty (u : Int) : Nat := (clampInt 0 1000 u).toNat

/-- What stages 7 to 13 make of an update. -/
structure StageResult where
  uRaw     : Int
  u        : Int
  integral : Int
  duty     : Nat
  clamped  : Bool
  windup   : Bool
  deriving DecidableEq, Repr

/-- Stages 7 to 13, from the hold duty and integral before the update (R103 to R108). -/
def outputStages (st : Settings) (hold : Nat) (i eEff : Int) (dtq a : Nat) : StageResult :=
  let dI := integralStep st eEff dtq
  let uRaw := rawOutput hold (proportional st eEff) (i + dI)
  let u := bandClamp (holdPoint hold i) a uRaw
  { uRaw := uRaw
    u := u
    integral := settleIntegral st i dI uRaw u
    duty := finalDuty u
    clamped := decide (u ≠ uRaw)
    windup := windupHeld uRaw u dI }

/-! ## Hold learning (R112 to R114) -/

/-- A hold step (R113). -/
def Loop.holdStep (k : Loop) : Loop :=
  let k := { k with holdSteps := satInc 65535 k.holdSteps }
  if 256 ≤ k.integral ∧ k.hold < 700 then { k with hold := k.hold + 1, integral := k.integral - 256 }
  else if k.integral ≤ -256 ∧ 300 < k.hold then { k with hold := k.hold - 1, integral := k.integral + 256 }
  else k

/-- The hold duty has moved 5 ‰ or more from the marked hold duty (R114). -/
def Loop.drifted (k : Loop) : Bool := decide (5 ≤ ((k.hold : Int) - k.marked).natAbs)

/-- A hold step: a change of H goes into the CAM image, and the record is marked dirty where H has moved enough (R113, R114,
R183). -/
def State.holdStep (s : State) (c : Cam) : State :=
  let s1 := s.onLoop c Loop.holdStep
  if (s1.loopOf c).hold = (s.loopOf c).hold then s1
  else
    let s2 := s1.refreshImage c
    if (s2.loopOf c).drifted then (s2.onLoop c (fun k => { k with marked := k.hold })).markDirty (.cam c) else s2

/-- Hold learning after an update in FOLLOW (R112). -/
def State.learnHold (s : State) (c : Cam) (e : Int) (dtq : Nat) : State :=
  if s.settings.deadband < e.natAbs then s.onLoop c (fun k => { k with settled := 0 })
  else
    let t := (s.loopOf c).settled + dtq
    if 4000 ≤ t then (s.onLoop c (fun k => { k with settled := t - 4000 })).holdStep c
    else s.onLoop c (fun k => { k with settled := t })

/-! ## The loop update (R95) -/

/-- LOOP's record after stages 7 to 13. -/
def Loop.written (k : Loop) (r : StageResult) (e : Int) (a : Nat) : Loop :=
  { k with
    integral := r.integral
    lastError := e
    authority := a
    lastDuty := r.duty
    clamps := if r.clamped then satInc 65535 k.clamps else k.clamps
    windups := if r.windup then satInc 65535 k.windups else k.windups }

/-- Stages 1 to 13 of a loop update, with the error, elapsed time and whether the grant was met for the hand-over. -/
structure Update where
  state : State
  error : Int
  dtq   : Nat
  met   : Bool

/-- Stages 1 to 13 of a loop update of cam `c` from the measurement `m` (R97 to R108), in FOLLOW or PARKING. -/
def State.loopStages (s : State) (c : Cam) (m : Measurement) : Update :=
  let following : Bool := decide ((s.camOf c).state = .follow)
  let dtq := elapsedQ (s.loopOf c).first m.time (s.loopOf c).lastUpdate
  let s1 := s.onLoop c (fun k => { k with first := false, lastUpdate := m.time })
  let s2 := if following then s1.stepRamp c dtq else s1
  let target : Int := if following then ((s2.camOf c).ramp : Int) else 0
  let e := target - m.phase
  let eEff := effectiveError s.settings.deadband e
  let d := camDemand eEff
  let s4 := s2.setDemand c d
  let met := s4.shr.grantMet
  let a := authority s.settings d (s4.shr.camGrant c) s4.shr.fAvail
  let s5 := s4.countStarved
  let r := outputStages s.settings (s5.loopOf c).hold (s5.loopOf c).integral eEff dtq a
  { state := (s5.onLoop c (·.written r e a)).onDrv c (fun k => { k with pending := r.duty })
    error := e
    dtq := dtq
    met := met }

/-- A loop update (R95): the thirteen stages, then in FOLLOW hold learning and stuck timing (R109). -/
def State.loopUpdate (s : State) (c : Cam) (m : Measurement) : State :=
  let u := s.loopStages c m
  if (s.camOf c).state = .follow then (u.state.learnHold c u.error u.dtq).timeStuck c u.error u.dtq u.met else u.state

end Sys2Proof.Machine
end

