-- ==== Sys2Proof/Machine/Phase.lean ====
section
/-! DEFINITION. The phase meter (chapter 3): interpolation, identification, phase and plausibility, the handling of a stamped
edge, and the per-cycle tally. -/

namespace Sys2Proof.Machine

/-! ## Interpolation (R50, R51) -/

/-- The largest fraction after a tooth (R51). -/
def fractionLimit (tooth : Nat) : Nat := if tooth = 21 then 719 else 239

/-- The fraction of the way from the last tooth, `delta` ticks after it (R50, R51). -/
def fractionOf (tooth delta pitch : Nat) : Nat := min (fractionLimit tooth) (delta * 240 / pitch)

/-- The cycle angle at which tooth 0 of a half stands (R34). -/
def halfStart : Half → Nat
  | .a => 0
  | .b => 5760

/-- The cycle angle of a cam edge (R50). -/
def cycleAngle (h : Half) (tooth delta pitch : Nat) : Nat := halfStart h + 240 * tooth + fractionOf tooth delta pitch

/-! ## Identification and phase (R52, R53, R54) -/

/-- The index of the reference whose window contains the angle, and the reference (R52). -/
def identify (c : Cam) (k : CamSettings) (angle : Nat) : Option (Nat × Nat) :=
  let inside (ref : Nat) : Bool := decide ((window c ref).1 ≤ angle ∧ (angle : Int) ≤ (window c ref).2)
  if inside k.ref0 then some (0, k.ref0)
  else if inside k.ref1 then some (1, k.ref1)
  else if inside k.ref2 then some (2, k.ref2)
  else if inside k.ref3 then some (3, k.ref3)
  else none

/-- The raw deviation (R53). -/
def rawDeviation (c : Cam) (ref angle : Nat) : Int :=
  match c with
  | .i => (ref : Int) - angle
  | .e => (angle : Int) - ref

/-- A phase that is a valid measurement (R54). -/
def plausible (phase : Int) : Bool := decide (-128 ≤ phase ∧ phase ≤ 928)

/-! ## Handling of a stamped edge (R49) -/

/-- A learn run starts (R59, R60). -/
def State.startRun (s : State) (c : Cam) (o : LearnOrigin) : State := s.onPhm c (·.startRun o)

/-- Step 1 of R49. -/
def State.learnStart (s : State) (c : Cam) : State := if s.autoLearns c then s.startRun c .automatic else s

/-- A valid measurement replaces the record and is handed to CAMC, whose review may start a loop update (R55, R95). -/
def State.measure (s : State) (c : Cam) (m : Measurement) : State :=
  let s1 := (s.onPhm c (fun p => { p with measurement := some m })).review c (some m)
  if (s1.camOf c).state = .follow ∨ (s1.camOf c).state = .parking then s1.loopUpdate c m else s1

/-- Steps 3 to 7 of R49, for an edge identified as edge `e` with reference `ref`. -/
def State.identified (s : State) (c : Cam) (t : Time) (angle e ref : Nat) : State :=
  let s1 := s.onPhm c (fun p => { p with tally := satInc 255 p.tally })
  let raw := rawDeviation c ref angle
  let phase := raw - (s1.phmOf c).offset
  let s2 :=
    if plausible phase then s1.measure c { phase := phase, edge := e, angle := angle, raw := raw, time := t }
    else s1.onPhm c (fun p => { p with implausible := satInc 65535 p.implausible })
  s2.collect c raw

/-- The handling of a stamped edge (R49). -/
def State.stampedEdge (s : State) (c : Cam) (t : Time) (angle : Nat) : State :=
  let s1 := s.learnStart c
  match identify c (s1.camSettings c) angle with
  | none => s1.onPhm c (fun p => { p with stray := satInc 65535 p.stray })
  | some (e, ref) => s1.identified c t angle e ref

/-! ## Per-cycle tally (R56, R57) -/

/-- A bad cycle of a cam (R57, R67). -/
def State.badCycle (s : State) (c : Cam) : State :=
  let s1 := s.onPhm c (fun p => { p with
    goodRun := 0, badRun := satInc 2 p.badRun, badCycles := satInc 65535 p.badCycles })
  if (s1.phmOf c).badRun = 2 ∧ s1.active (.camSignal c) = false then (s1.activate (.camSignal c)).camToOff c else s1

/-- A good cycle of a cam (R57). -/
def State.goodCycle (s : State) (c : Cam) : State :=
  let s1 := s.onPhm c (fun p => { p with badRun := 0, goodRun := satInc 2 p.goodRun })
  if (s1.phmOf c).goodRun = 2 then s1.deactivate (.camSignal c) else s1

/-- The end of a cycle for one cam: evaluated if it was seen whole, then the next cycle begins (R56, R57). -/
def State.cycleEndOf (c : Cam) (s : State) : State :=
  let s1 := if (s.phmOf c).wholeCycle then (if (s.phmOf c).tally < 3 then s.badCycle c else s.goodCycle c) else s
  s1.onPhm c (fun p => { p with tally := 0, wholeCycle := true })

/-- The end of a cycle (R57). -/
def State.cycleEnd (s : State) : State := s.bothCams State.cycleEndOf

/-- The tally as CYCLE_SYNC is entered or left (R56). -/
def State.startTally (s : State) (whole : Bool) : State :=
  s.withPhm (fun p =>
    { i := { p.i with tally := 0, wholeCycle := whole }, e := { p.e with tally := 0, wholeCycle := whole } })

end Sys2Proof.Machine
end

