-- ==== Sys2Proof/Machine/Tracker.lean ====
section
/-! DEFINITION. The angle tracker (chapter 2): taking entries, gap search, tooth checks, revolutions, the half, cycle reports,
and the commands TAKE_CRANK_ENTRY, TAKE_CAM_ENTRY, TAKE_OVERFLOW_MARKER and STALL_TIMEOUT. -/

namespace Sys2Proof.Machine

/-! ## Leaving synchronisation (R21, R25, R35, R42) -/

/-- The tracker leaves CYCLE_SYNC for one cam: its learn run is abandoned (R64) and it goes to OFF (R88). -/
def State.releaseCam (c : Cam) (s : State) : State := (s.onPhm c Phm.abandon).camToOff c

/-- What follows in PHM and CAMC when the tracker leaves CYCLE_SYNC (R35, R56, R64, R88). -/
def State.leaveCycleSync (s : State) : State :=
  if s.trk.state = .cycleSync then (s.bothCams State.releaseCam).startTally false else s

/-- What every departure to SEEK or STOPPED clears (R21, R25, R42). -/
def Trk.unsynced (k : Trk) : Trk :=
  { k with rpm := 0, half := none, adopted := false, revComplete := false, camCounts := .both 0, cycleErrRun := 0 }

/-- The entry to STOPPED (R21), with the stop timer of R189. -/
def State.enterStopped (s : State) : State :=
  (((s.leaveCycleSync.withTrk (fun k =>
    { k.unsynced with state := .stopped, lastCrank := none, tPrev := none, stallRef := none })).deactivate .syncLoss).withdraw
      .sync).stopTimerOnStopped

/-- The loss of synchronisation, to SEEK with the interval and last crank time given (R25, R42). -/
def State.loseSync (s : State) (lastCrank : Option Time) (tPrev : Option Nat) (stallRef : Time) : State :=
  ((s.leaveCycleSync.withTrk (fun k =>
    { k.unsynced with
      state := .seek
      toothErrors := satInc 255 k.toothErrors
      lastCrank := lastCrank
      tPrev := tPrev
      stallRef := some stallRef })).activate .syncLoss).withdraw .sync

/-! ## Speed (R27) -/

/-- rpm from the pitch estimate (R27). -/
def rpmOfPitch (p : Nat) : Nat := min 20000 (5000000 / p)

/-- rpm from the time of a revolution (R26). -/
def rpmOfRevolution (t : Nat) : Nat := min 20000 (120000000 / t)

/-! ## The half (R30 to R34) -/

/-- The verdict of a cam's count: which half the new revolution is (R30). -/
def verdict (k : CamSettings) (count : Nat) : Option Half :=
  if count = k.nA then some .b else if count = k.nB then some .a else none

/-- The two verdicts combined (R30's table). -/
def combineVerdicts : Option Half → Option Half → Option Half
  | none, e => e
  | some h, none => some h
  | some h, some g => if h = g then some h else none

/-- The half decided from the cam counts of the finished revolution (R30). -/
def State.decidedHalf (s : State) : Option Half :=
  combineVerdicts (verdict s.settings.cams.i s.trk.camCounts.i) (verdict s.settings.cams.e s.trk.camCounts.e)

/-- The entry to CYCLE_SYNC by the tracker's own decision (R31, R56). -/
def State.enterCycleSync (s : State) (h : Half) : State :=
  (((s.withTrk (fun k => { k with
    state := .cycleSync, half := some h, adopted := false, cycleErrRun := 0, undecided := 0 })).deactivate
      .syncLoss).deactivate .camPattern).startTally (decide (h = .a))

/-- A revolution that decided no half (R30). -/
def State.undecidedRevolution (s : State) : State :=
  let s1 := s.withTrk (fun k => { k with half := none, undecided := satInc 255 k.undecided })
  if 4 ≤ s1.trk.undecided then s1.activate .camPattern else s1

/-- The reference cam of the cycle check: the exhaust cam while CAM_SIGNAL_I is active (R33). -/
def State.referenceCam (s : State) : Cam := if s.active (.camSignal .i) then .e else .i

/-- The count expected of a cam in a half (R33). -/
def expectedCount (k : CamSettings) : Half → Nat
  | .a => k.nA
  | .b => k.nB

/-- The cycle check matches (R33); `h` is the half of the finished revolution. -/
def State.cycleMatches (s : State) (h : Half) : Bool :=
  decide (s.trk.camCounts.get s.referenceCam = expectedCount (s.camSettings s.referenceCam) h)

/-- The fall to CRANK_SYNC at a second consecutive mismatch (R33). -/
def State.fallToCrankSync (s : State) : State :=
  ((s.leaveCycleSync.withTrk (fun k => { k with
    state := .crankSync, half := none, adopted := false, cycleErrRun := 0 })).withdraw .sync).activate .camPattern

/-- The cycle check and the half of the new revolution (R33, R34). -/
def State.cycleCheck (s : State) : State :=
  let h := s.trk.half.getD .a
  if s.cycleMatches h then
    (s.withTrk (fun k => { k with cycleErrRun := 0, adopted := false, half := some h.next })).deactivate .camPattern
  else
    let s1 := s.withTrk (fun k => { k with mismatches := satInc 65535 k.mismatches })
    if s.trk.cycleErrRun = 0 then s1.withTrk (fun k => { k with cycleErrRun := 1, half := some h.next })
    else s1.fallToCrankSync

/-! ## Revolution completion (R26) -/

/-- Step 1 of R26. -/
def State.revolutionSpeed (s : State) (t : Time) : State :=
  s.withTrk (fun k => { k with rpm := rpmOfRevolution (elapsed t k.revStart), revComplete := true })

/-- Step 2 of R26. -/
def State.revolutionCycleEnd (s : State) : State :=
  if s.trk.state = .cycleSync ∧ s.trk.half = some .b then s.cycleEnd else s

/-- Steps 3 and 5 of R26: half decision or cycle check, and the half of the new revolution. -/
def State.evaluateCounts (s : State) : State :=
  if s.trk.state = .cycleSync then s.cycleCheck
  else match s.decidedHalf with
    | some h => s.enterCycleSync h
    | none => s.undecidedRevolution

/-- Step 4 of R26. -/
def State.newRevolution (s : State) (t : Time) : State :=
  s.withTrk (fun k => { k with camCounts := .both 0, revStart := t })

/-- A revolution completion (R26). -/
def State.completeRevolution (s : State) (t : Time) : State :=
  ((s.revolutionSpeed t).revolutionCycleEnd.evaluateCounts).newRevolution t

/-! ## CRANK entries (R20 to R25) -/

/-- A CRANK entry in STOPPED (R20). -/
def State.crankInStopped (s : State) (t : Time) : State :=
  (s.withTrk (fun k => { k with state := .seek, lastCrank := some t, stallRef := some t })).stopTimerOff

/-- TRK records a crank time in SEEK. -/
def Trk.seekAt (k : Trk) (t : Time) (tPrev : Option Nat) : Trk :=
  { k with lastCrank := some t, stallRef := some t, tPrev := tPrev }

/-- The gap is found: the entry is taken as tooth 0 and the tracker goes to CRANK_SYNC (R22). -/
def Trk.gapFound (k : Trk) (t : Time) (interval : Nat) : Trk :=
  { k with
    state := .crankSync
    tooth := 0
    toothTime := some t
    revStart := t
    pitch := interval / 3
    camCounts := .both 0
    revComplete := false
    half := none
    rpm := rpmOfPitch (interval / 3)
    tPrev := none
    lastCrank := some t
    stallRef := some t }

/-- TRK's record after a CRANK entry in SEEK (R22). -/
def Trk.search (k : Trk) (t : Time) : Trk :=
  match k.lastCrank, k.tPrev with
  | none, _ => k.seekAt t k.tPrev
  | some last, none => k.seekAt t (some (elapsed t last))
  | some last, some prev =>
    if 2 * prev ≤ elapsed t last then k.gapFound t (elapsed t last) else k.seekAt t (some (elapsed t last))

/-- A CRANK entry in SEEK (R22). -/
def State.crankInSeek (s : State) (t : Time) : State := s.withTrk (·.search t)

/-- A tooth accepted: number, time, pitch, last crank time and stall reference (R23, R24). -/
def Trk.accept (k : Trk) (tooth : Nat) (t : Time) (pitch : Nat) : Trk :=
  { k with tooth := tooth, toothTime := some t, pitch := pitch, lastCrank := some t, stallRef := some t }

/-- rpm recomputed at a normal tooth while no revolution has completed (R23, R27). -/
def Trk.toothSpeed (k : Trk) : Trk := if k.revComplete then k else { k with rpm := rpmOfPitch k.pitch }

/-- Tooth 11 queues a SYNC report in CYCLE_SYNC with the adopted flag clear and rpm below 4,000 (R38). -/
def State.reportAtTooth11 (s : State) : State :=
  if s.trk.tooth = 11 ∧ s.trk.state = .cycleSync ∧ s.trk.adopted = false ∧ s.trk.rpm < 4000 then s.queue .sync else s

/-- The time from the last accepted tooth (R23, R24); the tooth time is present once a tooth has been accepted. -/
def Trk.sinceTooth (k : Trk) (t : Time) : Nat := elapsed t (k.toothTime.getD 0)

/-- A CRANK entry in CRANK_SYNC or CYCLE_SYNC: the tooth check and what follows it (R23, R24, R25). -/
def State.crankInSync (s : State) (t : Time) : State :=
  let interval := s.trk.sinceTooth t
  let p := s.trk.pitch
  if s.trk.tooth < 21 then
    if p ≤ 2 * interval ∧ interval < 2 * p then
      (s.withTrk (fun k => (k.accept (k.tooth + 1) t interval).toothSpeed)).reportAtTooth11
    else s.loseSync (some t) (some interval) t
  else
    if 2 * p ≤ interval ∧ interval < 5 * p then
      (s.withTrk (·.accept 0 t (interval / 3))).completeRevolution t
    else s.loseSync (some t) (some interval) t

/-- A CRANK entry whose interval from the last crank time is 400,000 ticks or more (R21). -/
def Trk.late (k : Trk) (t : Time) : Bool :=
  match k.lastCrank with
  | some last => decide (400000 ≤ elapsed t last)
  | none => false

/-- A CRANK entry, by the rule of the tracker state; a late one as if the stall timeout had come first (R19, R21). -/
def State.crankEntry (s : State) (t : Time) : State :=
  if s.trk.late t then s.enterStopped.crankInStopped t
  else match s.trk.state with
    | .stopped => s.crankInStopped t
    | .seek => s.crankInSeek t
    | .crankSync => s.crankInSync t
    | .cycleSync => s.crankInSync t

/-- TAKE_CRANK_ENTRY (R22): the head of the FIFO is a CRANK entry and TRK takes it. -/
def execTakeCrankEntry (s : State) : Host.Outcome State Fault Refusal :=
  .next (match s.headEntry with
    | some ⟨.crank, t⟩ => s.takeHead.crankEntry t
    | _ => s)

/-! ## Cam entries (R28, R29, R36) -/

/-- The cycle angle of a cam edge at time `t`, from the basis of interpolation as it stands (R36, R50). -/
def Trk.angleAt (k : Trk) (t : Time) : Nat := cycleAngle (k.half.getD .a) k.tooth (k.sinceTooth t) k.pitch

/-- A cam edge counted (R28). -/
def State.countCam (s : State) (c : Cam) : State :=
  s.withTrk (fun k => { k with camCounts := k.camCounts.modify c (satInc 255) })

/-- A cam entry, by tracker state (R29). -/
def State.camEntry (s : State) (c : Cam) (t : Time) : State :=
  match s.trk.state with
  | .stopped => s
  | .seek => s
  | .crankSync => s.countCam c
  | .cycleSync => (s.countCam c).stampedEdge c t (s.trk.angleAt t)

/-- TAKE_CAM_ENTRY (R29): the head of the FIFO is a CAM_I or CAM_E entry and TRK takes it. -/
def execTakeCamEntry (s : State) : Host.Outcome State Fault Refusal :=
  .next (match s.headEntry with
    | some ⟨.cam c, t⟩ => s.takeHead.camEntry c t
    | _ => s)

/-! ## OVERFLOW markers (R42) and the stall timeout (R21) -/

/-- An OVERFLOW marker (R42). -/
def State.overflowMarker (s : State) (t : Time) : State :=
  match s.trk.state with
  | .crankSync => s.loseSync s.trk.lastCrank none t
  | .cycleSync => s.loseSync s.trk.lastCrank none t
  | .stopped => (s.withTrk (fun k => { k with
      state := .seek, lastCrank := none, tPrev := none, stallRef := some t })).stopTimerOff
  | .seek => s.withTrk (fun k => { k with lastCrank := none, tPrev := none, stallRef := some t })

/-- TAKE_OVERFLOW_MARKER (R42): the head of the FIFO is a marker and TRK takes it. -/
def execTakeOverflowMarker (s : State) : Host.Outcome State Fault Refusal :=
  .next (match s.headEntry with
    | some ⟨.overflow, t⟩ => s.takeHead.overflowMarker t
    | _ => s)

/-- The stall reference is 400,000 ticks old (R21). -/
def State.stallDue (s : State) : Bool :=
  s.operating && decide (s.trk.state ≠ .stopped) && match s.trk.stallRef with
    | some t => decide (400000 ≤ elapsed s.now t)
    | none => false

/-- STALL_TIMEOUT (R21). -/
def execStallTimeout (s : State) : Host.Outcome State Fault Refusal :=
  .next (if s.stallDue then s.enterStopped else s)

/-! ## Cycle reports (R39 to R41) -/

/-- Tooth window and speed of adoption and disagreement (R40, R41). -/
def Trk.reportWindow (k : Trk) : Bool := decide (k.rpm < 4000 ∧ 12 ≤ k.tooth ∧ k.tooth ≤ 21)

/-- A filed report is adopted (R40). -/
def Trk.adopts (k : Trk) (r : ReportSource) : Bool :=
  decide (r ≠ .adopted) && decide (k.state = .crankSync) && k.reportWindow

/-- A filed report is compared with the own half and gives the opposite one (R41). -/
def Trk.disagrees (k : Trk) (h : Half) (r : ReportSource) : Bool :=
  decide (r = .camI ∨ r = .camE) && decide (k.state = .cycleSync) && !k.adopted && k.reportWindow && decide (k.half = some h.next)

/-- Adoption (R40, R56). -/
def State.adopt (s : State) (h : Half) : State :=
  ((s.withTrk (fun k => { k with
    state := .cycleSync, half := some h, adopted := true, cycleErrRun := 0, undecided := 0
    adoptions := satInc 65535 k.adoptions })).startTally false).deactivate .syncLoss

/-- TRK takes a cycle report from station `n` (R39): filed through SHR, then considered. -/
def State.takeReport (s : State) (n : Nat) (payload : List Byte) : State :=
  match cycleReport payload with
  | none => s
  | some (h, r) =>
    let s1 := s.fileReport n (h, r)
    if s1.trk.adopts r then s1.adopt h
    else if s1.trk.disagrees h r then s1.raiseEvent .cycleDisagree
    else s1

end Sys2Proof.Machine
end

