-- ==== Sys2Proof/Machine/Delivery.lean ====
section
/-! DEFINITION. The owners' takes of delivered frames (R166): DEMAND_FRAME (R70), SHARE_FRAME (R130) and CYCLE_REPORT (R39). Each
takes the oldest waiting frame, where it is of the owner's kind, and frees its buffer. -/

namespace Sys2Proof.Machine

/-- CAMC takes a DEMAND frame (R70): dropped where it was delivered before the store load had completed, counted as foreign from a
station other than 0, accepted from station 0. -/
def State.takeDemand (s : State) (w : Received) : State :=
  if s.operating = false ∨ w.early = true then s
  else if w.frame.station ≠ 0 then s.withCamc (fun k => { k with foreign := satInc 65535 k.foreign })
  else s.acceptDemand w.frame.payload

/-- DEMAND_FRAME (R70). -/
def execDemandFrame (s : State) : Host.Outcome State Fault Refusal :=
  .next (match s.waiting .demand with
    | some w => s.freeOldest.takeDemand w
    | none => s)

/-- SHARE_FRAME (R130). -/
def execShareFrame (s : State) : Host.Outcome State Fault Refusal :=
  .next (match s.waiting .share with
    | some r => s.freeOldest.fileShare r
    | none => s)

/-- CYCLE_REPORT (R39). -/
def execCycleReport (s : State) : Host.Outcome State Fault Refusal :=
  .next (match s.waiting .sync with
    | some r => s.freeOldest.takeReport r.frame.station r.frame.payload
    | none => s)

end Sys2Proof.Machine
end

