-- ==== Sys2Proof/Machine/Store.lean ====
section
/-! DEFINITION. The settings store (section 10.1): the load of the start sequence, the writes, and the commands
STORE_LOAD_COMPLETE, STORE_WRITE_START and STORE_WRITE_END. -/

namespace Sys2Proof.Machine

/-! ## Images, marks and STORE_FAULT (R183) -/

/-- What a write copies of a record's image: all of CONFIG's, and a CAM record's with its spare bytes written as 0 (R182, R183). -/
def Store.image (t : Store) : Rec → List Byte
  | .config => t.configImage
  | .cam c => (t.camImages.get c).take 4 ++ [0, 0]

/-- A fault mark is set (R183). -/
def Store.anyFault (t : Store) : Bool := t.fault.config || t.fault.cams.i || t.fault.cams.e

/-- STORE_FAULT follows the fault marks: active while any is set (R183). -/
def State.tellStoreFault (s : State) : State :=
  if s.store.anyFault then s.activate .storeFault else s.deactivate .storeFault

/-! ## Writes (R185) -/

/-- The first dirty record in the order CONFIG, CAM-I, CAM-E (R185). -/
def Store.firstDirty (t : Store) : Option Rec :=
  if t.dirty.config then some .config
  else if t.dirty.cams.i then some (.cam .i)
  else if t.dirty.cams.e then some (.cam .e)
  else none

/-- The write time of a record: 4 ms for each started 16 bytes, with its check (R182, R185). -/
def Rec.writeTicks : Rec → Nat
  | .config => 40000
  | .cam _ => 8000

/-- The record whose write starts: the load has completed, no write is in flight, SUPPLY_LOW is not active (R185). -/
def State.writeReady (s : State) : Option Rec :=
  if s.operating && s.store.inFlight.isNone && !s.active .supplyLow then s.store.firstDirty else none

/-- The start of a write: the image copied, the dirty mark cleared, the end time set (R185). -/
def State.startWrite (s : State) (r : Rec) : State :=
  s.withStore (fun t => { t with
    dirty := t.dirty.set r false
    inFlight := some ⟨r, withCrc (t.image r), ⟨s.now, r.writeTicks⟩⟩ })

/-- STORE_WRITE_START (R185). -/
def execStoreWriteStart (s : State) : Host.Outcome State Fault Refusal :=
  .next (match s.writeReady with
    | some r => s.startWrite r
    | none => s)

/-- The end of a write: the bytes read back are what the stored copy now holds; they are compared with the copy taken at the
start (R185). -/
def State.endWrite (s : State) (w : Write) (readBack : List Byte) : State :=
  let s1 := (s.withStored (·.set w.record (.whole readBack))).withStore (fun t =>
    if readBack = w.copy then
      { t with inFlight := none, completed := satInc 65535 t.completed, fault := t.fault.set w.record false }
    else
      { t with
        inFlight := none
        verifyFails := satInc 65535 t.verifyFails
        fault := t.fault.set w.record true
        dirty := t.dirty.set w.record true })
  s1.tellStoreFault

/-- The write in flight whose end time is reached (R185). -/
def State.writeDone (s : State) : Option Write :=
  match s.store.inFlight with
  | some w => if w.endTime.len ≤ elapsed s.now w.endTime.start then some w else none
  | none => none

/-- STORE_WRITE_END (R185), with the DOZE entry that the end of the last write can bring (R190). -/
def execStoreWriteEnd (readBack : List Byte) (s : State) : Host.Outcome State Fault Refusal :=
  .next (match s.writeDone with
    | some w => (s.endWrite w readBack).dozeCheck
    | none => s)

/-! ## Load (R184, R191) -/

/-- The phase meter takes a loaded offset and status (R184). -/
def Phm.loaded (p : Phm) (r : CamRecord) : Phm :=
  { p with offset := r.offset, status := if r.learned then .learned else .notLearned }

/-- The position loop takes a loaded hold duty as its hold duty and its marked hold duty (R184). -/
def Loop.loaded (k : Loop) (r : CamRecord) : Loop := { k with hold := r.hold, marked := r.hold }

/-- The marks a load sets: the records whose check or load check failed (R184). -/
def State.loadMarks (s : State) : PerRec Bool :=
  ⟨(loadConfig s.stored.config).2.2, ⟨(loadCam s.stored.cams.i).2.2, (loadCam s.stored.cams.e).2.2⟩⟩

/-- The three records read, checked and taken, with the marks of those that failed (R184). -/
def State.loadRecords (s : State) : State :=
  ({ s with
    settings := (loadConfig s.stored.config).1
    phm := ⟨s.phm.i.loaded (loadCam s.stored.cams.i).1, s.phm.e.loaded (loadCam s.stored.cams.e).1⟩
    loop := ⟨s.loop.i.loaded (loadCam s.stored.cams.i).1, s.loop.e.loaded (loadCam s.stored.cams.e).1⟩
    store := { s.store with
      configImage := (loadConfig s.stored.config).2.1
      camImages := ⟨(loadCam s.stored.cams.i).2.1, (loadCam s.stored.cams.e).2.1⟩
      dirty := s.loadMarks
      fault := s.loadMarks } }).tellStoreFault

/-- The end of the start sequence (R191): the demand age starts (R73), SHR chooses its source (R117), the station is in LISTEN for
50 ms (R172), STANDBY is entered, and RUN at once where the crank mark is set, which is then cleared. -/
def State.finishStart (s : State) : State :=
  let s1 := (s.withCamc (fun k => { k with ageStart := some s.now })).chooseSource
  let s2 := (s1.withLine (fun l => { l with life := .listen })).withPwr
    (fun p => { p with sequence := none, listenTimer := some ⟨s.now, 100000⟩ })
  let s3 := s2.enterStandby
  if s3.pwr.crankMark then s3.enterRun.withPwr (fun p => { p with crankMark := false }) else s3

/-- The 1 ms of the store load has passed (R184). -/
def State.loadDue (s : State) : Bool := decide (s.pwr.power = .loading) && dueAt s.pwr.sequence s.now

/-- STORE_LOAD_COMPLETE (R184, R191). -/
def execStoreLoadComplete (s : State) : Host.Outcome State Fault Refusal :=
  .next (if s.loadDue then s.loadRecords.finishStart else s)

end Sys2Proof.Machine
end

