-- ==== Sys2Proof/Machine/Service.lean ====
section
/-! DEFINITION. Service requests (section 10.2): the reply record, the judging of a request, the values the reads carry, and the
commands READ_CAM to CLEAR_CONDITIONS and UNKNOWN_REQUEST. -/

namespace Sys2Proof.Machine

/-! ## The reply record and the judging of a request (R187) -/

/-- A request answered: the reply record replaced, and REPLY queued (R187). -/
def State.answer (s : State) (f : Frame) (result : Result) (data : List Byte) : State :=
  (s.withService (fun _ =>
    { reply := some ⟨f.station, f.payload.getD 1 0, result, data⟩, composed := false })).queue .reply

/-- The oldest waiting frame, where it is a REQUEST and makes this request; `none` stands for an unknown code or a length not
accepted for the code (R187). -/
def State.request (s : State) (r : Option Request) : Option Received :=
  match s.waiting .request with
  | some w => if requestOf w.frame.payload = r then some w else none
  | none => none

/-- A request is served: it was delivered once the store load had completed, the own station number is not 0 and is the
destination byte (R187). -/
def State.serves (s : State) (w : Received) : Bool :=
  s.operating && !w.early && decide (s.own ≠ 0 ∧ (w.frame.payload.getD 0 0).toNat = s.own)

/-- A taken request frees its buffer (R166), and is served by `k` or dropped (R187). -/
def State.serveRequest (s : State) (w : Received) (k : State → State) : State :=
  if s.serves w then k s.freeOldest else s.freeOldest

/-! ## Values (R188) -/

/-- A flag as a value (R188). -/
def flagValue (b : Bool) : Int := if b then 1 else 0

/-- Part `p` of a list of values: values 6p + 1 to 6p + 6, as many as exist (R188). -/
def partOf (values : List Int) (p : Nat) : List Byte := ((values.drop (6 * p)).take 6).flatMap value16

/-- The demand mode's code (R92). -/
def DemandMode.code : DemandMode → Int
  | .run => 1
  | .park => 2
  | .hold => 3

/-- The loss stage's code (R92). -/
def LossStage.code : LossStage → Int
  | .none => 0
  | .lossHold => 1
  | .lossPark => 2

/-- The learn status's code (R188). -/
def LearnStatus.code : LearnStatus → Int
  | .notLearned => 0
  | .learning => 1
  | .learned => 2

/-- The code of a learn result (R188). -/
def LearnOutcome.code : LearnOutcome → Int
  | .ok => 0
  | .spread => 1
  | .range => 2
  | .aborted => 3

/-- How a run was started (R188). -/
def LearnOrigin.code : LearnOrigin → Int
  | .automatic => 0
  | .requested => 1

/-- A role's code (R188). -/
def Role.code : Role → Int
  | .controller => 0
  | .phase => 1
  | .other => 2

/-- Values 9 and 10 of READ_CAM page 0: phase and edge index of the measurement record, or the codes of its absence (R68). -/
def measuredValues : Option Measurement → List Int
  | some m => [m.phase, m.edge]
  | none => [32767, 255]

/-- READ_CAM page 0 (R188, R92, R68, R115, R156). -/
def State.camPage0 (s : State) (c : Cam) : List Int :=
  ([(s.camOf c).state.code, (s.camOf c).commanded, s.effectiveTarget c, (s.camOf c).ramp, s.camc.mode.code,
    s.camc.loss.code, flagValue s.camc.cold, (s.camOf c).stuck] : List Int)
  ++ measuredValues (s.phmOf c).measurement
  ++ ([(s.phmOf c).status.code, (s.loopOf c).lastError, s.shr.demand.get c, (s.loopOf c).authority, (s.loopOf c).lastDuty,
    (s.loopOf c).integral.tdiv 256, (s.drvOf c).pending, (s.drvOf c).active, (s.drvOf c).applied] : List Int)

/-- Values 5 to 9 of READ_CAM page 1: the last learn result, or the code NONE and 0 where it is absent (R65, R188). -/
def learnValues : Option LearnResult → List Int
  | some r => [r.outcome.code, r.collected, ((r.spread.getD 0 : Nat) : Int), r.mean.getD 0, r.origin.code]
  | none => [255, 0, 0, 0, 0]

/-- READ_CAM page 1 (R188, R68, R115, R156). -/
def State.camPage1 (s : State) (c : Cam) : List Int :=
  ([(s.phmOf c).offset, (s.phmOf c).status.code, flagValue (s.phmOf c).learnDone, (s.phmOf c).collector.length] : List Int)
  ++ learnValues (s.phmOf c).lastResult
  ++ ([flagValue (s.active (.camSignal c)), (s.phmOf c).badRun, (s.phmOf c).goodRun, (s.loopOf c).hold, (s.loopOf c).marked,
    (s.loopOf c).settled, (s.drvOf c).ditherPhase, (s.drvOf c).tripRun, (s.drvOf c).openRun, (s.drvOf c).meanCurrent,
    (s.drvOf c).supplyRead] : List Int)

/-- The tooth number as reported: 0 in STOPPED and SEEK (R43). -/
def Trk.shownTooth (k : Trk) : Nat :=
  match k.state with
  | .stopped => 0
  | .seek => 0
  | .crankSync => k.tooth
  | .cycleSync => k.tooth

/-- The half as reported: A 0, B 1, undecided 2 (R43). -/
def shownHalf : Option Half → Int
  | some h => halfCode h
  | none => 2

/-- READ_TRACKER's values (R43). -/
def Trk.values (k : Trk) : List Int :=
  [k.state.code, k.rpm, k.shownTooth, shownHalf k.half, flagValue k.adopted, k.toothErrors]

/-- The moving bits as a value: bit 0 cam I, bit 1 cam E (R188). -/
def movingValue (m : PerCam Bool) : Int := flagValue m.i + 2 * flagValue m.e

/-- Values 7 to 11 of READ_PEER: D, G, flow, pressure and moving bits. The codes of R139 stand for the absent ones, but for the
moving bits, which then are the free value handed in (notes/assumptions/6.md). -/
def Peer.shareValues (p : Peer) (moving : Int) : List Int :=
  let pressure : Int := match p.pressure with
    | some k => k
    | none => 65535
  match p.share with
  | some d => [(d.demand : Int), d.grant, d.flow, pressure, movingValue d.moving]
  | none => [65535, 65535, 65535, pressure, moving]

/-- Values 12 and 13 of READ_PEER: the cycle report's half and source, or the code 255 for each (R139). -/
def reportValues : Option (Half × ReportSource) → List Int
  | some (h, r) => [halfCode h, r.code]
  | none => [255, 255]

/-- READ_PEER's values (R139, R188). -/
def Peer.values (p : Peer) (now : Time) (moving : Int) : List Int :=
  [(p.station : Int), p.role.code, flagValue (!p.fresh), p.lastSeq, p.missed, ((elapsed now p.lastRefresh / 2000 : Nat) : Int)]
  ++ p.shareValues moving ++ reportValues p.report

/-- READ_CONDITION's values (R188). -/
def CondRecord.values (r : CondRecord) : List Int := [flagValue r.active, flagValue r.pending, r.count]

/-- A number for cam I, then for cam E, of each of two or three counters (R188). -/
def perCamCounters (f : Cam → List Nat) : List Nat := f .i ++ f .e

/-- The counters of a group (R188's table). -/
def State.counters (s : State) : Nat → List Nat
  | 0 => [s.cap.crankNoise, s.cap.camNoise.i, s.cap.camNoise.e, s.cap.overflows]
  | 1 => [s.trk.toothErrors, s.trk.undecided, s.trk.mismatches, s.trk.adoptions]
  | 2 => perCamCounters (fun c => [(s.phmOf c).stray, (s.phmOf c).implausible, (s.phmOf c).badCycles])
  | 3 => perCamCounters (fun c => [(s.loopOf c).clamps, (s.loopOf c).windups, (s.loopOf c).holdSteps])
  | 4 => [s.shr.starved, s.shr.created, s.shr.deleted]
  | 5 => perCamCounters (fun c => [(s.drvOf c).trips, (s.drvOf c).openPeriods])
  | 6 => [s.line.framing, s.line.crcErrors, s.line.malformed, s.line.unknownKind, s.line.overruns, s.line.received]
  | 7 => [s.line.arbLosses, s.line.txFailures, s.line.sent, s.camc.foreign, s.store.completed, s.store.verifyFails]
  | _ => []

/-! ## The requests (R187, R188) -/

/-- The cam of a cam code (Conventions: 0 is I, 1 is E). -/
def camOfCode (n : Nat) : Cam := if n = 0 then .i else .e

/-- READ_CAM served (R187, R188). -/
def State.readCam (f : Frame) (s : State) : State :=
  let cam := argument f.payload 0
  let page := argument f.payload 1
  let part := argument f.payload 2
  if 1 < cam ∨ 1 < page ∨ 3 < part then s.answer f .badIndex []
  else if page = 0 then s.answer f .ok (partOf (s.camPage0 (camOfCode cam)) part)
  else s.answer f .ok (partOf (s.camPage1 (camOfCode cam)) part)

/-- READ_CAM (R188). -/
def execReadCam (s : State) : Host.Outcome State Fault Refusal :=
  .next (match s.request (some .readCam) with
    | some w => s.serveRequest w (State.readCam w.frame)
    | none => s)

/-- READ_TRACKER served (R187, R188, R43). -/
def State.readTracker (f : Frame) (s : State) : State :=
  if 0 < argument f.payload 0 then s.answer f .badIndex [] else s.answer f .ok (partOf s.trk.values 0)

/-- READ_TRACKER (R188). -/
def execReadTracker (s : State) : Host.Outcome State Fault Refusal :=
  .next (match s.request (some .readTracker) with
    | some w => s.serveRequest w (State.readTracker w.frame)
    | none => s)

/-- READ_PEER served (R139, R187). The table holds no record for the own number or for 8 and above (R131), so a missing record
covers every BAD_INDEX of R139. Reading a record with no SHARE filed draws a free value. -/
def State.readPeer (f : Frame) (s : State) : State :=
  let n := argument f.payload 0
  let part := argument f.payload 1
  if n = s.own ∨ 8 ≤ n ∨ 2 < part then s.answer f .badIndex []
  else match s.shr.peer n with
    | none => s.answer f .badIndex []
    | some p =>
      let s1 := s.answer f .ok (partOf (p.values s.now (Config.freeMoving s.freeDraws).toNat) part)
      if p.share.isNone then { s1 with freeDraws := s1.freeDraws + 1 } else s1

/-- READ_PEER (R139). -/
def execReadPeer (s : State) : Host.Outcome State Fault Refusal :=
  .next (match s.request (some .readPeer) with
    | some w => s.serveRequest w (State.readPeer w.frame)
    | none => s)

/-- READ_CONDITION served (R187, R188). -/
def State.readCondition (f : Frame) (s : State) : State :=
  let code := argument f.payload 0
  if h : 1 ≤ code ∧ code ≤ 20 then
    s.answer f .ok (partOf (s.mon.records.get ⟨code - 1, by omega⟩).values 0)
  else s.answer f .badIndex []

/-- READ_CONDITION (R188). -/
def execReadCondition (s : State) : Host.Outcome State Fault Refusal :=
  .next (match s.request (some .readCondition) with
    | some w => s.serveRequest w (State.readCondition w.frame)
    | none => s)

/-- READ_COUNTERS served (R187, R188). -/
def State.readCounters (f : Frame) (s : State) : State :=
  let group := argument f.payload 0
  if 7 < group then s.answer f .badIndex []
  else s.answer f .ok (partOf ((s.counters group).map (fun n => (n : Int))) 0)

/-- READ_COUNTERS (R188). -/
def execReadCounters (s : State) : Host.Outcome State Fault Refusal :=
  .next (match s.request (some .readCounters) with
    | some w => s.serveRequest w (State.readCounters w.frame)
    | none => s)

/-- READ_SETTING served (R187): image 0 the settings in use, encoded; image 1 the next-start image, its left-over
bits read as 0 (R182). -/
def State.readSetting (f : Frame) (s : State) : State :=
  let group := argument f.payload 0
  let image := argument f.payload 1
  if 7 < group ∨ 1 < image then s.answer f .badIndex []
  else if image = 0 then s.answer f .ok (encodeGroup s.settings group)
  else s.answer f .ok (groupRead s.store.configImage group)

/-- READ_SETTING (R187). -/
def execReadSetting (s : State) : Host.Outcome State Fault Refusal :=
  .next (match s.request (some .readSetting) with
    | some w => s.serveRequest w (State.readSetting w.frame)
    | none => s)

/-- The next-start image with a group replaced, CONFIG marked dirty (R187). -/
def State.editImage (s : State) (group : Nat) (bytes : List Byte) : State :=
  (s.withStore (fun t => { t with configImage := replaceGroup t.configImage group bytes })).markDirty .config

/-- WRITE_SETTING served (R187). -/
def State.writeSetting (f : Frame) (s : State) : State :=
  let group := argument f.payload 0
  if 7 < group then s.answer f .badIndex []
  else if s.trk.state ≠ .stopped then s.answer f .refused []
  else (s.editImage group ((f.payload.drop 3).take 8)).answer f .ok []

/-- WRITE_SETTING (R187). -/
def execWriteSetting (s : State) : Host.Outcome State Fault Refusal :=
  .next (match s.request (some .writeSetting) with
    | some w => s.serveRequest w (State.writeSetting w.frame)
    | none => s)

/-- LEARN_PARK served (R60). -/
def State.learnPark (f : Frame) (s : State) : State :=
  let cam := argument f.payload 0
  let c := camOfCode cam
  if 1 < cam then s.answer f .badIndex []
  else if (s.phmOf c).status = .learning then s.answer f .busy []
  else if s.canLearn c then (s.startRun c .requested).answer f .ok []
  else s.answer f .refused []

/-- LEARN_PARK (R60). -/
def execLearnPark (s : State) : Host.Outcome State Fault Refusal :=
  .next (match s.request (some .learnPark) with
    | some w => s.serveRequest w (State.learnPark w.frame)
    | none => s)

/-- Step 1 of R180 on one record. -/
def CondRecord.cleared (r : CondRecord) : CondRecord := if r.active then r else { r with pending := false, count := 0 }

/-- Step 2 of R180 on one latched record of a cam in FAULTED. -/
def CondRecord.released (r : CondRecord) : CondRecord := if r.active then { r with active := false, pending := true } else r

/-- Step 2 of R180 for one cam: its three latched records. -/
def Mon.release (m : Mon) (c : Cam) : Mon :=
  [Cond.coilShort c, .openLoad c, .phaseStuck c].foldl (fun m k => m.put k (m.get k).released) m

/-- Steps 1 and 2 of R180 on the records. -/
def Mon.clear (m : Mon) (faulted : PerCam Bool) : Mon :=
  let m1 := { m with records := m.records.map CondRecord.cleared }
  let m2 := if faulted.i then m1.release .i else m1
  if faulted.e then m2.release .e else m2

/-- A cam in FAULTED goes to OFF at a clearing (R180, R89). -/
def State.releaseFaulted (c : Cam) (s : State) : State :=
  if (s.camOf c).state = .faulted then s.enterCam c .off s.now else s

/-- CLEAR_CONDITIONS carried out by MON in one step (R180). -/
def State.clearConditions (s : State) : State :=
  (s.changeMon (·.clear ⟨decide ((s.camOf .i).state = .faulted), decide ((s.camOf .e).state = .faulted)⟩)).bothCams
    State.releaseFaulted

/-- CLEAR_CONDITIONS (R180, R187). -/
def execClearConditions (s : State) : Host.Outcome State Fault Refusal :=
  .next (match s.request (some .clearConditions) with
    | some w => s.serveRequest w (fun t => t.clearConditions.answer w.frame .ok [])
    | none => s)

/-- UNKNOWN_REQUEST (R187): an unknown code, or a payload length not accepted for the code. -/
def execUnknownRequest (s : State) : Host.Outcome State Fault Refusal :=
  .next (match s.request none with
    | some w => s.serveRequest w (·.answer w.frame .badRequest [])
    | none => s)

end Sys2Proof.Machine
end

