-- ==== Sys2Proof/Machine/Clock.lean ====
section
/-! DEFINITION. The part's own time: the steps whose moment the spec fixes by time and state alone, which the part takes by itself,
and the tick of 0.5 µs. `step` uses them on an empty queue (notes/assumptions/2.md). -/

namespace Sys2Proof.Machine

/-- A command, where it is due. -/
def whenDue (b : Bool) (i : Instr) : List Instr := if b then [i] else []

/-- A command of each cam, where it is due for the cam. -/
def whenDueOf (f : Cam → Bool) (i : Cam → Instr) : List Instr := whenDue (f .i) (i .i) ++ whenDue (f .e) (i .e)

/-- A command of each station, where it is due for the station. -/
def whenDueAt (f : Nat → Bool) (i : Fin 8 → Instr) : List Instr := ((List.finRange 8).filter (fun n => f n.val)).map i

/-- The start sequence, the filters and the tracker (R184, R3, R4, R21). -/
def State.dueInAngleChain (s : State) : List Instr :=
  whenDue s.loadDue .storeLoadComplete
  ++ whenDue (forgetDue s.cap.crankLast s.now) .crankFilterForget
  ++ whenDueOf (fun c => forgetDue (s.cap.camLast.get c) s.now) .camFilterForget
  ++ whenDue s.stallDue .stallTimeout
  ++ whenDue s.passDue .scanPassStart

/-- Demand processor, cam machines and flow share unit (R73, R75, R86, R80, R128, R135, R136). -/
def State.dueInDemandChain (s : State) : List Instr :=
  whenDue s.demandTimeoutDue .demandTimeout
  ++ whenDue s.holdDue .holdExpiry
  ++ whenDueOf s.releaseDue .releaseExpiry
  ++ whenDueOf s.restedDue .restedMark
  ++ whenDue s.shareTimerDue .shareTimer
  ++ whenDueAt s.staleDue .peerStale
  ++ whenDueAt s.deleteDue .peerDelete

/-- Valve drivers and supply monitor (R148, R145, R153, R154). -/
def State.dueInOutputChain (s : State) : List Instr :=
  whenDueOf s.onTimeOver .onTimeEnd
  ++ whenDueOf s.boundaryDue .periodBoundary
  ++ whenDue (dueAt s.supply.lowExpiry s.now) .supplyLowExpiry
  ++ whenDue (dueAt s.supply.recoveryExpiry s.now) .supplyRecoveryExpiry

/-- The receiver and the ends of a transmission (R159, R160, R161, R163, R169, R170, R171). -/
def State.dueOnLine (s : State) : List Instr :=
  whenDue s.framingDue .framingError
  ++ whenDue s.arbitrationLost.isSome .arbitrationLoss
  ++ whenDue s.bitErrorSampled .bitError
  ++ whenDue s.lastBit.isSome .transmitComplete
  ++ whenDue (s.receives (bytesOfBits s.line.sampled)) (.frameReceived (bytesOfBits s.line.sampled))
  ++ whenDue (s.holdReached && !s.active .lineStuck) .lineHeld
  ++ whenDue s.idleReached .lineIdle

/-- Listen and status timers, transmitter, store and power control (R172, R178, R168, R185, R189, R190). -/
def State.dueInPowerControl (s : State) : List Instr :=
  whenDue (dueAt s.pwr.listenTimer s.now) .listenExpiry
  ++ whenDue s.statusTimerDue .statusTimer
  ++ whenDue s.transmits.isSome .transmitStart
  ++ whenDue s.writeReady.isSome .storeWriteStart
  ++ whenDue (decide (s.pwr.power = .run) && dueAt s.pwr.stopTimer s.now) .stopTimer
  ++ whenDue s.quietDue .quietTimer
  ++ whenDue (decide (s.pwr.power = .waking ∧ 400 ≤ s.pwr.wakeTicks)) .wakeComplete

/-- The steps that are due now and need nothing from outside, in a fixed order (DESIGN CHOICE: the spec gives no order to steps
that fall together, notes/assumptions/2.md). -/
def State.ownEvents (s : State) : List Instr :=
  s.dueInAngleChain ++ s.dueInDemandChain ++ s.dueInOutputChain ++ s.dueOnLine ++ s.dueInPowerControl

/-- One tick of 0.5 µs: the time counter advances by one and wraps (R1), but while a reset is asserted (R191) and in DOZE (R190); a
wake is timed by the detectors (R190). While the receiver is on, the line controller drives and samples SLN (R158, R159). -/
def State.clockTick (s : State) : State :=
  match s.pwr.power with
  | .held => s
  | .doze => s
  | .waking => s.withPwr (fun p => { p with wakeTicks := p.wakeTicks + 1 })
  | .startDelay => { s with now := s.now + 1 }
  | .loading => { s with now := s.now + 1 }.withLine (·.tick (s.now + 1) s.tb)
  | .standby => { s with now := s.now + 1 }.withLine (·.tick (s.now + 1) s.tb)
  | .run => { s with now := s.now + 1 }.withLine (·.tick (s.now + 1) s.tb)

/-- A tick, with the DOZE entry that the end of the 2Tb low of a bit error can bring (R170, R190, notes/assumptions/30.md). -/
def State.tick (s : State) : State :=
  let t := s.clockTick
  if s.line.aborting && !t.line.aborting then t.dozeCheck else t

/-- What the part does when no command waits: the steps that are due are put into its queue, or, where none is, one tick passes. -/
def State.idle (s : State) : State :=
  match s.ownEvents with
  | [] => s.tick
  | i :: rest => { s with pending := i :: rest }

end Sys2Proof.Machine
end

