-- ==== Sys2Proof/Machine/Dispatch.lean ====
section
/-! DEFINITION. The meaning of every command: one arm per constructor of Instr, one direct call each. -/

namespace Sys2Proof.Machine

def exec (i : Instr) (s : State) : Host.Outcome State Fault Refusal :=
  match i with
  | .crankEdge => Sys2Proof.Machine.execCrankEdge s
  | .camEdge c => Sys2Proof.Machine.execCamEdge c s
  | .crankFilterForget => Sys2Proof.Machine.execCrankFilterForget s
  | .camFilterForget c => Sys2Proof.Machine.execCamFilterForget c s
  | .takeCrankEntry => Sys2Proof.Machine.execTakeCrankEntry s
  | .takeCamEntry => Sys2Proof.Machine.execTakeCamEntry s
  | .takeOverflowMarker => Sys2Proof.Machine.execTakeOverflowMarker s
  | .stallTimeout => Sys2Proof.Machine.execStallTimeout s
  | .cycleReport => Sys2Proof.Machine.execCycleReport s
  | .coilCurrentConversion c count => Sys2Proof.Machine.execCoilCurrentConversion c count s
  | .supplyConversion count => Sys2Proof.Machine.execSupplyConversion count s
  | .pressureConversion count => Sys2Proof.Machine.execPressureConversion count s
  | .temperatureConversion count => Sys2Proof.Machine.execTemperatureConversion count s
  | .scanPassStart => Sys2Proof.Machine.execScanPassStart s
  | .demandFrame => Sys2Proof.Machine.execDemandFrame s
  | .demandTimeout => Sys2Proof.Machine.execDemandTimeout s
  | .holdExpiry => Sys2Proof.Machine.execHoldExpiry s
  | .releaseExpiry c => Sys2Proof.Machine.execReleaseExpiry c s
  | .restedMark c => Sys2Proof.Machine.execRestedMark c s
  | .shareFrame => Sys2Proof.Machine.execShareFrame s
  | .shareTimer => Sys2Proof.Machine.execShareTimer s
  | .peerStale station => Sys2Proof.Machine.execPeerStale station s
  | .peerDelete station => Sys2Proof.Machine.execPeerDelete station s
  | .periodBoundary c => Sys2Proof.Machine.execPeriodBoundary c s
  | .onTimeEnd c => Sys2Proof.Machine.execOnTimeEnd c s
  | .currentTrip c milliamps => Sys2Proof.Machine.execCurrentTrip c milliamps s
  | .supplyLowExpiry => Sys2Proof.Machine.execSupplyLowExpiry s
  | .supplyRecoveryExpiry => Sys2Proof.Machine.execSupplyRecoveryExpiry s
  | .framingError => Sys2Proof.Machine.execFramingError s
  | .lineIdle => Sys2Proof.Machine.execLineIdle s
  | .lineHeld => Sys2Proof.Machine.execLineHeld s
  | .frameReceived bytes => Sys2Proof.Machine.execFrameReceived bytes s
  | .transmitStart => Sys2Proof.Machine.execTransmitStart s
  | .arbitrationLoss => Sys2Proof.Machine.execArbitrationLoss s
  | .bitError => Sys2Proof.Machine.execBitError s
  | .transmitComplete => Sys2Proof.Machine.execTransmitComplete s
  | .listenExpiry => Sys2Proof.Machine.execListenExpiry s
  | .statusTimer => Sys2Proof.Machine.execStatusTimer s
  | .readCam => Sys2Proof.Machine.execReadCam s
  | .readTracker => Sys2Proof.Machine.execReadTracker s
  | .readPeer => Sys2Proof.Machine.execReadPeer s
  | .readCondition => Sys2Proof.Machine.execReadCondition s
  | .readCounters => Sys2Proof.Machine.execReadCounters s
  | .readSetting => Sys2Proof.Machine.execReadSetting s
  | .writeSetting => Sys2Proof.Machine.execWriteSetting s
  | .learnPark => Sys2Proof.Machine.execLearnPark s
  | .clearConditions => Sys2Proof.Machine.execClearConditions s
  | .unknownRequest => Sys2Proof.Machine.execUnknownRequest s
  | .storeWriteStart => Sys2Proof.Machine.execStoreWriteStart s
  | .storeWriteEnd readBack => Sys2Proof.Machine.execStoreWriteEnd readBack s
  | .stopTimer => Sys2Proof.Machine.execStopTimer s
  | .quietTimer => Sys2Proof.Machine.execQuietTimer s
  | .wakeEdge => Sys2Proof.Machine.execWakeEdge s
  | .wakeComplete => Sys2Proof.Machine.execWakeComplete s
  | .reset cause => Sys2Proof.Machine.execReset cause s
  | .resetRelease => Sys2Proof.Machine.execResetRelease s
  | .startDelayEnd pins => Sys2Proof.Machine.execStartDelayEnd pins s
  | .storeLoadComplete => Sys2Proof.Machine.execStoreLoadComplete s
  | .lineFallingEdge => Sys2Proof.Machine.execLineFallingEdge s
  | .startOfFrame => Sys2Proof.Machine.execStartOfFrame s

end Sys2Proof.Machine
end

