-- ==== Sys2Proof/Safety.lean ====
section
/-! DEFINITION. What a sound state of the CP22 is, block by block: the ranges and relations the rules give the held state. Each
structure is meant to be kept by every step and to hold after a reset. -/

namespace Sys2Proof.Machine

/-- The part is out of operation as far as capture, scan and line go: a reset is asserted, the start delay runs, DOZE or a wake. -/
def State.dark (s : State) : Bool := !s.sensing

/-- CAP (R3, R4, R5, R8): the FIFO holds at most 16 entries, overflow-pending is set only while it is full, the counters are in
range. -/
structure CaptureSound (s : State) : Prop where
  fifo     : s.cap.fifo.length ≤ 16
  overflow : s.cap.overflowPending = true → s.cap.fifo.length = 16
  crank    : s.cap.crankNoise ≤ 65535
  camI     : s.cap.camNoise.i ≤ 65535
  camE     : s.cap.camNoise.e ≤ 65535
  lost     : s.cap.overflows ≤ 65535

/-- TRK (R21, R23, R24, R27, R28, R33, R34, R40): the half is decided exactly in CYCLE_SYNC, the adopted flag is set only there, the
tooth number is 0..21, rpm is 0..20,000 and 0 in STOPPED and SEEK, the stall reference is absent exactly in STOPPED, the counts
are in range. -/
structure TrackerSound (s : State) : Prop where
  half     : s.trk.half.isSome = true ↔ s.trk.state = .cycleSync
  adopted  : s.trk.adopted = true → s.trk.state = .cycleSync
  tooth    : s.trk.tooth ≤ 21
  rpm      : s.trk.rpm ≤ 20000
  still    : s.trk.state = .stopped ∨ s.trk.state = .seek → s.trk.rpm = 0
  stall    : s.trk.stallRef.isNone = true ↔ s.trk.state = .stopped
  errRun   : s.trk.cycleErrRun ≤ 1
  errors   : s.trk.toothErrors ≤ 255
  undec    : s.trk.undecided ≤ 255
  countI   : s.trk.camCounts.i ≤ 255
  countE   : s.trk.camCounts.e ≤ 255

/-- A cam machine (R80, R84, R86, R90): each of its timers is present only in the state that uses it. -/
structure CamSound (k : CamCtl) : Prop where
  parked  : k.parkedAt.isSome = true ↔ k.state = .parked
  rested  : k.rested = true → k.state = .parked
  settle  : k.settleStart.isSome = true → k.state = .parking
  release : k.releaseExpiry.isSome = true ↔ k.state = .release
  stuck   : k.stuck ≤ 4000
  idle    : k.stuck ≠ 0 → k.state = .follow

/-- Both cam machines are sound (R80). -/
def CamsSound (s : State) : Prop := CamSound s.camc.cams.i ∧ CamSound s.camc.cams.e

/-- A machine that takes no transition stays in OFF with its channel's pending duty 0: the exhaust machine with strap XCF = 0, both
with station number 0 (R80, R143); and every machine is in OFF until the store load has completed (R191). -/
structure FixedCamsOff (s : State) : Prop where
  fixed : ∀ c, s.machineRuns c = false → (s.camOf c).state = .off ∧ (s.drvOf c).pending = 0
  start : s.pwr.power = .held ∨ s.pwr.power = .startDelay ∨ s.pwr.power = .loading →
    ∀ c, (s.camOf c).state = .off ∧ (s.drvOf c).pending = 0

/-- A valve driver channel (R143, R147, R148, R151, R152): the applied duty is in range, the output is on only in a period whose
applied duty is above 0, and nothing is active while periods are stopped. -/
structure DriveSound (d : Drv) : Prop where
  applied : d.applied ≤ 1000
  output  : d.output = true → 0 < d.applied ∧ d.periodStart.isSome = true
  stopped : d.periodStart.isNone = true → d.active = 0 ∧ d.applied = 0 ∧ d.output = false ∧ d.tripped = false
  dither  : 1 ≤ d.ditherPhase
  trips   : d.tripRun ≤ 8
  opens   : d.openRun ≤ 3

/-- Both channels are sound, and their periods run exactly in RUN (R143). -/
structure DrivesSound (s : State) : Prop where
  i    : DriveSound s.drv.i
  e    : DriveSound s.drv.e
  runI : s.drv.i.periodStart.isSome = true ↔ s.pwr.power = .run
  runE : s.drv.e.periodStart.isSome = true ↔ s.pwr.power = .run

/-- SHR's peer table (R117, R119, R130, R131, R133, R134): kept by station number, at most one record of each station, none of the own,
role CONTROLLER exactly for station 0, no two records with the same place in the order of filings; empty, with the line off, where
nothing can have been heard. -/
structure PeersSound (s : State) : Prop where
  sorted : (s.shr.peers.map Peer.station).Pairwise (· < ·)
  below  : ∀ p ∈ s.shr.peers, p.station ≤ 7 ∧ p.station ≠ s.own
  role   : ∀ p ∈ s.shr.peers, p.role = .controller ↔ p.station = 0
  missed : ∀ p ∈ s.shr.peers, p.missed ≤ 255
  filed  : ∀ p ∈ s.shr.peers, ∀ d ∈ p.share, d.filing < s.shr.filings
  order  : ∀ p ∈ s.shr.peers, ∀ q ∈ s.shr.peers, ∀ d ∈ p.share, ∀ e ∈ q.share, d.filing = e.filing → p = q
  empty  : s.dark = true → s.shr.peers = [] ∧ s.line.receiver = .off ∧ s.line.sending = none

/-- MON (R174): the counts are in range and an event record is never active. -/
structure ConditionsSound (s : State) : Prop where
  counts : ∀ k : Fin 20, (s.mon.records.get k).count ≤ 255
  events : ∀ k : Cond, k = .stationClash ∨ k = .peerLost ∨ k = .cycleDisagree ∨ k = .learnFailed → s.active k = false

/-- STORE_FAULT is active exactly while a fault mark is set (R183); LINE_STUCK exactly while the transmitter is disabled (R161); from
the load on, the CONFIG image has its 64 bytes, and each CAM image carries its owners' values ahead of its spare bytes (R182, R183,
R184). -/
structure OwnersAgree (s : State) : Prop where
  store  : s.active .storeFault = s.store.anyFault
  line   : s.active .lineStuck = !s.line.txEnabled
  size   : s.pwr.power ≠ .held → s.pwr.power ≠ .startDelay → s.pwr.power ≠ .loading → s.store.configImage.length = 64
  images : s.pwr.power ≠ .held → s.pwr.power ≠ .startDelay → s.pwr.power ≠ .loading →
    ∀ c, (s.store.camImages.get c).take 4 = (s.camRecord c).encode.take 4

/-- LINE (R168, R171, R172): the sequence number is in range, a frame is sent only with the receiver in FRAME, by an ACTIVE station
whose number is not 0, and a station with number 0 stays in LISTEN; the receiver is off while the part is dark, and the part then
drives nothing; a 2Tb low of a bit error is a drive with no frame being sent (R170); in IDLE the line is high, and a low measured in
START is another station's (R158, R160). -/
structure LineSound (s : State) : Prop where
  seq     : s.line.seq ≤ 15
  sending : s.line.sending.isSome = true → s.line.receiver = .frame ∧ s.line.life = .active
  active  : s.line.life = .active → s.own ≠ 0
  dark    : s.dark = true → s.line.receiver = .off ∧ s.line.sending = none
  start   : s.pwr.power = .held ∨ s.pwr.power = .startDelay ∨ s.pwr.power = .loading →
    s.line.life = .listen ∧ s.pwr.listenTimer = none
  drive   : s.line.drive.isSome = true → s.line.receiver ≠ .off
  abort   : s.line.aborting = true → s.line.drive.isSome = true ∧ s.line.sending = none
  quiet   : s.line.receiver = .idle → s.line.low = false
  pulled  : s.line.receiver = .start → s.line.othersLow = true ∧ s.line.drive = none

/-- LOOP and the duties (R93, R105, R107, R108, R111, R112): the hold duty and its mark are in 300..700, the integral within its
bound, the duty written within 0..1000, the cam demand within 0..500. -/
structure LoopSound (s : State) : Prop where
  bound    : s.settings.iLim ≤ 300
  offset   : s.settings.releaseOffset ≤ 200
  hold     : ∀ c, 300 ≤ (s.loopOf c).hold ∧ (s.loopOf c).hold ≤ 700
  marked   : ∀ c, 300 ≤ (s.loopOf c).marked ∧ (s.loopOf c).marked ≤ 700
  integral : ∀ c, -76800 ≤ (s.loopOf c).integral ∧ (s.loopOf c).integral ≤ 76800
  duty     : ∀ c, (s.loopOf c).lastDuty ≤ 1000
  settled  : ∀ c, (s.loopOf c).settled < 4000
  demand   : ∀ c, s.shr.demand.get c ≤ 500
  pending  : ∀ c, (s.drvOf c).pending ≤ 1000

/-- PHM's learning (R58, R59, R61, R64): a run is in progress exactly while the status before it, never LEARNING, is held; it runs
only in PARKED and in CYCLE_SYNC; only then does the collector hold values, and fewer than 32; a learned offset is in -96..96. -/
structure LearnSound (s : State) : Prop where
  before    : ∀ c, (s.phmOf c).status = .learning ↔ (s.phmOf c).statusBefore.isSome = true
  nested    : ∀ c, (s.phmOf c).statusBefore ≠ some .learning
  parked    : ∀ c, (s.phmOf c).status = .learning → (s.camOf c).state = .parked ∧ s.trk.state = .cycleSync
  collected : ∀ c, (s.phmOf c).collector ≠ [] → (s.phmOf c).status = .learning
  fewer     : ∀ c, (s.phmOf c).collector.length < 32
  offset    : ∀ c, -96 ≤ (s.phmOf c).offset ∧ (s.phmOf c).offset ≤ 96
  start     : s.pwr.power = .held ∨ s.pwr.power = .startDelay ∨ s.pwr.power = .loading →
    ∀ c, (s.phmOf c).status ≠ .learning

/-- The pressure source is the one R119 chooses, with its pressure in use: own pressure while it is valid; else the pressure of the
record, FRESH and holding one, whose SHARE was filed last; else none. F_avail is R120's flow of that pressure, or F_FALLBACK. -/
structure SourceChosen (s : State) : Prop where
  own  : ∀ p ∈ s.ownPressure, s.shr.source = .own ∧ s.shr.pressure = some p
  peer : s.ownPressure = none → ∀ q ∈ s.shr.peers, ∀ d ∈ q.share, ∀ p ∈ q.pressure, q.fresh = true →
    (∀ r ∈ s.shr.peers, ∀ e ∈ r.share, r.fresh = true → r.pressure.isSome = true → r = q ∨ e.filing < d.filing) →
    s.shr.source = .peer q.station ∧ s.shr.pressure = some p
  lost : s.ownPressure = none → (∀ q ∈ s.shr.peers, q.fresh = false ∨ q.share = none ∨ q.pressure = none) →
    s.shr.source = .none ∧ s.shr.pressure = none
  flow : s.shr.fAvail = match s.shr.pressure with
    | some p => (max 0 (min 1000
        (((p : Int) - s.settings.pFloor) * 1000 / ((s.settings.pFull : Int) - s.settings.pFloor)))).toNat
    | none => s.settings.fFallback

/-- What the tracker's leaving of CYCLE_SYNC makes of the other blocks, from `s` to `t`: each cam's tally restarts and a run in
progress is abandoned, its result recorded as ABORTED with the values collected (R56, R64, R65); each cam under control goes to OFF
with its timers cleared, its ramp, integral, pending duty and demand 0 (R82, R88), any other stands; nothing else changes but what
TRK, CAP, MON, the line's slots and PWR do. That the settle start, the rested mark and the settled time are cleared on every state
entry is the model's reading (notes/assumptions/22.md). -/
structure SyncLeft (s t : State) : Prop where
  idle  : ∀ c, (s.phmOf c).status ≠ .learning → t.phmOf c = { s.phmOf c with tally := 0, wholeCycle := false }
  ended : ∀ c, (s.phmOf c).status = .learning → ∀ b ∈ (s.phmOf c).statusBefore, b ≠ .learning → ∀ o ∈ (s.phmOf c).runOrigin,
    t.phmOf c = { s.phmOf c with
      tally := 0, wholeCycle := false, status := b, statusBefore := none, runOrigin := none, collector := []
      lastResult := some ⟨.aborted, (s.phmOf c).collector.length, none, none, o⟩ }
  off   : ∀ c, s.machineRuns c = true → (s.camOf c).state ≠ .off → (s.camOf c).state ≠ .faulted →
    t.camOf c = { s.camOf c with
      state := .off, ramp := 0, parkedAt := none, rested := false, settleStart := none, releaseExpiry := none, stuck := 0 }
    ∧ t.loopOf c = { s.loopOf c with integral := 0, settled := 0 }
    ∧ t.drvOf c = { s.drvOf c with pending := 0 } ∧ t.shr.demand.get c = 0
  stays : ∀ c, s.machineRuns c = false ∨ (s.camOf c).state = .off ∨ (s.camOf c).state = .faulted →
    t.camOf c = s.camOf c ∧ t.loopOf c = s.loopOf c ∧ t.drvOf c = s.drvOf c ∧ t.shr.demand.get c = s.shr.demand.get c
  rest  : t = { s with
    phm := t.phm, camc := { s.camc with cams := t.camc.cams }, loop := t.loop, drv := t.drv
    shr := { s.shr with demand := t.shr.demand }, line := { s.line with slots := t.line.slots }
    trk := t.trk, cap := t.cap, mon := t.mon, pwr := t.pwr }

/-- A REQUEST waits that the part serves: the oldest waiting frame makes this request (none: an unknown code or a length not accepted
for the code), it was delivered after the store load had completed, and the own station number is not 0 and is the destination byte
(R166, R187). -/
structure Asked (s : State) (w : Received) (r : Option Request) : Prop where
  waiting   : s.waiting .request = some w
  asks      : requestOf w.frame.payload = r
  operating : s.operating = true
  late      : w.early = false
  own       : s.own ≠ 0
  dest      : (w.frame.payload.getD 0 0).toNat = s.own

/-- The state with the waiting frame taken and this answer in the reply record, REPLY pending; nothing else is changed (R166,
R187). -/
def State.replied (s : State) (w : Received) (result : Result) (data : List Byte) : State :=
  { s with
    service := { reply := some ⟨w.frame.station, w.frame.payload.getD 1 0, result, data⟩, composed := false }
    line := { s.freeOldest.line with slots := { s.line.slots with reply := true } } }

end Sys2Proof.Machine
end

