-- ==== Sys2Proof/Certificates/Slice0/Obligations.lean ====
section
/-! DEFINITION. The statements about this model: what each command does and leaves alone, what every step keeps, and the arithmetic
and encodings the rules give. -/

open Sys2Proof Sys2Proof.Machine

/-! ## The machine as a whole -/

/-- A step takes the command at the front of the queue and runs it with the queue's rest. -/
def Obligations.StepRunsTheFrontCommand : Prop :=
  ∀ (c : Instr) (rest : List Instr) (s : State),
    Sys2Proof.Machine.step { s with pending := c :: rest } = Sys2Proof.Machine.exec c { s with pending := rest }

/-- With no command waiting and nothing due, one tick passes: the time counter advances by one and wraps (R1), and the line
controller drives and samples SLN (R158, R159). The counter stands still in DOZE and while a reset is asserted (R190, R191). That
an idle step is one tick is the model's choice (notes/assumptions/2.md). What the end of a 2Tb low in STANDBY can bring besides is
in TransmissionsEnd. -/
def Obligations.IdleStepIsOneTick : Prop :=
  ∀ s : State, s.pending = [] → s.ownEvents = [] →
    ((s.pwr.power = .standby ∧ s.line.aborting = false) ∨ s.pwr.power = .run ∨ s.pwr.power = .loading →
      Sys2Proof.Machine.step s = .next { s with now := s.now + 1, line := s.line.tick (s.now + 1) s.tb })
    ∧ (s.pwr.power = .startDelay → Sys2Proof.Machine.step s = .next { s with now := s.now + 1 })
    ∧ (s.pwr.power = .doze ∨ s.pwr.power = .held → Sys2Proof.Machine.step s = .next s)

/-- Every command is answered with a next state, whatever the state, and leaves the queue of waiting commands alone. That a command
whose condition does not hold is answered with the state as it is, is the model's choice (notes/assumptions/1.md). -/
def Obligations.EveryCommandIsAnswered : Prop :=
  ∀ (c : Instr) (s : State), ∃ t, Sys2Proof.Machine.exec c s = .next t ∧ t.pending = s.pending

/-- The non-volatile store changes only at the end of a write and at a reset (R185). The straps change only at the end of the start
delay and at a reset (Pins and straps, R191), the settings in use only at the store load and at a reset (R183). -/
def Obligations.StoreStrapsAndSettingsHold : Prop :=
  (∀ (c : Instr) (s t : State), Sys2Proof.Machine.exec c s = .next t →
     (∀ readBack, c ≠ .storeWriteEnd readBack) → (∀ cause, c ≠ .reset cause) → t.stored = s.stored)
  ∧ (∀ (c : Instr) (s t : State), Sys2Proof.Machine.exec c s = .next t → (∀ cause, c ≠ .reset cause) →
     ((∀ pins, c ≠ .startDelayEnd pins) → t.straps = s.straps) ∧ (c ≠ .storeLoadComplete → t.settings = s.settings))

/-! ## What every step keeps -/

/-- The state after a reset is sound in every block. -/
def Obligations.ResetStateIsSound : Prop :=
  CaptureSound State.reset ∧ TrackerSound State.reset ∧ CamsSound State.reset ∧ FixedCamsOff State.reset
    ∧ DrivesSound State.reset ∧ PeersSound State.reset ∧ ConditionsSound State.reset ∧ OwnersAgree State.reset
    ∧ LineSound State.reset ∧ LoopSound State.reset ∧ LearnSound State.reset

/-- Every step keeps CAP sound: the edge FIFO never holds more than 16 entries (R5, R8). -/
def Obligations.EveryStepKeepsCaptureSound : Prop :=
  ∀ s t : State, CaptureSound s → Sys2Proof.Machine.step s = .next t → CaptureSound t

/-- Every step keeps TRK sound: the half is decided exactly in CYCLE_SYNC, rpm is 0 in STOPPED and SEEK (R27, R34). -/
def Obligations.EveryStepKeepsTrackerSound : Prop :=
  ∀ s t : State, TrackerSound s → Sys2Proof.Machine.step s = .next t → TrackerSound t

/-- Every step keeps both cam machines sound: each timer is present only in its state (R80, R84, R86, R90). -/
def Obligations.EveryStepKeepsCamsSound : Prop :=
  ∀ s t : State, CamsSound s → Sys2Proof.Machine.step s = .next t → CamsSound t

/-- Every step keeps a machine that takes no transition in OFF with a pending duty of 0 (R80, R143). -/
def Obligations.EveryStepKeepsFixedCamsOff : Prop :=
  ∀ s t : State, FixedCamsOff s → Sys2Proof.Machine.step s = .next t → FixedCamsOff t

/-- Every step keeps both channels sound: applied duty 0..1000, periods exactly in RUN (R143, R148). -/
def Obligations.EveryStepKeepsDrivesSound : Prop :=
  ∀ s t : State, DrivesSound s → Sys2Proof.Machine.step s = .next t → DrivesSound t

/-- Every step keeps the peer table sound: at most one record of each station and none of the own (R131). -/
def Obligations.EveryStepKeepsPeersSound : Prop :=
  ∀ s t : State, PeersSound s → Sys2Proof.Machine.step s = .next t → PeersSound t

/-- Every step keeps MON sound: an event record is never active (R174). -/
def Obligations.EveryStepKeepsConditionsSound : Prop :=
  ∀ s t : State, ConditionsSound s → Sys2Proof.Machine.step s = .next t → ConditionsSound t

/-- Every step keeps STORE_FAULT with the fault marks, LINE_STUCK with the disabled transmitter, and from the load on the CAM images
with the values of their owners and the CONFIG image at its 64 bytes (R183, R184, R161). -/
def Obligations.EveryStepKeepsOwnersAgree : Prop :=
  ∀ s t : State, OwnersAgree s → Sys2Proof.Machine.step s = .next t → OwnersAgree t

/-- Every step keeps LINE sound: a station with number 0 stays in LISTEN, only an ACTIVE station sends, and the line is high in IDLE
(R160, R168, R172). That the part drives nothing once it is in DOZE is the model's choice (notes/assumptions/30.md). -/
def Obligations.EveryStepKeepsLineSound : Prop :=
  ∀ s t : State, LineSound s → Sys2Proof.Machine.step s = .next t → LineSound t

/-- Every step keeps LOOP sound: hold duty 300..700, integral within its bound, duty 0..1000 (R107, R108, R111). -/
def Obligations.EveryStepKeepsLoopSound : Prop :=
  ∀ s t : State, LoopSound s → Sys2Proof.Machine.step s = .next t → LoopSound t

/-- Every step keeps learning sound: a run only in PARKED and CYCLE_SYNC, an offset in -96..96 (R58, R61, R64). -/
def Obligations.EveryStepKeepsLearnSound : Prop :=
  ∀ s t : State, LearnSound s → Sys2Proof.Machine.step s = .next t → LearnSound t

/-! ## Encodings -/

/-- The CRC register starts with every bit set; each bit, most significant first, is compared with the top bit, and the shifted
register is combined with 1021 hex where they differ; no covered bytes give FFFF hex, the characters 1 to 9 give 29B1 hex
(R164). -/
def Obligations.CrcIsFormedBitByBit : Prop :=
  crc16 [] = 0xFFFF#16
  ∧ (∀ (bytes : List Byte) (b : Byte), crc16 (bytes ++ [b]) =
      [b.getLsbD 7, b.getLsbD 6, b.getLsbD 5, b.getLsbD 4, b.getLsbD 3, b.getLsbD 2, b.getLsbD 1, b.getLsbD 0].foldl
        (fun (reg : BitVec 16) bit => if reg.getLsbD 15 = bit then reg <<< 1 else (reg <<< 1) ^^^ 0x1021#16) (crc16 bytes))
  ∧ crc16 [0x31#8, 0x32#8, 0x33#8, 0x34#8, 0x35#8, 0x36#8, 0x37#8, 0x38#8, 0x39#8] = 0x29B1#16
  ∧ (∀ bytes : List Byte, withCrc bytes = bytes ++ [(crc16 bytes).extractLsb' 8 8, (crc16 bytes).extractLsb' 0 8])

/-- A frame put together from its fields is found valid by every station with another number, with the same fields; its bits go most
significant first, and bits sampled as they were sent make the same bytes (R162, R163, R165). -/
def Obligations.FrameIsReceivedAsSent : Prop :=
  (∀ (own : Nat) (f : Frame), f.sound = true → f.station ≠ own → judgeFrame own f.bytes = .valid f)
  ∧ (∀ (b : Byte) (rest : List Byte), bitsOf (b :: rest) =
      [b.getLsbD 7, b.getLsbD 6, b.getLsbD 5, b.getLsbD 4, b.getLsbD 3, b.getLsbD 2, b.getLsbD 1, b.getLsbD 0] ++ bitsOf rest)
  ∧ ∀ bytes : List Byte, (bitsOf bytes).length = 8 * bytes.length ∧ bytesOfBits (bitsOf bytes) = bytes

/-- Settings clamped to their ranges are read back from the CONFIG image that encodes them; the image has 64 bytes, 8 for each
group. Each group packs its settings in the order and widths of R182's table, most significant bit first, temperatures plus 40,
the bits left over 0; a load takes each setting from its place in the 64 bits of its group, whatever the left-over bits hold, and
takes it to its range. A CAM record is its offset in two's complement, its status, its hold duty high byte first and two bytes 0;
one in its ranges is read back from them, and from its stored copy (R182, R184). -/
def Obligations.StoredRecordsAreReadBackAsEncoded : Prop :=
  let number (bytes : List Byte) : Nat := bytes.foldl (fun n b => n * 256 + b.toNat) 0
  let table (st : Settings) : List (List (Nat × Nat)) :=
    let cam (k : CamSettings) : List (Nat × Nat) :=
      [(14, k.ref0), (14, k.ref1), (14, k.ref2), (14, k.ref3), (3, k.nA), (3, k.nB), (2, 0)]
    let point (p : TempPoint) : List (Nat × Nat) := [(12, p.count), (8, (p.temp + 40).toNat)]
    [cam st.cams.i, cam st.cams.e,
      point st.t1 ++ point st.t2 ++ point st.t3 ++ [(4, 0)], point st.t4 ++ point st.t5 ++ point st.t6 ++ [(4, 0)],
      point st.t7 ++ point st.t8 ++ [(8, (st.tCold + 40).toNat), (10, st.lCold), (6, 0)],
      [(10, st.cams.i.limit), (10, st.cams.e.limit), (13, st.rpmMinPhase), (13, st.rpmMaxLearn), (10, st.slew), (7, st.parkBand),
        (1, 0)],
      [(8, st.releaseTime), (8, st.releaseOffset), (10, st.demandTimeout), (2, st.lossReaction), (8, st.kp), (8, st.ki),
        (6, st.deadband), (9, st.iLim), (5, 0)],
      [(9, st.aMax), (9, st.aMin), (10, st.pFloor), (10, st.pFull), (10, st.fFallback), (2, st.pwmFreq), (7, st.ditherAmp),
        (2, st.ditherLen), (2, st.iTrip), (3, 0)]]
  ((∀ image : List Byte, decodeSettings (encodeSettings (decodeSettings image)) = decodeSettings image)
   ∧ ∀ st : Settings, (encodeSettings st).length = 64 ∧ ∀ g < 8, groupBytes (encodeSettings st) g = encodeGroup st g)
  ∧ (∀ (st : Settings) (g : Nat) (fields : List (Nat × Nat)), (table st)[g]? = some fields → (∀ f ∈ fields, f.2 < 2 ^ f.1) →
     (encodeGroup st g).length = 8 ∧ number (encodeGroup st g) = fields.foldl (fun n f => n * 2 ^ f.1 + f.2) 0)
  ∧ (∀ image : List Byte,
     let bits (g place width : Nat) : Nat := number ((image.drop (8 * g)).take 8) / 2 ^ place % 2 ^ width
     let within (lo hi n : Nat) : Nat := max lo (min hi n)
     let degrees (hi : Int) (n : Nat) : Int := max (-40) (min hi ((n : Int) - 40))
     let cam (g place : Nat) : CamSettings :=
       { ref0 := within 0 11519 (bits g 50 14), ref1 := within 0 11519 (bits g 36 14), ref2 := within 0 11519 (bits g 22 14)
         ref3 := within 0 11519 (bits g 8 14), nA := within 0 4 (bits g 5 3), nB := within 0 4 (bits g 2 3)
         limit := within 0 800 (bits 5 place 10) }
     let point (g place : Nat) : TempPoint := ⟨within 0 4095 (bits g (place + 8) 12), degrees 150 (bits g place 8)⟩
     decodeSettings image = {
       cams := ⟨cam 0 54, cam 1 44⟩
       t1 := point 2 44, t2 := point 2 24, t3 := point 2 4, t4 := point 3 44, t5 := point 3 24, t6 := point 3 4
       t7 := point 4 44, t8 := point 4 24, tCold := degrees 60 (bits 4 16 8), lCold := within 0 800 (bits 4 6 10)
       rpmMinPhase := within 500 6000 (bits 5 31 13), rpmMaxLearn := within 700 6000 (bits 5 18 13)
       slew := within 10 1000 (bits 5 8 10), parkBand := within 8 64 (bits 5 1 7)
       releaseTime := within 10 250 (bits 6 56 8), releaseOffset := within 0 200 (bits 6 48 8)
       demandTimeout := within 20 1000 (bits 6 38 10), lossReaction := within 0 1 (bits 6 36 2)
       kp := within 0 255 (bits 6 28 8), ki := within 0 255 (bits 6 20 8), deadband := within 0 32 (bits 6 14 6)
       iLim := within 0 300 (bits 6 5 9)
       aMax := within 20 500 (bits 7 55 9), aMin := within 0 500 (bits 7 46 9), pFloor := within 0 900 (bits 7 36 10)
       pFull := within 100 1000 (bits 7 26 10), fFallback := within 0 1000 (bits 7 16 10), pwmFreq := within 0 2 (bits 7 14 2)
       ditherAmp := within 0 100 (bits 7 7 7), ditherLen := within 0 3 (bits 7 5 2), iTrip := within 0 3 (bits 7 3 2) })
  ∧ (∀ r : CamRecord, r.encode =
     [BitVec.ofInt 8 r.offset, if r.learned then 1 else 0, BitVec.ofNat 8 (r.hold / 256), BitVec.ofNat 8 r.hold, 0, 0])
  ∧ (∀ r : CamRecord, -96 ≤ r.offset → r.offset ≤ 96 → 300 ≤ r.hold → r.hold ≤ 700 →
     CamRecord.decode r.encode = some r ∧ r.encode.length = 6
     ∧ loadCam (.whole (withCrc r.encode)) = (r, r.encode, false))

/-! ## Arithmetic -/

/-- Half A begins at cycle angle 0 and half B at 5760; the cycle angle of a cam edge lies in the half's revolution, from the last
tooth to before the next (R34, R36, R50, R51). The window of a reference runs from 960 before it to 128 after it for the intake
cam, from 128 before to 960 after for the exhaust cam. With windows that share no cycle angle, an edge is identified as the one
mark whose window holds its angle, and as none where no window does; its raw deviation, counted positive away from park, then lies
in -128..960 (R47, R52, R53). -/
def Obligations.CamEdgesArePlacedAndIdentified : Prop :=
  (halfStart .a = 0 ∧ halfStart .b = 5760
   ∧ ∀ ref angle : Nat, window .i ref = ((ref : Int) - 960, (ref : Int) + 128) ∧ window .e ref = ((ref : Int) - 128, (ref : Int) + 960)
     ∧ rawDeviation .i ref angle = (ref : Int) - angle ∧ rawDeviation .e ref angle = (angle : Int) - ref)
  ∧ (∀ (h : Half) (tooth delta pitch : Nat), tooth ≤ 21 →
     let angle := cycleAngle h tooth delta pitch
     halfStart h + 240 * tooth ≤ angle ∧ angle ≤ halfStart h + 240 * tooth + (if tooth = 21 then 719 else 239)
     ∧ angle ≤ halfStart h + 5759
     ∧ (delta * 240 / pitch ≤ (if tooth = 21 then 719 else 239) → angle = halfStart h + 240 * tooth + delta * 240 / pitch))
  ∧ (∀ (c : Cam) (k : CamSettings) (angle : Nat), camWindowsOk c k = true →
     (∀ (e ref : Nat), k.refs[e]? = some ref → (window c ref).1 ≤ angle → (angle : Int) ≤ (window c ref).2 →
       identify c k angle = some (e, ref) ∧ -128 ≤ rawDeviation c ref angle ∧ rawDeviation c ref angle ≤ 960)
     ∧ ((∀ ref ∈ k.refs, (angle : Int) < (window c ref).1 ∨ (window c ref).2 < angle) → identify c k angle = none))

/-- The offset a run of sum `s` teaches is its mean over 32 rounded to nearest, halves away from zero, and lies in -96..96 for a run
that succeeds (R61, R62). -/
def Obligations.LearnedOffsetIsTheRoundedMean : Prop :=
  ∀ s : Int, -16 ≤ 32 * roundedMean s - s ∧ 32 * roundedMean s - s ≤ 16
    ∧ (32 * roundedMean s - s = 16 → 0 ≤ s) ∧ (32 * roundedMean s - s = -16 → s ≤ 0)
    ∧ (-3072 ≤ s → s ≤ 3072 → -96 ≤ roundedMean s ∧ roundedMean s ≤ 96)

/-- The computed temperature is that of the mean of the eight counts of the full window, by the table of the settings in use: the
end values beyond its ends, and between two points the floor of the line between them (R16). -/
def Obligations.TemperatureFollowsTheTable : Prop :=
  (∀ s : State, s.scan.temperature.length = 8 → s.active .tempSensor = false →
    s.temperature = tempOfCount s.settings (s.scan.temperature.sum / 8))
  ∧ ∀ (st : Settings) (m : Nat), tempTableOk st = true →
    (st.t1.count ≤ m → tempOfCount st m = st.t1.temp)
    ∧ (m ≤ st.t8.count → tempOfCount st m = st.t8.temp)
    ∧ ∀ (i : Nat) (p q : TempPoint), st.tempTable[i]? = some p → st.tempTable[i + 1]? = some q →
      m < st.t1.count → st.t8.count < m → m ≤ p.count → q.count < m →
      tempOfCount st m = p.temp + Int.fdiv (((p.count : Int) - m) * (q.temp - p.temp)) ((p.count : Int) - q.count)

/-- The total demand is the own station demand, which is that of both cams, and the filed demand of each record that is FRESH and
has role PHASE; a STALE record, one of role CONTROLLER or OTHER, and one with no SHARE filed count nothing. The station grant is 0
where the total is 0, at most the station demand and, where the total exceeds it, the available flow; two stations that see the
same total demand and the same flow together take at most that flow (R123, R124). -/
def Obligations.StationGrantsStayWithinTheFlow : Prop :=
  (∀ r : Shr, r.stationDemand = r.demand.i + r.demand.e
    ∧ r.totalDemand = r.demand.i + r.demand.e + (r.peers.map (fun p => if p.fresh = true ∧ p.role = .phase then
        (match p.share with | some d => d.demand | none => 0) else 0)).sum
    ∧ (r.totalDemand = 0 → r.stationGrant = 0)
    ∧ r.stationGrant ≤ r.stationDemand
    ∧ (r.totalDemand ≤ r.fAvail → r.stationGrant = r.stationDemand)
    ∧ (r.fAvail < r.totalDemand → r.stationGrant = r.fAvail * r.stationDemand / r.totalDemand ∧ r.stationGrant ≤ r.fAvail))
  ∧ ∀ r q : Shr, r.fAvail = q.fAvail → r.totalDemand = q.totalDemand → r.stationDemand + q.stationDemand ≤ r.totalDemand →
      r.stationGrant + q.stationGrant ≤ r.fAvail

/-- The cam grant of the cam whose update asked (R125). -/
def Obligations.CamGrantIsTheCamsShare : Prop :=
  ∀ (r : Shr) (c : Cam) (st : Settings),
    (r.stationDemand ≠ 0 → r.camGrant c = r.stationGrant * r.demand.get c / r.stationDemand)
    ∧ (r.stationDemand = 0 → r.camGrant c = 0)
    ∧ r.camGrant c ≤ r.demand.get c
    ∧ (r.stationGrant = r.stationDemand → r.camGrant c = r.demand.get c)
    ∧ r.camGrant .i + r.camGrant .e ≤ r.stationGrant
    ∧ (r.demand.get c = 0 → r.camGrant c = 0 ∧ authority st (r.demand.get c) (r.camGrant c) r.fAvail = 0)

/-- Stages 7 to 13 as R103 to R108 give them: the proportional term and ΔI truncated toward zero, the hold point from the integral
before the update and the raw output from the candidate, the authority band about the hold point, the clamp noted where it acts,
ΔI discarded where the clamp pressed in its direction and else kept within the bound, the duty limited to 0..1000. They keep the
ranges of section 5.11, and the duty written departs from the hold point by at most the authority. -/
def Obligations.OutputStagesStayInRange : Prop :=
  (∀ (st : Settings) (hold dtq a : Nat) (i e : Int),
    let r := outputStages st hold i e dtq a
    let h := (hold : Int) + i.tdiv 256
    let dI := ((st.ki : Int) * e * dtq).tdiv 16
    let uRaw := (hold : Int) + ((st.kp : Int) * e).tdiv 16 + (i + dI).tdiv 256
    let u := if uRaw < h - a then h - a else if h + a < uRaw then h + a else uRaw
    let presses : Prop := (0 < uRaw - u ∧ 0 < dI) ∨ (uRaw - u < 0 ∧ dI < 0)
    let bound := (st.iLim : Int) * 256
    holdPoint hold i = h ∧ r.uRaw = uRaw ∧ r.u = u ∧ (r.clamped = true ↔ u ≠ uRaw) ∧ (r.windup = true ↔ u ≠ uRaw ∧ presses)
    ∧ (u ≠ uRaw → presses → r.integral = i) ∧ (¬(u ≠ uRaw ∧ presses) → r.integral = max (-bound) (min bound (i + dI)))
    ∧ (r.duty : Int) = max 0 (min 1000 u))
  ∧ ∀ (st : Settings) (hold dtq a : Nat) (i e : Int),
    st.kp ≤ 255 → st.ki ≤ 255 → st.iLim ≤ 300 → 300 ≤ hold → hold ≤ 700 → dtq ≤ 160 → a ≤ 500 →
    -((st.iLim : Int) * 256) ≤ i → i ≤ (st.iLim : Int) * 256 → -928 ≤ e → e ≤ 928 →
    let r := outputStages st hold i e dtq a
    let h := holdPoint hold i
    0 ≤ h ∧ h ≤ 1000 ∧ -24033 ≤ r.uRaw ∧ r.uRaw ≤ 25033 ∧ -500 ≤ r.u ∧ r.u ≤ 1500 ∧ r.duty ≤ 1000
    ∧ -(a : Int) ≤ (r.duty : Int) - h ∧ (r.duty : Int) - h ≤ a
    ∧ -((st.iLim : Int) * 256) ≤ r.integral ∧ r.integral ≤ (st.iLim : Int) * 256
    ∧ (r.windup = true → r.clamped = true ∧ r.integral = i)
    ∧ (e = 0 → r.u = h ∧ r.integral = i)

/-- A hold step moves one unit of 256 between the integral and the hold duty, or changes neither; the counter advances and the hold
point stays (R113). -/
def Obligations.HoldStepKeepsTheHoldPoint : Prop :=
  ∀ k : Loop,
    (256 ≤ k.integral → k.hold < 700 → k.holdStep.hold = k.hold + 1 ∧ k.holdStep.integral = k.integral - 256)
    ∧ (k.integral ≤ -256 → 300 < k.hold → k.holdStep.hold = k.hold - 1 ∧ k.holdStep.integral = k.integral + 256)
    ∧ (¬(256 ≤ k.integral ∧ k.hold < 700) → ¬(k.integral ≤ -256 ∧ 300 < k.hold) →
      k.holdStep.hold = k.hold ∧ k.holdStep.integral = k.integral)
    ∧ k.holdStep.holdSteps = min 65535 (k.holdSteps + 1)
    ∧ holdPoint k.holdStep.hold k.holdStep.integral = holdPoint k.hold k.integral

/-- The presented code is the lowest code whose record has active or pending set, or 0; STATUS is queued exactly where a change of
the records changes it, and nothing else of the line (R175). The records stand in the order of R181's codes; making a condition
active sets active and pending and counts up to 255, ending one clears active and keeps the rest, an event sets pending and
counts. -/
def Obligations.PresentedCodeIsTheLowest : Prop :=
  (∀ m : Mon, (m.presented = 0 ↔ ∀ k : Fin 20, (m.records.get k).live = false)
    ∧ ∀ k : Fin 20, m.presented = k.val + 1 ↔
        (m.records.get k).live = true ∧ ∀ j : Fin 20, j < k → (m.records.get j).live = false)
  ∧ ∀ (s : State) (f : Mon → Mon), (s.changeMon f).mon = f s.mon
    ∧ ((f s.mon).presented ≠ s.mon.presented → (s.changeMon f).line = { s.line with slots := { s.line.slots with status := true } })
    ∧ ((f s.mon).presented = s.mon.presented → (s.changeMon f).line = s.line)
    ∧ (∀ r : CondRecord, r.live = true ↔ r.active = true ∨ r.pending = true)
    ∧ [Cond.coilShort .i, .coilShort .e, .openLoad .i, .openLoad .e, .supplyLow, .phaseStuck .i, .phaseStuck .e, .demandLost,
        .syncLoss, .camPattern, .camSignal .i, .camSignal .e, .pressureSensor, .tempSensor, .lineStuck, .stationClash, .peerLost,
        .cycleDisagree, .learnFailed, .storeFault].map (fun k => s.mon.get k) = s.mon.records.toList
    ∧ ∀ k : Cond,
      let r := s.mon.get k
      (s.activate k).mon.get k = (if r.active = true then r else ⟨true, true, min 255 (r.count + 1)⟩)
      ∧ (s.deactivate k).mon.get k = { r with active := false }
      ∧ (s.raiseEvent k).mon.get k = { r with pending := true, count := min 255 (r.count + 1) }
      ∧ ∀ j, j ≠ k → (s.activate k).mon.get j = s.mon.get j ∧ (s.deactivate k).mon.get j = s.mon.get j
        ∧ (s.raiseEvent k).mon.get j = s.mon.get j

/-! ## Capture and tracker -/

/-- CRANK_EDGE in RUN and during the store load: at or above the filter's threshold the edge is accepted and written behind the
newest entry, but ahead of the cam edges of its own tick; with the FIFO full, the last of them in that order is dropped and
counted; in RUN the stop timer becomes absent, in the load the crank mark is set. Below the threshold the edge is counted as
noise, in STANDBY too (R3, R5, R6, R8, R189, R191). Nothing else changes, and nothing at all while capture is not active (R2),
which is the model's choice (notes/assumptions/1.md). How the order of R6 comes about whatever the order of the commands is the
model's (notes/assumptions/9.md). -/
def Obligations.CrankEdgeIsFilteredAndQueued : Prop :=
  (∀ s : State, s.pwr.power = .run ∨ s.pwr.power = .loading →
    let told : Pwr := if s.pwr.power = .run then { s.pwr with stopTimer := none } else { s.pwr with crankMark := true }
    ∀ front later : List Entry, s.cap.fifo = front ++ later → (∀ x ∈ later, ∃ c, x = ⟨.cam c, s.now⟩) →
      (∀ c, front.getLast? ≠ some ⟨.cam c, s.now⟩) →
      (∀ last, s.cap.crankLast = some last → max 40 ((s.cap.pLast.getD 0) / 4) ≤ elapsed s.now last) →
      (s.cap.overflowPending = false → s.cap.fifo.length < 16 →
        Sys2Proof.Machine.exec .crankEdge s = .next { s with
          cap := { s.cap with
            crankLast := some s.now
            pLast := s.cap.crankLast.map (elapsed s.now)
            fifo := front ++ ⟨.crank, s.now⟩ :: later }
          pwr := told })
      ∧ (s.cap.fifo.length = 16 →
        Sys2Proof.Machine.exec .crankEdge s = .next { s with
          cap := { s.cap with
            crankLast := some s.now
            pLast := s.cap.crankLast.map (elapsed s.now)
            fifo := (front ++ ⟨.crank, s.now⟩ :: later).dropLast
            overflows := min 65535 (s.cap.overflows + 1)
            overflowPending := true }
          pwr := told }))
  ∧ (∀ (s : State) (last : Time), s.pwr.power = .run ∨ s.pwr.power = .standby ∨ s.pwr.power = .loading →
    s.cap.crankLast = some last → elapsed s.now last < max 40 ((s.cap.pLast.getD 0) / 4) →
    Sys2Proof.Machine.exec .crankEdge s = .next { s with
      cap := { s.cap with crankNoise := min 65535 (s.cap.crankNoise + 1) } })
  ∧ ∀ s : State, s.pwr.power ≠ .run → s.pwr.power ≠ .standby → s.pwr.power ≠ .loading →
    Sys2Proof.Machine.exec .crankEdge s = .next s

/-- An accepted CRANK_EDGE in STANDBY is queued as in RUN and moves the part to RUN: share, status and stop timers as R189 says, the
quiet timer absent, a waiting scan started and the coil sums emptied, both channels' first periods opened now with the pending duty,
compensated, dithered and applied, the stop timer set only with the tracker STOPPED (R3, R5, R6, R8, R10, R11, R128, R143, R145 to
R148, R178, R189). How the order of R6 comes about whatever the order of the commands is the model's (notes/assumptions/9.md). -/
def Obligations.CrankEdgeInStandbyEntersRun : Prop :=
  ∀ s : State, s.pwr.power = .standby →
    (∀ last, s.cap.crankLast = some last → max 40 ((s.cap.pLast.getD 0) / 4) ≤ elapsed s.now last) →
    ∀ front later : List Entry, s.cap.fifo = front ++ later → (∀ x ∈ later, ∃ c, x = ⟨.cam c, s.now⟩) →
    (∀ c, front.getLast? ≠ some ⟨.cam c, s.now⟩) →
    let cap : Cap := { s.cap with crankLast := some s.now, pLast := s.cap.crankLast.map (elapsed s.now) }
    let millivolts := if s.scan.supply.length = 8 then s.scan.supply.sum / 8 * 20000 / 4095 else 0
    ∃ t, Sys2Proof.Machine.exec .crankEdge s = .next t
      ∧ (s.cap.overflowPending = false → s.cap.fifo.length < 16 →
        t.cap = { cap with fifo := front ++ ⟨.crank, s.now⟩ :: later })
      ∧ (s.cap.fifo.length = 16 → t.cap = { cap with
          fifo := (front ++ ⟨.crank, s.now⟩ :: later).dropLast
          overflows := min 65535 (s.cap.overflows + 1), overflowPending := true })
      ∧ t.pwr = { s.pwr with
          power := .run, quietTimer := none
          stopTimer := if s.trk.state = .stopped then some ⟨s.now, 4000000⟩ else none }
      ∧ t.scan = { s.scan with
          conversion := (match s.scan.conversion with | some v => some v | none => some ⟨.coil .i, s.now⟩)
          passStart := (match s.scan.conversion with | some _ => s.scan.passStart | none => some s.now)
          coil := .both {} }
      ∧ t.shr = { s.shr with shareTimer := some ⟨s.now, 20000⟩ }
      ∧ t.mon = { s.mon with statusTimer := some ⟨s.now, 200000⟩ }
      ∧ (∀ c : Cam,
        let d := s.drvOf c
        let half := s.settings.ditherLen + 1
        let dithered : Prop := d.pending ≠ 0 ∧ ((s.camOf c).state = .parking ∨ (s.camOf c).state = .follow)
        let dither : Int := if dithered then
          (if d.ditherPhase ≤ half then (s.settings.ditherAmp : Int) else -(s.settings.ditherAmp : Int)) else 0
        let applied := (max 0 (min 1000 ((d.pending * 13500 / max millivolts 9000 : Nat) + dither))).toNat
        t.drvOf c = { d with
          active := d.pending, applied := applied
          ditherPhase := if dithered then (if 2 * half ≤ d.ditherPhase then 1 else d.ditherPhase + 1) else 1
          periodStart := some s.now, output := decide (0 < applied), supplyRead := millivolts })
      ∧ t = { s with cap := t.cap, pwr := t.pwr, scan := t.scan, shr := t.shr, mon := t.mon, drv := t.drv }

/-- CAM_EDGE while capture is active: within 100 ticks of the last accepted edge of the input it is counted as noise; else it is
accepted and written behind the newest entry, a CAM_I edge ahead of a CAM_E edge of its own tick, and with the FIFO full the last
of them in that order is dropped and counted (R4, R5, R6, R8); nothing else changes. CRANK_FILTER_FORGET and CAM_FILTER_FORGET:
400,000 ticks after its last accepted edge a filter forgets it (R3, R4). How the order of R6 comes about whatever the order of the
commands is the model's (notes/assumptions/9.md). -/
def Obligations.CamEdgesAreQueuedAndFiltersForget : Prop :=
  (∀ (s : State) (c : Cam), s.sensing = true →
     (∀ last, s.cap.camLast.get c = some last → elapsed s.now last < 100 →
       Sys2Proof.Machine.exec (.camEdge c) s = .next { s with
         cap := { s.cap with camNoise := s.cap.camNoise.modify c (fun n => min 65535 (n + 1)) } })
     ∧ (∀ front later : List Entry, s.cap.fifo = front ++ later → (∀ x ∈ later, c = .i ∧ x = ⟨.cam .e, s.now⟩) →
       (c = .i → front.getLast? ≠ some ⟨.cam .e, s.now⟩) →
       (∀ last, s.cap.camLast.get c = some last → 100 ≤ elapsed s.now last) →
       (s.cap.overflowPending = false → s.cap.fifo.length < 16 →
         Sys2Proof.Machine.exec (.camEdge c) s = .next { s with
           cap := { s.cap with
             camLast := s.cap.camLast.set c (some s.now), fifo := front ++ ⟨.cam c, s.now⟩ :: later } })
       ∧ (s.cap.fifo.length = 16 →
         Sys2Proof.Machine.exec (.camEdge c) s = .next { s with
           cap := { s.cap with
             camLast := s.cap.camLast.set c (some s.now)
             fifo := (front ++ ⟨.cam c, s.now⟩ :: later).dropLast
             overflows := min 65535 (s.cap.overflows + 1)
             overflowPending := true } })))
  ∧ ((∀ (s : State) (last : Time), s.cap.crankLast = some last → 400000 ≤ elapsed s.now last →
     Sys2Proof.Machine.exec .crankFilterForget s = .next { s with cap := { s.cap with crankLast := none, pLast := none } })
   ∧ ∀ (s : State) (c : Cam) (last : Time), s.cap.camLast.get c = some last → 400000 ≤ elapsed s.now last →
     Sys2Proof.Machine.exec (.camFilterForget c) s = .next { s with cap := { s.cap with camLast := s.cap.camLast.set c none } })

/-- TAKE_CRANK_ENTRY, by tracker state: the first entry after STOPPED (R20); in SEEK the last crank time and T_prev kept until an
interval of twice T_prev is the gap (R22); a tooth within its limits accepted, tooth 11 with SYNC queued in CYCLE_SYNC with the
adopted flag clear below 4,000 rpm (R23, R38); a tooth or a gap outside its limits loses synchronisation, and with it, from
CYCLE_SYNC, the control of the cams, their runs and their tallies (R23, R24, R25, R35, R88). An entry 400,000 ticks or more after
the last one is handled as if the stall had come first (R21), which the model takes as one step (notes/assumptions/26.md). That a
state entry clears a cam's settle start, rested mark and settled time is its reading (notes/assumptions/22.md). -/
def Obligations.CrankEntryIsHandledByState : Prop :=
  ∀ (s : State) (t : Time) (rest : List Entry), s.operating = true → s.cap.overflowPending = false →
    s.cap.fifo = ⟨.crank, t⟩ :: rest →
    (s.trk.state = .stopped → s.trk.lastCrank = none →
      Sys2Proof.Machine.exec .takeCrankEntry s = .next { s with
        cap := { s.cap with fifo := rest }
        trk := { s.trk with state := .seek, lastCrank := some t, stallRef := some t }
        pwr := { s.pwr with stopTimer := none } })
    ∧ (s.trk.state = .seek → s.trk.lastCrank = none →
      Sys2Proof.Machine.exec .takeCrankEntry s = .next { s with
        cap := { s.cap with fifo := rest }
        trk := { s.trk with lastCrank := some t, stallRef := some t } })
    ∧ (∀ last, s.trk.lastCrank = some last → elapsed t last < 400000 → s.trk.state = .seek →
      (s.trk.tPrev = none ∨ (∃ prev, s.trk.tPrev = some prev ∧ elapsed t last < 2 * prev) →
        Sys2Proof.Machine.exec .takeCrankEntry s = .next { s with
          cap := { s.cap with fifo := rest }
          trk := { s.trk with lastCrank := some t, stallRef := some t, tPrev := some (elapsed t last) } })
      ∧ ∀ prev, s.trk.tPrev = some prev → 2 * prev ≤ elapsed t last →
        Sys2Proof.Machine.exec .takeCrankEntry s = .next { s with
          cap := { s.cap with fifo := rest }
          trk := { s.trk with
            state := .crankSync, tooth := 0, toothTime := some t, revStart := t, pitch := elapsed t last / 3
            camCounts := .both 0, revComplete := false, half := none
            rpm := min 20000 (5000000 / (elapsed t last / 3))
            tPrev := none, lastCrank := some t, stallRef := some t } })
    ∧ (∀ last, s.trk.lastCrank = some last → elapsed t last < 400000 → ∀ t0, s.trk.toothTime = some t0 →
      s.trk.state = .crankSync ∨ s.trk.state = .cycleSync →
      let span := elapsed t t0
      let pitch := s.trk.pitch
      let passes : Prop := if s.trk.tooth < 21 then pitch ≤ 2 * span ∧ span < 2 * pitch else 2 * pitch ≤ span ∧ span < 5 * pitch
      let rpm := if s.trk.revComplete then s.trk.rpm else min 20000 (5000000 / span)
      let reports : Prop := s.trk.tooth = 10 ∧ s.trk.state = .cycleSync ∧ s.trk.adopted = false ∧ rpm < 4000
      let searching : Trk := { s.trk with
        state := .seek, toothErrors := min 255 (s.trk.toothErrors + 1), lastCrank := some t, tPrev := some span
        stallRef := some t, rpm := 0, half := none, adopted := false, revComplete := false, camCounts := .both 0
        cycleErrRun := 0 }
      (s.trk.tooth < 21 → passes →
        Sys2Proof.Machine.exec .takeCrankEntry s = .next { s with
          cap := { s.cap with fifo := rest }
          trk := { s.trk with
            tooth := s.trk.tooth + 1, toothTime := some t, pitch := span, lastCrank := some t, stallRef := some t, rpm := rpm }
          line := { s.line with slots := { s.line.slots with sync := if reports then true else s.line.slots.sync } } })
      ∧ (¬passes → s.trk.state = .crankSync →
        Sys2Proof.Machine.exec .takeCrankEntry s = .next ((State.activate { s with
          cap := { s.cap with fifo := rest }, trk := searching } .syncLoss).withdraw .sync))
      ∧ (¬passes → s.trk.state = .cycleSync →
        ∃ u, Sys2Proof.Machine.exec .takeCrankEntry s = .next u ∧ SyncLeft s u ∧ u.trk = searching
          ∧ u.cap = { s.cap with fifo := rest } ∧ u.pwr = s.pwr ∧ u.line.slots.sync = false
          ∧ u.mon.get .syncLoss = (if s.active .syncLoss then s.mon.get .syncLoss
            else ⟨true, true, min 255 ((s.mon.get .syncLoss).count + 1)⟩)
          ∧ ∀ k, k ≠ .syncLoss → u.mon.get k = s.mon.get k))
    ∧ ∀ last, s.trk.lastCrank = some last → 400000 ≤ elapsed t last →
      let restarted : Trk := { s.trk with
        state := .seek, lastCrank := some t, tPrev := none, stallRef := some t, rpm := 0, half := none, adopted := false
        revComplete := false, camCounts := .both 0, cycleErrRun := 0 }
      (s.trk.state ≠ .cycleSync →
        Sys2Proof.Machine.exec .takeCrankEntry s = .next ((State.deactivate { s with
          cap := { s.cap with fifo := rest }, trk := restarted, pwr := { s.pwr with stopTimer := none } }
          .syncLoss).withdraw .sync))
      ∧ (s.trk.state = .cycleSync →
        ∃ u, Sys2Proof.Machine.exec .takeCrankEntry s = .next u ∧ SyncLeft s u ∧ u.trk = restarted
          ∧ u.cap = { s.cap with fifo := rest } ∧ u.pwr = { s.pwr with stopTimer := none } ∧ u.line.slots.sync = false
          ∧ u.mon.get .syncLoss = { s.mon.get .syncLoss with active := false }
          ∧ ∀ k, k ≠ .syncLoss → u.mon.get k = s.mon.get k)

/-- The take of an entry from a full FIFO with overflow-pending set frees a slot for the OVERFLOW marker (R7, R8). TAKE_CAM_ENTRY
in STOPPED or SEEK discards its entry, in CRANK_SYNC it counts the edge, and in CYCLE_SYNC it counts it and PHM handles it: an
automatic run starts where the conditions of R59 hold; an edge in no window is stray; one in a window joins the tally and, with a
plausible phase, becomes the measurement record, else counts as implausible; either way a run in progress collects its raw
deviation, and the 32nd value is evaluated (R29, R49, R50, R52 to R56, R59, R61). The measured clause is of a cam in FAULTED or
PARKED with its target within the park band, where the measurement moves nothing. That an implausible edge is collected is the
model's reading of R49's steps (notes/assumptions/11.md). -/
def Obligations.CamEntryIsHandledByState : Prop :=
  (∀ (s : State) (c : Cam) (t : Time) (rest : List Entry), s.operating = true → s.cap.overflowPending = true →
    s.cap.fifo = ⟨.cam c, t⟩ :: rest → rest.length = 15 → s.trk.state = .stopped ∨ s.trk.state = .seek →
    Sys2Proof.Machine.exec .takeCamEntry s = .next { s with
      cap := { s.cap with fifo := rest ++ [⟨.overflow, s.now⟩], overflowPending := false } })
  ∧ ∀ (s : State) (c : Cam) (t : Time) (rest : List Entry), s.operating = true → s.cap.overflowPending = false →
    s.cap.fifo = ⟨.cam c, t⟩ :: rest →
    (s.trk.state = .stopped ∨ s.trk.state = .seek →
      Sys2Proof.Machine.exec .takeCamEntry s = .next { s with cap := { s.cap with fifo := rest } })
    ∧ (s.trk.state = .crankSync →
      Sys2Proof.Machine.exec .takeCamEntry s = .next { s with
        cap := { s.cap with fifo := rest }
        trk := { s.trk with camCounts := s.trk.camCounts.modify c (fun n => min 255 (n + 1)) } })
    ∧ ∀ h, s.trk.half = some h → ∀ t0, s.trk.toothTime = some t0 → s.trk.state = .cycleSync →
      let angle := cycleAngle h s.trk.tooth (elapsed t t0) s.trk.pitch
      let starts : Prop := (s.phmOf c).learnDone = false ∧ (s.phmOf c).status ≠ .learning ∧ (s.camOf c).state = .parked
        ∧ (s.camOf c).rested = true ∧ s.trk.adopted = false ∧ 700 ≤ s.trk.rpm ∧ s.trk.rpm ≤ s.settings.rpmMaxLearn
      let p : Phm := if starts then
        { s.phmOf c with
          status := .learning, statusBefore := some (s.phmOf c).status, runOrigin := some .automatic, collector := [] }
        else s.phmOf c
      let left (q : Phm) : State := { s with
        cap := { s.cap with fifo := rest }
        trk := { s.trk with camCounts := s.trk.camCounts.modify c (fun n => min 255 (n + 1)) }
        phm := s.phm.set c q }
      (identify c (s.camSettings c) angle = none →
        Sys2Proof.Machine.exec .takeCamEntry s = .next (left { p with stray := min 65535 (p.stray + 1) }))
      ∧ ∀ found, identify c (s.camSettings c) angle = some found →
        let raw := rawDeviation c found.2 angle
        let phase := raw - p.offset
        let valid : Prop := -128 ≤ phase ∧ phase ≤ 928
        let q : Phm := if valid then
          { p with
            tally := min 255 (p.tally + 1)
            measurement := some { phase := phase, edge := found.1, angle := angle, raw := raw, time := t } }
          else { p with tally := min 255 (p.tally + 1), implausible := min 65535 (p.implausible + 1) }
        (¬valid ∨ (s.camOf c).state = .faulted ∨ ((s.camOf c).state = .parked ∧ (s.camOf c).commanded ≤ s.settings.parkBand) →
          (p.status ≠ .learning → Sys2Proof.Machine.exec .takeCamEntry s = .next (left q))
          ∧ (p.status = .learning → p.collector.length < 31 →
            Sys2Proof.Machine.exec .takeCamEntry s = .next (left { q with collector := p.collector ++ [raw] }))
          ∧ (p.status = .learning → Sys2Proof.Machine.exec .takeCamEntry s = .next ((left q).collect c raw)))

/-- TAKE_OVERFLOW_MARKER: in STOPPED and SEEK the search begins again; in CRANK_SYNC and CYCLE_SYNC synchronisation is lost with the
last crank time kept, and from CYCLE_SYNC the cams' control, runs and tallies with it (R42, R35, R88). STALL_TIMEOUT, 400,000 ticks
after the stall reference: the tracker stops, SYNC_LOSS ends, a pending SYNC is withdrawn, and in RUN the stop timer is set; from
CYCLE_SYNC each cam under control goes to OFF and a run of a learned cam returns to LEARNED (R21, R35, R64, R88, R189). That a state
entry clears a cam's settle start, rested mark and settled time is the model's reading (notes/assumptions/22.md). -/
def Obligations.OverflowAndStallAbandonSync : Prop :=
  (∀ (s : State) (t : Time) (rest : List Entry), s.operating = true → s.cap.overflowPending = false →
     s.cap.fifo = ⟨.overflow, t⟩ :: rest →
     let searching : Trk := { s.trk with
       state := .seek, toothErrors := min 255 (s.trk.toothErrors + 1), tPrev := none, stallRef := some t, rpm := 0
       half := none, adopted := false, revComplete := false, camCounts := .both 0, cycleErrRun := 0 }
     (s.trk.state = .stopped ∨ s.trk.state = .seek →
       Sys2Proof.Machine.exec .takeOverflowMarker s = .next { s with
         cap := { s.cap with fifo := rest }
         trk := { s.trk with state := .seek, lastCrank := none, tPrev := none, stallRef := some t }
         pwr := { s.pwr with stopTimer := if s.trk.state = .stopped then none else s.pwr.stopTimer } })
     ∧ (s.trk.state = .crankSync →
       Sys2Proof.Machine.exec .takeOverflowMarker s = .next ((State.activate { s with
         cap := { s.cap with fifo := rest }, trk := searching } .syncLoss).withdraw .sync))
     ∧ (s.trk.state = .cycleSync →
       ∃ u, Sys2Proof.Machine.exec .takeOverflowMarker s = .next u ∧ SyncLeft s u ∧ u.trk = searching
         ∧ u.cap = { s.cap with fifo := rest } ∧ u.pwr = s.pwr ∧ u.line.slots.sync = false
         ∧ u.mon.get .syncLoss = (if s.active .syncLoss then s.mon.get .syncLoss
           else ⟨true, true, min 255 ((s.mon.get .syncLoss).count + 1)⟩)
         ∧ ∀ k, k ≠ .syncLoss → u.mon.get k = s.mon.get k))
  ∧ (∀ (s : State) (r : Time), s.operating = true → s.trk.stallRef = some r → 400000 ≤ elapsed s.now r → s.trk.state ≠ .stopped →
     let stopped : Trk := { s.trk with
       state := .stopped, lastCrank := none, tPrev := none, stallRef := none, rpm := 0, half := none, adopted := false
       revComplete := false, camCounts := .both 0, cycleErrRun := 0 }
     let timed : Pwr := { s.pwr with stopTimer := if s.pwr.power = .run then some ⟨s.now, 4000000⟩ else s.pwr.stopTimer }
     (s.trk.state ≠ .cycleSync →
       Sys2Proof.Machine.exec .stallTimeout s =
         .next ((State.deactivate { s with trk := stopped, pwr := timed } .syncLoss).withdraw .sync))
     ∧ ∃ t, Sys2Proof.Machine.exec .stallTimeout s = .next t ∧ t.trk = stopped ∧ t.pwr = timed
       ∧ t.active .syncLoss = false ∧ t.line.slots.sync = false
       ∧ t.mon.get .syncLoss = { s.mon.get .syncLoss with active := false }
       ∧ (∀ k, k ≠ .syncLoss → t.mon.get k = s.mon.get k)
       ∧ (s.trk.state = .cycleSync → SyncLeft s t)
       ∧ (s.trk.state = .cycleSync → ∀ c, s.machineRuns c = true →
         (t.camOf c).state = (if (s.camOf c).state = .faulted then .faulted else .off)
         ∧ ((s.phmOf c).status = .learning → (s.phmOf c).statusBefore = some .learned → (t.phmOf c).status = .learned))
       ∧ t.cap = s.cap ∧ t.scan = s.scan ∧ t.supply = s.supply ∧ t.store = s.store ∧ t.stored = s.stored ∧ t.service = s.service)

/-- CYCLE_REPORT from a station with a peer record: a report from another station's cams or from the controller, taken in CRANK_SYNC
below 4,000 rpm at teeth 12..21, is filed and adopted (R39, R40, R138); one from another station's cams, taken in CYCLE_SYNC with
the adopted flag clear in the same window, raises CYCLE_DISAGREE where it gives the opposite half (R41); any other is filed and
nothing more. The half is byte 3 and the source byte 4 of the frame; one with either out of range frees its buffer and nothing more
(R37, R39). -/
def Obligations.CycleReportIsAdopted : Prop :=
  (∀ (payload : List Byte) (h : Half) (src : ReportSource), cycleReport payload = some (h, src) ↔
    (payload.getD 0 0).toNat = (match h with | .a => 0 | .b => 1)
    ∧ (payload.getD 1 0).toNat = (match src with | .camI => 0 | .camE => 1 | .adopted => 2 | .controller => 3))
  ∧ ∀ (s : State) (w : Received), s.waiting .sync = some w →
    (cycleReport w.frame.payload = none → Sys2Proof.Machine.exec .cycleReport s = .next s.freeOldest)
    ∧ ∀ (h : Half) (src : ReportSource), cycleReport w.frame.payload = some (h, src) → s.shr.peer w.frame.station ≠ none →
      let filed : State := { s.freeOldest with
        shr := { s.shr with peers := s.shr.peers.map (fun p =>
          if p.station = w.frame.station then { p with report := some (h, src) } else p) } }
      let window : Prop := s.trk.rpm < 4000 ∧ 12 ≤ s.trk.tooth ∧ s.trk.tooth ≤ 21
      (src ≠ .adopted → s.trk.state = .crankSync → window →
        ∃ t, Sys2Proof.Machine.exec .cycleReport s = .next t
          ∧ t.trk = { s.trk with
              state := .cycleSync, half := some h, adopted := true, cycleErrRun := 0, undecided := 0
              adoptions := min 65535 (s.trk.adoptions + 1) }
          ∧ t.active .syncLoss = false
          ∧ (∀ k, k ≠ .syncLoss → t.mon.get k = s.mon.get k)
          ∧ (∀ p, s.shr.peer w.frame.station = some p → t.shr.peer w.frame.station = some { p with report := some (h, src) })
          ∧ (∀ n, n ≠ w.frame.station → t.shr.peer n = s.shr.peer n)
          ∧ (∀ c, t.phmOf c = { s.phmOf c with tally := 0, wholeCycle := false })
          ∧ t.cap = s.cap ∧ t.scan = s.scan ∧ t.camc = s.camc ∧ t.loop = s.loop ∧ t.drv = s.drv ∧ t.supply = s.supply
          ∧ t.store = s.store ∧ t.stored = s.stored ∧ t.service = s.service ∧ t.pwr = s.pwr ∧ t.now = s.now)
      ∧ (∀ own, src = .camI ∨ src = .camE → s.trk.state = .cycleSync → s.trk.adopted = false → window → s.trk.half = some own →
        (own ≠ h → Sys2Proof.Machine.exec .cycleReport s = .next (filed.raiseEvent .cycleDisagree))
        ∧ (own = h → Sys2Proof.Machine.exec .cycleReport s = .next filed))
      ∧ (s.trk.state = .stopped ∨ s.trk.state = .seek ∨ src = .adopted ∨ ¬window
          ∨ (s.trk.state = .cycleSync ∧ (s.trk.adopted = true ∨ src = .controller)) →
        Sys2Proof.Machine.exec .cycleReport s = .next filed)

/-! ## Analog scan -/

/-- The four conversions, each 16 ticks after its start (R9): a coil current is added to the period's sum (R11); a supply count
enters the window of 8, and a value of a full window is handed to the monitor, which judges it at 7,000 and 8,000 mV (R12, R153);
a pressure count is discarded with strap PSF = 0, an invalid one empties the window, makes PRESSURE_SENSOR active and has the
source chosen among the peers' pressures, or none with F_FALLBACK; a valid one enters the window of 16, which once full gives own
pressure, ends PRESSURE_SENSOR and is the source, with F_avail by R120 (R13, R14, R119, R120, R121); during the store load the
source and F_avail stand (R117). A temperature count does the same with its window of 8 and TEMP_SENSOR, -10 °C in use until it is
full (R15, R16, R78). SCAN_PASS_START: in STANDBY a pass starts 100 ms after the one before (R10). That a conversion taken late
starts the next one at the command's moment is the model's choice (notes/assumptions/18.md), and so are the default T_COLD and
table that the cold flag is judged by during the store load (notes/assumptions/7.md). -/
def Obligations.ConversionsReachTheirWindows : Prop :=
  (∀ (s : State) (c : Cam) (count : BitVec 12) (t0 : Time), s.scan.conversion = some ⟨.coil c, t0⟩ → 16 ≤ elapsed s.now t0 →
    (s.drvOf c).periodStart.isSome = true →
    Sys2Proof.Machine.exec (.coilCurrentConversion c count) s = .next { s with
      scan := { s.scan with
        conversion := some ⟨match c with | .i => .coil .e | .e => .supply, s.now⟩
        coil := s.scan.coil.modify c (fun q => { sum := q.sum + count.toNat, n := q.n + 1 }) } })
  ∧ (∀ (s : State) (count : BitVec 12) (t0 : Time), s.scan.conversion = some ⟨.supply, t0⟩ → 16 ≤ elapsed s.now t0 →
    (s.supply.judging = false → s.scan.supply.length < 7 →
      Sys2Proof.Machine.exec (.supplyConversion count) s = .next { s with
        scan := { s.scan with conversion := some ⟨.pressure, s.now⟩, supply := s.scan.supply ++ [count.toNat] } })
    ∧ ∀ window : List Nat, window.length = 8 →
      s.scan.supply ++ [count.toNat] = window ∨ (s.scan.supply.length = 8 ∧ s.scan.supply.tail ++ [count.toNat] = window) →
      let v := window.sum / 8 * 20000 / 4095
      let k := s.supply
      Sys2Proof.Machine.exec (.supplyConversion count) s = .next { s with
        scan := { s.scan with conversion := some ⟨.pressure, s.now⟩, supply := window }
        supply := {
          judging := true
          lowExpiry :=
            if s.active .supplyLow then k.lowExpiry
            else if v < 7000 then (if k.lowExpiry = none then some ⟨s.now, 20000⟩ else k.lowExpiry) else none
          recoveryExpiry :=
            if s.active .supplyLow = false then k.recoveryExpiry
            else if v < 8000 then none
            else if k.recoveryExpiry = none then some ⟨s.now, 200000⟩ else k.recoveryExpiry } })
  ∧ (∀ (s : State) (count : BitVec 12) (t0 : Time), s.scan.conversion = some ⟨.pressure, t0⟩ → 16 ≤ elapsed s.now t0 →
    (s.straps.psf = false →
      Sys2Proof.Machine.exec (.pressureConversion count) s = .next { s with
        scan := { s.scan with conversion := some ⟨.temperature, s.now⟩ } })
    ∧ (s.straps.psf = true → count.toNat < 205 ∨ 3890 < count.toNat →
      ∃ t, Sys2Proof.Machine.exec (.pressureConversion count) s = .next t
        ∧ t.scan = { s.scan with conversion := some ⟨.temperature, s.now⟩, pressure := [] }
        ∧ t.active .pressureSensor = true ∧ t.ownPressure = none
        ∧ (s.active .pressureSensor = false →
          t.mon.get .pressureSensor = ⟨true, true, min 255 ((s.mon.get .pressureSensor).count + 1)⟩)
        ∧ (∀ k, k ≠ .pressureSensor → t.mon.get k = s.mon.get k)
        ∧ (s.operating = true → SourceChosen t ∧ t.shr.source ≠ .own)
        ∧ (s.operating = false → t.shr = s.shr)
        ∧ t.shr = { s.shr with source := t.shr.source, pressure := t.shr.pressure, fAvail := t.shr.fAvail }
        ∧ t = { s with scan := t.scan, mon := t.mon, shr := t.shr, line := t.line })
    ∧ (s.straps.psf = true → 205 ≤ count.toNat → count.toNat ≤ 3890 →
      (s.scan.pressure.length < 15 →
        Sys2Proof.Machine.exec (.pressureConversion count) s = .next { s with
          scan := { s.scan with conversion := some ⟨.temperature, s.now⟩, pressure := s.scan.pressure ++ [count.toNat] } })
      ∧ ∀ window : List Nat, window.length = 16 →
        s.scan.pressure ++ [count.toNat] = window ∨ (s.scan.pressure.length = 16 ∧ s.scan.pressure.tail ++ [count.toNat] = window) →
        let p := (max 0 (min 1000 ((((window.sum / 16 : Nat) : Int) - 410) * 1000 / 3276))).toNat
        ∃ t, Sys2Proof.Machine.exec (.pressureConversion count) s = .next t
          ∧ t.scan = { s.scan with conversion := some ⟨.temperature, s.now⟩, pressure := window }
          ∧ t.ownPressure = some p
          ∧ t.mon.get .pressureSensor = { s.mon.get .pressureSensor with active := false }
          ∧ (∀ k, k ≠ .pressureSensor → t.mon.get k = s.mon.get k)
          ∧ (s.operating = true → t.shr = { s.shr with
              source := .own, pressure := some p
              fAvail := (max 0 (min 1000
                (((p : Int) - s.settings.pFloor) * 1000 / ((s.settings.pFull : Int) - s.settings.pFloor)))).toNat })
          ∧ (s.operating = false → t.shr = s.shr)
          ∧ t = { s with scan := t.scan, mon := t.mon, shr := t.shr, line := t.line }))
  ∧ (∀ (s : State) (count : BitVec 12) (t0 : Time), s.scan.conversion = some ⟨.temperature, t0⟩ → 16 ≤ elapsed s.now t0 →
    let scan (window : List Nat) : Scan :=
      if 1 < s.scan.wakePasses ∨ s.pwr.power = .loading ∨ s.pwr.power = .run then
        { s.scan with
          conversion := some ⟨.coil .i, s.now⟩, passStart := some s.now, wakePasses := s.scan.wakePasses - 1
          temperature := window }
      else { s.scan with conversion := none, wakePasses := s.scan.wakePasses - 1, temperature := window }
    let camc (degrees : Int) : Camc := { s.camc with
      cold := if s.camc.cold then !decide (s.settings.tCold + 5 ≤ degrees) else decide (degrees < s.settings.tCold) }
    (100 ≤ count.toNat → count.toNat ≤ 4000 → s.scan.temperature.length < 7 →
      Sys2Proof.Machine.exec (.temperatureConversion count) s = .next { s with
        scan := scan (s.scan.temperature ++ [count.toNat]), camc := camc (-10) })
    ∧ (∀ window : List Nat, 100 ≤ count.toNat → count.toNat ≤ 4000 → window.length = 8 →
      s.scan.temperature ++ [count.toNat] = window
        ∨ (s.scan.temperature.length = 8 ∧ s.scan.temperature.tail ++ [count.toNat] = window) →
      ∃ t, Sys2Proof.Machine.exec (.temperatureConversion count) s = .next t ∧ t.scan = scan window
        ∧ t.temperature = tempOfCount s.settings (window.sum / 8)
        ∧ t.camc = camc (tempOfCount s.settings (window.sum / 8))
        ∧ t.mon.get .tempSensor = { s.mon.get .tempSensor with active := false }
        ∧ (∀ k, k ≠ .tempSensor → t.mon.get k = s.mon.get k)
        ∧ t = { s with scan := t.scan, camc := t.camc, mon := t.mon, line := t.line })
    ∧ (count.toNat < 100 ∨ 4000 < count.toNat →
      ∃ t, Sys2Proof.Machine.exec (.temperatureConversion count) s = .next t ∧ t.scan = scan [] ∧ t.temperature = -10
        ∧ t.camc = camc (-10) ∧ t.active .tempSensor = true
        ∧ (s.active .tempSensor = false →
          t.mon.get .tempSensor = ⟨true, true, min 255 ((s.mon.get .tempSensor).count + 1)⟩)
        ∧ (∀ k, k ≠ .tempSensor → t.mon.get k = s.mon.get k)
        ∧ t = { s with scan := t.scan, camc := t.camc, mon := t.mon, line := t.line }))
  ∧ ∀ (s : State) (t0 : Time), s.pwr.power = .standby → s.scan.conversion = none → s.scan.passStart = some t0 →
    200000 ≤ elapsed s.now t0 →
    Sys2Proof.Machine.exec .scanPassStart s = .next { s with
      scan := { s.scan with conversion := some ⟨.coil .i, s.now⟩, passStart := some s.now } }

/-! ## Demand and cam control -/

/-- DEMAND_FRAME: a frame delivered before the store load is dropped uncounted; after it, one from another station than 0 is counted
and dropped; one from station 0 sets the mode and the commanded targets its entries name, each limited to L_c, or on entry to HOLD
freezes them at the ramps, restarts the age and ends a loss, and both cams are reviewed: with both in OFF nothing more. Each frees
its buffer (R69 to R73, R81, R166). That a dropped frame leaves its buffer in this step is the model's reading
(notes/assumptions/13.md). -/
def Obligations.DemandFrameIsAccepted : Prop :=
  ∀ (s : State) (w : Received), s.waiting .demand = some w → s.operating = true →
    (w.early = true → Sys2Proof.Machine.exec .demandFrame s = .next s.freeOldest)
    ∧ (w.early = false → w.frame.station ≠ 0 →
      Sys2Proof.Machine.exec .demandFrame s = .next { s.freeOldest with
        camc := { s.camc with foreign := min 65535 (s.camc.foreign + 1) } })
    ∧ (w.early = false → w.frame.station = 0 →
      ∀ (mode : Byte) (entries : List (Byte × Byte × Byte)),
      w.frame.payload = mode :: entries.flatMap (fun x => [x.1, x.2.1, x.2.2]) →
      let named (c : Cam) (who : Byte) : Prop := who.toNat / 16 = s.own ∧ who.toNat % 16 = (match c with | .i => 0 | .e => 1)
      let target (c : Cam) : Nat :=
        if mode = 3 then (if s.camc.mode = .hold then (s.camOf c).commanded else (s.camOf c).ramp)
        else entries.foldl (fun v x => if named c x.1 then
          min (x.2.1.toNat * 256 + x.2.2.toNat) (s.camSettings c).limit else v) (s.camOf c).commanded
      let accepted : State := { s.freeOldest with
        camc := { s.camc with
          mode := if mode = 1 then .run else if mode = 3 then .hold else .park
          loss := .none, holdExpiry := none, ageStart := some s.now
          cams := ⟨{ s.camOf .i with commanded := target .i }, { s.camOf .e with commanded := target .e }⟩ } }
      Sys2Proof.Machine.exec .demandFrame s = .next (((accepted.deactivate .demandLost).review .i none).review .e none)
      ∧ ((∀ c, (s.camOf c).state = .off) →
        ∃ t, Sys2Proof.Machine.exec .demandFrame s = .next t
          ∧ t.camc = accepted.camc ∧ t.active .demandLost = false
          ∧ t.line.buffer s.line.oldestBuffer = none
          ∧ t.line.buffer s.line.oldestBuffer.other = s.line.buffer s.line.oldestBuffer.other
          ∧ t.trk = s.trk ∧ t.phm = s.phm ∧ t.loop = s.loop ∧ t.shr = s.shr ∧ t.drv = s.drv ∧ t.pwr = s.pwr
          ∧ (∀ k, k ≠ .demandLost → t.mon.get k = s.mon.get k)))

/-- DEMAND_TIMEOUT makes DEMAND_LOST active and, from loss stage NONE, takes the configured reaction: LOSS_PARK, or LOSS_HOLD with
the targets frozen for 1 s, after which HOLD_EXPIRY brings LOSS_PARK. In LOSS_PARK a cam in FOLLOW goes to PARKING and one in
RELEASE back to PARKED (R73, R74, R75). -/
def Obligations.DemandLossParksTheCams : Prop :=
  (∀ (s : State) (r : Time), s.operating = true → s.camc.ageStart = some r →
    s.settings.demandTimeout * 2000 < elapsed s.now r → s.camc.loss = .none →
    (s.settings.lossReaction = 0 → ∃ t, Sys2Proof.Machine.exec .demandTimeout s = .next t
      ∧ t.camc.loss = .lossPark ∧ t.camc.ageStart = none ∧ t.active .demandLost = true
      ∧ (∀ c, (t.camOf c).commanded = (s.camOf c).commanded)
      ∧ (∀ c, s.machineRuns c = true →
        ((s.camOf c).state = .follow → (t.camOf c).state = .parking ∧ (t.camOf c).ramp = 0)
        ∧ ((s.camOf c).state = .release → (t.camOf c).state = .parked ∧ (t.drvOf c).pending = 0))
      ∧ t.trk = s.trk ∧ t.cap = s.cap ∧ t.scan = s.scan ∧ t.pwr = s.pwr ∧ t.settings = s.settings ∧ t.stored = s.stored)
    ∧ (s.settings.lossReaction = 1 → ∃ t, Sys2Proof.Machine.exec .demandTimeout s = .next t
      ∧ t.camc.loss = .lossHold ∧ t.camc.holdExpiry = some ⟨s.now, 2000000⟩ ∧ t.camc.ageStart = none
      ∧ t.active .demandLost = true ∧ (∀ c, (t.camOf c).commanded = (s.camOf c).ramp)
      ∧ t.trk = s.trk ∧ t.cap = s.cap ∧ t.scan = s.scan ∧ t.pwr = s.pwr ∧ t.settings = s.settings ∧ t.stored = s.stored))
  ∧ ∀ (s : State) (d : Timer), s.camc.loss = .lossHold → s.camc.holdExpiry = some d → d.len ≤ elapsed s.now d.start →
    ∃ t, Sys2Proof.Machine.exec .holdExpiry s = .next t ∧ t.camc.loss = .lossPark ∧ t.camc.holdExpiry = none
      ∧ t.camc.mode = s.camc.mode ∧ t.mon = s.mon
      ∧ (∀ c, s.machineRuns c = true → (s.camOf c).state = .follow → (t.camOf c).state = .parking)

/-- RELEASE_EXPIRY takes the cam to FOLLOW with the ramp at its measured phase limited to 0..L_c, the integral at 0, and the next
loop update its first; RESTED_MARK sets the rested mark 500 ms after the PARKED entry. The other cam is untouched (R79, R80, R82,
R86, R97). That the entry clears the settle start, the rested mark and the settled time from every state is the model's reading
(notes/assumptions/22.md), and so is a ramp of 0 where no measurement is held, which no run reaches (notes/assumptions/24.md). -/
def Obligations.CamExpiriesAct : Prop :=
  (∀ (s : State) (c : Cam) (d : Timer), s.machineRuns c = true → (s.camOf c).state = .release →
    (s.camOf c).releaseExpiry = some d → d.len ≤ elapsed s.now d.start →
    let ramp : Int := match (s.phmOf c).measurement with
      | some m => max 0 (min ((s.camSettings c).limit : Int) m.phase)
      | none => 0
    Sys2Proof.Machine.exec (.releaseExpiry c) s = .next { s with
      camc := { s.camc with cams := s.camc.cams.set c { s.camOf c with
        state := .follow, ramp := ramp.toNat, parkedAt := none
        rested := false, settleStart := none, releaseExpiry := none, stuck := 0 } }
      loop := s.loop.set c { s.loopOf c with integral := 0, settled := 0, lastUpdate := s.now, first := true } })
  ∧ ∀ (s : State) (c : Cam) (r : Time), (s.camOf c).state = .parked → (s.camOf c).rested = false →
    (s.camOf c).parkedAt = some r → 1000000 ≤ elapsed s.now r →
    Sys2Proof.Machine.exec (.restedMark c) s = .next { s with
      camc := { s.camc with cams := s.camc.cams.set c { s.camOf c with rested := true } } }

/-! ## Flow share unit -/

/-- SHARE_FRAME: the frame is filed in the sender's record, each flow limited to 1000, the pressure present only with its flag and
a value of 0..1000, the moving bits from bits 1 and 0, the delivery's time and the next place in the order of filings, the role
PHASE but for station 0; other records stand (R130, R134, R166). PEER_STALE, more than 30 ms after the last refresh, turns a FRESH
record STALE, and its demand no longer counts; PEER_DELETE, more than 500 ms after it, removes the record, counts the deletion and
in RUN raises PEER_LOST for a PHASE record (R124, R135, R136). After each of the three the pressure source is the one R119
chooses, with its pressure and F_avail (R119, R120, R122); a SHARE filed during the store load leaves them, as R117 has them begin
with its completion. -/
def Obligations.PeerRecordsAreFiledAndAge : Prop :=
  (∀ (s : State) (w : Received) (p : Peer), s.waiting .share = some w → s.shr.peer w.frame.station = some p →
     let flow (k : Nat) : Nat := min 1000 ((w.frame.payload.getD k 0).toNat * 256 + (w.frame.payload.getD (k + 1) 0).toNat)
     let flags := w.frame.payload.getD 6 0
     let pressure := (w.frame.payload.getD 7 0).toNat * 256 + (w.frame.payload.getD 8 0).toNat
     ∃ t, Sys2Proof.Machine.exec .shareFrame s = .next t
       ∧ t.shr.peer w.frame.station = some { p with
           share := some {
             demand := flow 0, grant := flow 2, flow := flow 4, moving := ⟨flags.getLsbD 0, flags.getLsbD 1⟩, time := w.time
             filing := s.shr.filings }
           pressure := if flags.getLsbD 7 = true ∧ pressure ≤ 1000 then some pressure else none
           role := if p.station = 0 then p.role else .phase }
       ∧ (∀ n, n ≠ w.frame.station → t.shr.peer n = s.shr.peer n)
       ∧ (s.operating = true → SourceChosen t)
       ∧ (s.operating = false → t.shr.source = s.shr.source ∧ t.shr.pressure = s.shr.pressure ∧ t.shr.fAvail = s.shr.fAvail)
       ∧ t.shr = { s.shr with
           peers := t.shr.peers, filings := s.shr.filings + 1, source := t.shr.source, pressure := t.shr.pressure
           fAvail := t.shr.fAvail }
       ∧ t = { s with shr := t.shr, line := s.freeOldest.line })
  ∧ ((∀ (s : State) (n : Fin 8) (p : Peer), s.operating = true → s.shr.peer n.val = some p → p.fresh = true →
     60000 < elapsed s.now p.lastRefresh →
     ∃ t, Sys2Proof.Machine.exec (.peerStale n) s = .next t
       ∧ t.shr.peer n.val = some { p with fresh := false } ∧ ({ p with fresh := false } : Peer).counted = 0
       ∧ (∀ k : Nat, k ≠ n.val → t.shr.peer k = s.shr.peer k) ∧ SourceChosen t
       ∧ t.shr = { s.shr with
           peers := t.shr.peers, source := t.shr.source, pressure := t.shr.pressure, fAvail := t.shr.fAvail }
       ∧ t = { s with shr := t.shr })
   ∧ ∀ (s : State) (n : Fin 8) (p : Peer), s.operating = true → s.shr.peer n.val = some p →
     1000000 < elapsed s.now p.lastRefresh →
     ∃ t, Sys2Proof.Machine.exec (.peerDelete n) s = .next t
       ∧ t.shr.peer n.val = none ∧ (∀ k : Nat, k ≠ n.val → t.shr.peer k = s.shr.peer k) ∧ SourceChosen t
       ∧ t.shr = { s.shr with
           peers := t.shr.peers, deleted := min 65535 (s.shr.deleted + 1), source := t.shr.source
           pressure := t.shr.pressure, fAvail := t.shr.fAvail }
       ∧ t.mon.get .peerLost = (if p.role = .phase ∧ s.pwr.power = .run then
           { s.mon.get .peerLost with pending := true, count := min 255 ((s.mon.get .peerLost).count + 1) }
         else s.mon.get .peerLost)
       ∧ (∀ k, k ≠ .peerLost → t.mon.get k = s.mon.get k)
       ∧ t = { s with shr := t.shr, mon := t.mon, line := t.line })

/-- SHARE_TIMER and STATUS_TIMER in RUN queue their kind and set the next expiry a whole period after the one reached (R128, R178);
LISTEN_EXPIRY makes a station whose number is not 0 ACTIVE and queues STATUS (R172, R191). That the timer of a station with number 0
becomes absent, and no STATUS is queued, is the model's reading (notes/assumptions/21.md). -/
def Obligations.PeriodicTimersQueueTheirFrames : Prop :=
  (∀ (s : State) (d : Timer), s.pwr.power = .run → s.shr.shareTimer = some d → d.len ≤ elapsed s.now d.start →
    Sys2Proof.Machine.exec .shareTimer s = .next { s with
      shr := { s.shr with shareTimer := some ⟨d.start + BitVec.ofNat 24 d.len, d.len⟩ }
      line := { s.line with slots := { s.line.slots with share := true } } })
  ∧ (∀ (s : State) (d : Timer), s.pwr.power = .run → s.mon.statusTimer = some d → d.len ≤ elapsed s.now d.start →
    Sys2Proof.Machine.exec .statusTimer s = .next { s with
      mon := { s.mon with statusTimer := some ⟨d.start + BitVec.ofNat 24 d.len, d.len⟩ }
      line := { s.line with slots := { s.line.slots with status := true } } })
  ∧ ∀ (s : State) (d : Timer), s.pwr.listenTimer = some d → d.len ≤ elapsed s.now d.start →
    (s.own ≠ 0 → Sys2Proof.Machine.exec .listenExpiry s = .next { s with
      pwr := { s.pwr with listenTimer := none }
      line := { s.line with life := .active, slots := { s.line.slots with status := true } } })
    ∧ (s.own = 0 → Sys2Proof.Machine.exec .listenExpiry s = .next { s with pwr := { s.pwr with listenTimer := none } })

/-! ## Valve drivers and supply monitor -/

/-- PERIOD_BOUNDARY: a period is closed, with its mean current, trip run and open-load run, and the next is opened with the pending
duty, compensated, dithered and applied (R145 to R148, R151, R152, R11); an eighth tripped period in a row makes COIL_SHORT_x
active, a third open-load period OPEN_LOAD_x, and either takes the cam to FAULTED with its output off (R89, R149, R151, R152). The
other channel is untouched. What the open-load judgement finds where COIL_SHORT_x is raised is the model's choice, and nothing is
said of it here (notes/assumptions/28.md). -/
def Obligations.PeriodBoundaryClosesAndOpens : Prop :=
  ∀ (s : State) (c : Cam) (t0 : Time), s.pwr.power = .run → (s.drvOf c).periodStart = some t0 →
    (match s.settings.pwmFreq with | 0 => 10000 | 1 => 8000 | _ => 6667) ≤ elapsed s.now t0 →
    let sums := s.scan.coil.get c
    let mean := if sums.n = 0 then 0 else sums.sum / sums.n * 3000 / 4095
    let millivolts := if s.scan.supply.length = 8 then s.scan.supply.sum / 8 * 20000 / 4095 else 0
    let half := s.settings.ditherLen + 1
    let isOpen : Prop := 200 ≤ (s.drvOf c).applied ∧ mean < 50
    let tripRun := if (s.drvOf c).tripped then min 8 ((s.drvOf c).tripRun + 1) else 0
    let openRun := if isOpen then min 3 ((s.drvOf c).openRun + 1) else 0
    let openPeriods := if isOpen then min 65535 ((s.drvOf c).openPeriods + 1) else (s.drvOf c).openPeriods
    ((tripRun = 8 → s.active (.coilShort c) = true) → (openRun = 3 → s.active (.openLoad c) = true) →
      let phase := (s.drvOf c).ditherPhase
      let dithered : Prop := (s.drvOf c).pending ≠ 0 ∧ ((s.camOf c).state = .parking ∨ (s.camOf c).state = .follow)
      let dither : Int := if dithered then
        (if phase ≤ half then (s.settings.ditherAmp : Int) else -(s.settings.ditherAmp : Int)) else 0
      let applied := (max 0 (min 1000
        (((s.drvOf c).pending * 13500 / max millivolts 9000 : Nat) + dither))).toNat
      Sys2Proof.Machine.exec (.periodBoundary c) s = .next { s with
        drv := s.drv.set c { s.drvOf c with
          meanCurrent := mean, tripRun := tripRun, openRun := openRun, openPeriods := openPeriods, tripped := false
          active := (s.drvOf c).pending
          applied := applied
          ditherPhase := if dithered then (if 2 * half ≤ phase then 1 else phase + 1) else 1
          periodStart := some s.now, output := decide (0 < applied), supplyRead := millivolts }
        scan := { s.scan with coil := s.scan.coil.set c {} } })
    ∧ ∀ k : Cond, (tripRun = 8 ∧ k = .coilShort c) ∨ (tripRun ≠ 8 ∧ openRun = 3 ∧ k = .openLoad c) → s.active k = false →
      s.machineRuns c = true → (s.camOf c).state ≠ .faulted →
      ∃ t, Sys2Proof.Machine.exec (.periodBoundary c) s = .next t
        ∧ t.active k = true ∧ (t.camOf c).state = .faulted ∧ (t.drvOf c).output = false
        ∧ (t.drvOf c).applied = 0 ∧ (t.drvOf c).pending = 0 ∧ (t.loopOf c).integral = 0 ∧ t.shr.demand.get c = 0
        ∧ (t.drvOf c).tripRun = tripRun ∧ (k = .openLoad c → (t.drvOf c).openPeriods = openPeriods)
        ∧ t.camOf c.other = s.camOf c.other ∧ t.drvOf c.other = s.drvOf c.other ∧ t.trk = s.trk ∧ t.pwr = s.pwr

/-- ON_TIME_END switches the output off when its on-time has passed; an applied duty of 1000 leaves it on (R148). CURRENT_TRIP, with
the output on and the current past I_TRIP, switches it off, marks the period tripped and counts; at or below I_TRIP nothing
happens (R142, R150). -/
def Obligations.OutputIsSwitchedOff : Prop :=
  (∀ (s : State) (c : Cam) (t0 : Time), (s.drvOf c).output = true → (s.drvOf c).periodStart = some t0 →
    ((s.drvOf c).applied < 1000 → (s.drvOf c).applied * (match s.settings.pwmFreq with | 0 => 10000 | 1 => 8000 | _ => 6667) / 1000 ≤ elapsed s.now t0 →
      Sys2Proof.Machine.exec (.onTimeEnd c) s = .next { s with drv := s.drv.set c { s.drvOf c with output := false } })
    ∧ ((s.drvOf c).applied = 1000 → Sys2Proof.Machine.exec (.onTimeEnd c) s = .next s))
  ∧ ∀ (s : State) (c : Cam) (milliamps : Nat), (s.drvOf c).output = true →
    (1500 + 500 * s.settings.iTrip < milliamps →
      Sys2Proof.Machine.exec (.currentTrip c milliamps) s = .next { s with
        drv := s.drv.set c { s.drvOf c with output := false, tripped := true, trips := min 65535 ((s.drvOf c).trips + 1) } })
    ∧ (milliamps ≤ 1500 + 500 * s.settings.iTrip → Sys2Proof.Machine.exec (.currentTrip c milliamps) s = .next s)

/-- SUPPLY_LOW_EXPIRY makes SUPPLY_LOW active and takes each cam under control to OFF with a pending duty of 0;
SUPPLY_RECOVERY_EXPIRY ends it (R88, R153, R154). -/
def Obligations.SupplyExpiriesAct : Prop :=
  (∀ (s : State) (d : Timer), s.supply.lowExpiry = some d → d.len ≤ elapsed s.now d.start →
    ∃ t, Sys2Proof.Machine.exec .supplyLowExpiry s = .next t ∧ t.active .supplyLow = true ∧ t.supply.lowExpiry = none
      ∧ (∀ c, s.machineRuns c = true → (s.camOf c).state.controlled = true →
        (t.camOf c).state = .off ∧ (t.drvOf c).pending = 0 ∧ (t.drvOf c).applied = (s.drvOf c).applied)
      ∧ (∀ c, (s.camOf c).state = .faulted ∨ (s.camOf c).state = .off → t.camOf c = s.camOf c ∧ t.drvOf c = s.drvOf c)
      ∧ (∀ k, k ≠ .supplyLow → t.mon.get k = s.mon.get k)
      ∧ t.trk = s.trk ∧ t.cap = s.cap ∧ t.scan = s.scan ∧ t.store = s.store ∧ t.stored = s.stored ∧ t.pwr = s.pwr)
  ∧ ∀ (s : State) (d : Timer), s.supply.recoveryExpiry = some d → d.len ≤ elapsed s.now d.start →
    Sys2Proof.Machine.exec .supplyRecoveryExpiry s =
      .next (State.deactivate { s with supply := { s.supply with recoveryExpiry := none } } .supplyLow)

/-! ## Line controller -/

/-- FRAMING_ERROR where one is due (a low in START past 7Tb/4; in FRAME no edge by 17Tb/8 after the SOF edge or by 9Tb/8 after the
bit before, or a bit's low past 7Tb/8), with no DOZE entry to follow: the frame is dropped and counted and WAIT_IDLE entered; an
own frame being sent, of any kind, is dropped too, its drive released, a transmit failure counted, and nothing requeued (R159,
R160, R170). LINE_IDLE: after 12Tb of recessive line in WAIT_IDLE the receiver is IDLE and the transmitter enabled, LINE_STUCK no
longer active. LINE_HELD: a low of 16Tb makes LINE_STUCK active and disables the transmitter (R160, R161). How the model has the
line's level is in notes/assumptions/14.md. That a framing error ends an own frame before its first data bit too is the model's
reading (notes/assumptions/29.md). -/
def Obligations.ReceiverLeavesFramesAndFindsIdle : Prop :=
  (∀ s : State, s.tb = (if s.straps.bitCode = 0 then 8 else if s.straps.bitCode = 2 then 32 else 16))
  ∧ (∀ s : State,
    let dt := elapsed s.now s.line.lastFall
    let due : Prop :=
      (s.line.receiver = .start ∧ s.line.low = true ∧ 14 * (s.tb / 8) < dt)
      ∨ (s.line.receiver = .frame ∧ s.line.dataBits = 0 ∧ 17 * (s.tb / 8) < dt)
      ∨ (s.line.receiver = .frame ∧ s.line.dataBits ≠ 0
        ∧ (9 * (s.tb / 8) < dt ∨ (s.line.low = true ∧ 7 * (s.tb / 8) < dt)))
    (due → s.line.sending = none → s.dozeReady = false →
      Sys2Proof.Machine.exec .framingError s = .next { s with
        line := { s.line with
          framing := min 65535 (s.line.framing + 1), receiver := .waitIdle, dataBits := 0, sampled := [] } })
    ∧ (∀ slot bytes, due → s.line.sending = some ⟨slot, bytes⟩ → s.pwr.power = .run →
      Sys2Proof.Machine.exec .framingError s = .next { s with
        line := { s.line with
          framing := min 65535 (s.line.framing + 1), receiver := .waitIdle, dataBits := 0, sampled := []
          drive := none, aborting := false
          lastRise := if s.line.drive.isSome = true ∧ s.line.othersLow = false then s.now else s.line.lastRise
          sending := none, txFailures := min 65535 (s.line.txFailures + 1) }
        mon := if slot = .status then { s.mon with noted := none } else s.mon
        service := if slot = .reply ∧ s.service.composed = true then {} else s.service })
    ∧ (¬due → Sys2Proof.Machine.exec .framingError s = .next s))
  ∧ (∀ s : State, s.line.receiver = .waitIdle → s.line.low = false →
    (12 * s.tb ≤ elapsed s.now s.line.lastRise →
      (s.active .lineStuck = false →
        Sys2Proof.Machine.exec .lineIdle s = .next { s with line := { s.line with txEnabled := true, receiver := .idle } })
      ∧ ∃ t, Sys2Proof.Machine.exec .lineIdle s = .next t ∧ t.line.txEnabled = true ∧ t.line.receiver = .idle
        ∧ t.mon.get .lineStuck = { s.mon.get .lineStuck with active := false }
        ∧ (∀ k, k ≠ .lineStuck → t.mon.get k = s.mon.get k)
        ∧ t = { s with mon := t.mon, line := t.line })
    ∧ (elapsed s.now s.line.lastRise < 12 * s.tb → Sys2Proof.Machine.exec .lineIdle s = .next s))
  ∧ ∀ s : State, s.line.receiver ≠ .off → s.line.low = true →
    (16 * s.tb ≤ elapsed s.now s.line.lastFall →
      (s.active .lineStuck = true →
        Sys2Proof.Machine.exec .lineHeld s = .next { s with line := { s.line with txEnabled := false } })
      ∧ ∃ t, Sys2Proof.Machine.exec .lineHeld s = .next t ∧ t.line.txEnabled = false ∧ t.line.receiver = s.line.receiver
        ∧ t.line.sending = s.line.sending ∧ t.active .lineStuck = true
        ∧ (s.active .lineStuck = false → t.mon.get .lineStuck = ⟨true, true, min 255 ((s.mon.get .lineStuck).count + 1)⟩)
        ∧ (∀ k, k ≠ .lineStuck → t.mon.get k = s.mon.get k)
        ∧ t = { s with mon := t.mon, line := t.line })
    ∧ (elapsed s.now s.line.lastFall < 16 * s.tb → Sys2Proof.Machine.exec .lineHeld s = .next s)

/-- LINE_FALLING_EDGE on a high line: from IDLE it begins START, and from WAIT_IDLE too where the line has by then been recessive
for 12Tb; in FRAME one 15Tb/8..17Tb/8 after the SOF edge (the first data bit) or 7Tb/8..9Tb/8 after the bit before (the others)
begins a data bit, which a transmitting station drives from there for Tb/4 or 3Tb/4, and another is a framing error; in STANDBY it
restarts the quiet time. START_OF_FRAME: a low in START shorter than 5Tb/4 is ignored, up to 7Tb/4 a start of frame, longer a
framing error; a low in FRAME longer than 7Tb/8 from a data bit's edge is a framing error, of a frame being received or of the
own; a low that has by then lasted 16Tb holds the line. In the ticks of a transmission a drive ends at its time, the next bit
begins Tb (the first 2Tb) after the edge before it, and each bit is sampled Tb/2 after its edge (R158, R159, R160, R161, R170,
R190). That the two commands say what other stations do to the line is the model's choice (notes/assumptions/14.md), and that a
framing error ends an own frame before its first data bit too is its reading (notes/assumptions/29.md). -/
def Obligations.LineEdgesAreJudgedByTheirTimes : Prop :=
  let pulseOf (tb : Nat) (bytes : List Byte) (n : Nat) : Nat := if (bitsOf bytes).getD n true then tb / 4 else 3 * (tb / 4)
  (∀ s : State, s.pwr.power = .run → s.line.low = false →
    (s.line.receiver = .idle →
      Sys2Proof.Machine.exec .lineFallingEdge s = .next { s with
        line := { s.line with othersLow := true, receiver := .start, lastFall := s.now, dataBits := 0, sampled := [] } })
    ∧ (s.line.receiver = .waitIdle →
      (elapsed s.now s.line.lastRise < 12 * s.tb →
        Sys2Proof.Machine.exec .lineFallingEdge s = .next { s with
          line := { s.line with othersLow := true, lastFall := s.now } })
      ∧ (12 * s.tb ≤ elapsed s.now s.line.lastRise →
        (s.active .lineStuck = false →
          Sys2Proof.Machine.exec .lineFallingEdge s = .next { s with
            line := { s.line with
              txEnabled := true, othersLow := true, receiver := .start, lastFall := s.now, dataBits := 0, sampled := [] } })
        ∧ ∃ t, Sys2Proof.Machine.exec .lineFallingEdge s = .next t ∧ t.line.receiver = .start ∧ t.line.lastFall = s.now
          ∧ t.line.othersLow = true ∧ t.line.txEnabled = true
          ∧ t.mon.get .lineStuck = { s.mon.get .lineStuck with active := false }
          ∧ (∀ k, k ≠ .lineStuck → t.mon.get k = s.mon.get k)
          ∧ t = { s with mon := t.mon, line := t.line }))
    ∧ (s.line.receiver = .frame →
      let dt := elapsed s.now s.line.lastFall
      let lo := if s.line.dataBits = 0 then 15 * (s.tb / 8) else 7 * (s.tb / 8)
      let hi := if s.line.dataBits = 0 then 17 * (s.tb / 8) else 9 * (s.tb / 8)
      (lo ≤ dt → dt ≤ hi →
        Sys2Proof.Machine.exec .lineFallingEdge s = .next { s with
          line := { s.line with
            othersLow := true, lastFall := s.now, dataBits := s.line.dataBits + 1
            drive := match s.line.sending with
              | some x => some ⟨s.now, pulseOf s.tb x.bytes s.line.dataBits⟩
              | none => none } })
      ∧ (s.line.sending = none → dt < lo ∨ hi < dt →
        Sys2Proof.Machine.exec .lineFallingEdge s = .next { s with
          line := { s.line with
            othersLow := true, lastFall := s.now, framing := min 65535 (s.line.framing + 1), receiver := .waitIdle
            dataBits := 0, sampled := [] } })))
  ∧ (∀ s : State, s.line.low = true → s.dozeReady = false →
    Sys2Proof.Machine.exec .lineFallingEdge s = .next { s with line := { s.line with othersLow := true } })
  ∧ (∀ s : State, s.pwr.power = .standby → s.line.receiver = .idle → s.line.low = false → s.line.sending = none →
    Sys2Proof.Machine.exec .lineFallingEdge s = .next { s with
      line := { s.line with othersLow := true, receiver := .start, lastFall := s.now, dataBits := 0, sampled := [] }
      pwr := { s.pwr with quietTimer := some ⟨s.now, 10000000⟩, quietMark := false } })
  ∧ (∀ s : State, s.line.othersLow = true →
    (s.line.receiver = .start → s.line.drive = none → s.line.sending = none →
      let low := elapsed s.now s.line.lastFall
      let l : Line := { s.line with othersLow := false, lastRise := s.now, dataBits := 0, sampled := [] }
      (low < 5 * (s.tb / 4) → Sys2Proof.Machine.exec .startOfFrame s = .next { s with line := { l with receiver := .waitIdle } })
      ∧ (5 * (s.tb / 4) ≤ low → low ≤ 7 * (s.tb / 4) →
        Sys2Proof.Machine.exec .startOfFrame s = .next { s with line := { l with receiver := .frame } })
      ∧ (7 * (s.tb / 4) < low → low < 16 * s.tb →
        Sys2Proof.Machine.exec .startOfFrame s = .next { s with
          line := { l with receiver := .waitIdle, framing := min 65535 (s.line.framing + 1) } }))
    ∧ (s.line.receiver = .frame → s.line.drive = none →
      let low := elapsed s.now s.line.lastFall
      let l : Line := { s.line with othersLow := false, lastRise := s.now }
      let long : Prop := if s.line.dataBits = 0 then 17 * (s.tb / 8) < low else 7 * (s.tb / 8) < low
      (¬long → Sys2Proof.Machine.exec .startOfFrame s = .next { s with line := l })
      ∧ (long → low < 16 * s.tb → s.line.sending = none →
        Sys2Proof.Machine.exec .startOfFrame s = .next { s with
          line := { l with
            framing := min 65535 (s.line.framing + 1), receiver := .waitIdle, dataBits := 0, sampled := [] } })
      ∧ ∀ slot bytes, long → low < 16 * s.tb → s.line.sending = some ⟨slot, bytes⟩ → s.pwr.power = .run →
        Sys2Proof.Machine.exec .startOfFrame s = .next { s with
          line := { l with
            framing := min 65535 (s.line.framing + 1), receiver := .waitIdle, dataBits := 0, sampled := []
            aborting := false, sending := none, txFailures := min 65535 (s.line.txFailures + 1) }
          mon := if slot = .status then { s.mon with noted := none } else s.mon
          service := if slot = .reply ∧ s.service.composed = true then {} else s.service })
    ∧ (s.line.receiver = .waitIdle ∨ s.line.receiver = .idle → s.line.drive = none →
      elapsed s.now s.line.lastFall < 16 * s.tb →
      Sys2Proof.Machine.exec .startOfFrame s = .next { s with line := { s.line with othersLow := false, lastRise := s.now } })
    ∧ (s.line.receiver = .off → s.line.drive = none →
      Sys2Proof.Machine.exec .startOfFrame s = .next { s with line := { s.line with othersLow := false, lastRise := s.now } })
    ∧ (s.line.receiver ≠ .off → s.line.drive = none → 16 * s.tb ≤ elapsed s.now s.line.lastFall →
      ∃ t, Sys2Proof.Machine.exec .startOfFrame s = .next t ∧ t.active .lineStuck = true ∧ t.line.txEnabled = false
        ∧ t.line.othersLow = false ∧ t.line.lastRise = s.now
        ∧ (s.pwr.power = .run → s.line.receiver ≠ .idle → t.line.receiver = .waitIdle)
        ∧ (∀ k, k ≠ .lineStuck → t.mon.get k = s.mon.get k))
    ∧ (s.line.drive.isSome = true →
      Sys2Proof.Machine.exec .startOfFrame s = .next { s with line := { s.line with othersLow := false } }))
  ∧ ∀ (s : State) (x : Transmission), s.pending = [] → s.ownEvents = [] → s.pwr.power = .run → s.line.sending = some x →
    s.line.receiver = .frame →
    let dt := elapsed (s.now + 1) s.line.lastFall
    let next (l : Line) : Prop := Sys2Proof.Machine.step s = .next { s with now := s.now + 1, line := l }
    (∀ d, s.line.drive = some d → d.len ≤ elapsed (s.now + 1) d.start → dt ≠ s.tb / 2 → dt ≠ s.tb → dt ≠ 2 * s.tb →
      next { s.line with drive := none, aborting := false, lastRise := if s.line.othersLow then s.line.lastRise else s.now + 1 })
    ∧ (s.line.low = false → s.line.dataBits < 8 * x.bytes.length → dt = (if s.line.dataBits = 0 then 2 * s.tb else s.tb) →
      next { s.line with
        lastFall := s.now + 1, dataBits := s.line.dataBits + 1
        drive := some ⟨s.now + 1, pulseOf s.tb x.bytes s.line.dataBits⟩ })
    ∧ (1 ≤ s.line.dataBits → dt = s.tb / 2 → dueAt s.line.drive (s.now + 1) = false →
      next { s.line with sampled := s.line.sampled ++ [!s.line.low] })

/-- FRAME_RECEIVED at the sample of the last data bit of a frame that is not the station's own: a CRC that does not match, a
station field above 7, a kind outside the table, a length its kind does not accept and an own station number are counted or
raised, each alone, and the frame dropped; a valid frame waits in the buffer whose turn it is (REPLY and STATUS leave it empty)
and its sender's record is created or refreshed, a STALE one with the pressure source chosen again; with that buffer full it is an
overrun (R119, R132, R133, R163, R165, R166). That the bytes are those of the samples is how the model gives the command its
operand (notes/assumptions/15.md). -/
def Obligations.FrameReceivedIsJudged : Prop :=
  ∀ (bytes : List Byte) (s : State), 4 ≤ bytes.length → bytes.length = 4 + (bytes.getD 1 0).toNat % 16 → s.line.receiver = .frame →
    elapsed s.now s.line.lastFall = s.tb / 2 → s.line.dataBits = 8 * bytes.length → s.line.sampled = bitsOf bytes →
    s.line.sending = none → s.line.aborting = false →
    let kind := (bytes.getD 0 0).toNat / 16
    let station := (bytes.getD 0 0).toNat % 16
    let seq := (bytes.getD 1 0).toNat / 16
    let payload := (bytes.drop 2).take (bytes.length - 4)
    let l : Line := { s.line with receiver := .waitIdle, dataBits := 0, sampled := [] }
    (crcMatches bytes = false →
      Sys2Proof.Machine.exec (.frameReceived bytes) s = .next { s with
        line := { l with crcErrors := min 65535 (s.line.crcErrors + 1) } })
    ∧ (crcMatches bytes = true → 7 < station →
      Sys2Proof.Machine.exec (.frameReceived bytes) s = .next { s with
        line := { l with malformed := min 65535 (s.line.malformed + 1) } })
    ∧ (crcMatches bytes = true → station ≤ 7 → kind ∉ [2, 3, 4, 9, 10, 12] →
      Sys2Proof.Machine.exec (.frameReceived bytes) s = .next { s with
        line := { l with unknownKind := min 65535 (s.line.unknownKind + 1) } })
    ∧ ∀ k : Kind, crcMatches bytes = true → station ≤ 7 →
      kind = (match k with | .demand => 2 | .sync => 3 | .share => 4 | .request => 9 | .reply => 10 | .status => 12) →
      let accepted : Prop := match k with
        | .demand => payload.length = 1 ∨ payload.length = 4 ∨ payload.length = 7 ∨ payload.length = 10 ∨ payload.length = 13
        | .sync => payload.length = 4
        | .share => payload.length = if (payload.getD 6 0).getLsbD 7 = true then 9 else 7
        | .request => 2 ≤ payload.length
        | .reply => 3 ≤ payload.length
        | .status => payload.length = 8
      (¬accepted →
        Sys2Proof.Machine.exec (.frameReceived bytes) s = .next { s with
          line := { l with malformed := min 65535 (s.line.malformed + 1) } })
      ∧ (accepted → station = s.own →
        Sys2Proof.Machine.exec (.frameReceived bytes) s = .next (State.raiseEvent { s with line := l } .stationClash))
      ∧ (accepted → station ≠ s.own →
        let f : Frame := ⟨k, station, seq, payload⟩
        let held : Option Received := if k = .reply ∨ k = .status then none else some ⟨f, s.now, !s.operating⟩
        (∀ placed : Line,
          (s.line.lastBuffer ≠ some .x ∧ s.line.bufferX = none
            ∧ placed = { l with bufferX := held, lastBuffer := some .x, received := min 65535 (s.line.received + 1) })
          ∨ (s.line.lastBuffer = some .x ∧ s.line.bufferY = none
            ∧ placed = { l with bufferY := held, lastBuffer := some .y, received := min 65535 (s.line.received + 1) }) →
          (s.shr.peer station = none →
            Sys2Proof.Machine.exec (.frameReceived bytes) s = .next { s with
              line := placed
              shr := { s.shr with
                peers := insertPeer {
                  station := station, role := if station = 0 then .controller else .other, lastSeq := seq, missed := 0
                  lastRefresh := s.now, fresh := true, share := none, pressure := none, report := none } s.shr.peers
                created := min 65535 (s.shr.created + 1) } })
          ∧ ∀ p, s.shr.peer station = some p →
            let t : State := { s with
              line := placed
              shr := { s.shr with peers := s.shr.peers.map (fun q => if q.station = station then
                { q with
                  missed := min 255 (q.missed + (seq + 31 - q.lastSeq) % 16), lastSeq := seq, lastRefresh := s.now
                  fresh := true } else q) } }
            (p.fresh = true → Sys2Proof.Machine.exec (.frameReceived bytes) s = .next t)
            ∧ (p.fresh = false → Sys2Proof.Machine.exec (.frameReceived bytes) s = .next t.rechoose
              ∧ (s.operating = true → SourceChosen t.rechoose)))
        ∧ (∀ w, (s.line.lastBuffer = some .x ∧ s.line.bufferY = some w) ∨ (s.line.lastBuffer ≠ some .x ∧ s.line.bufferX = some w) →
          Sys2Proof.Machine.exec (.frameReceived bytes) s = .next { s with
            line := { l with overruns := min 65535 (s.line.overruns + 1) } }))

/-- TRANSMIT_START of an ACTIVE station with the transmitter enabled and the receiver in IDLE: the pending slot with the lowest kind
code is emptied, and its frame is sent as its owner composes it from the state at this moment, with byte 1, byte 2 and CRC of
R162, behind a start of frame driven for 3Tb/2; a REPLY is composed from the reply record, which is marked as composed (R37, R129,
R160, R167, R168, R176, R177, R186, R187). -/
def Obligations.TransmitStartComposesTheFrame : Prop :=
  ∀ s : State, s.line.life = .active → s.line.txEnabled = true → s.line.receiver = .idle →
    let frame (kind : Nat) (payload : List Byte) : List Byte :=
      withCrc ([BitVec.ofNat 8 (kind * 16 + s.own), BitVec.ofNat 8 (s.line.seq * 16 + payload.length)] ++ payload)
    let two (n : Nat) : List Byte := [BitVec.ofNat 8 (n / 256), BitVec.ofNat 8 n]
    let cam (c : Cam) : Byte := match (s.camOf c).state with
      | .off => 0 | .parking => 1 | .parked => 2 | .release => 3 | .follow => 4 | .faulted => 5
    let shown := ((List.finRange 20).filter (fun k => (s.mon.records.get k).active || (s.mon.records.get k).pending)).length
    let sending (slot : Slot) (slots : Slots) (bytes : List Byte) : Line := { s.line with
      slots := slots, sending := some ⟨slot, bytes⟩, drive := some ⟨s.now, 6 * (s.tb / 4)⟩, receiver := .frame
      lastFall := s.now, dataBits := 0, sampled := [] }
    (∀ h, s.line.slots.sync = true → s.trk.half = some h →
      Sys2Proof.Machine.exec .transmitStart s = .next { s with
        line := sending .sync { s.line.slots with sync := false } (frame 3
          ([(match h with | .a => 0 | .b => 1), if s.active (.camSignal .i) then 1 else 0] ++ two s.trk.rpm)) })
    ∧ (s.line.slots.sync = false → s.line.slots.share = true →
      let bit (c : Cam) : Nat := if (s.camOf c).state = .parking ∨ (s.camOf c).state = .release ∨ (s.camOf c).state = .follow
        then 1 else 0
      Sys2Proof.Machine.exec .transmitStart s = .next { s with
        line := sending .share { s.line.slots with share := false } (frame 4
          (two s.shr.stationDemand ++ two s.shr.stationGrant ++ two s.shr.fAvail
            ++ match s.ownPressure with
              | some p => [BitVec.ofNat 8 (128 + 2 * bit .e + bit .i)] ++ two p
              | none => [BitVec.ofNat 8 (2 * bit .e + bit .i)])) })
    ∧ (∀ r, s.line.slots.sync = false → s.line.slots.share = false → s.line.slots.reply = true → s.service.reply = some r →
      Sys2Proof.Machine.exec .transmitStart s = .next { s with
        line := sending .reply { s.line.slots with reply := false } (frame 10
          ([BitVec.ofNat 8 r.requester, r.code, match r.result with | .ok => 0 | .busy => 1 | .refused => 2 | .badRequest => 3 | .badIndex => 4] ++ r.data))
        service := { s.service with composed := true } })
    ∧ (s.line.slots.sync = false → s.line.slots.share = false → s.line.slots.reply = false → s.line.slots.status = true →
      Sys2Proof.Machine.exec .transmitStart s = .next { s with
        line := sending .status { s.line.slots with status := false } (frame 12
          [(if s.pwr.power = .run then 2 else 1),
            (match s.trk.state with | .stopped => 0 | .seek => 1 | .crankSync => 2 | .cycleSync => 3), cam .i, cam .e,
            BitVec.ofNat 8 s.mon.presented, BitVec.ofNat 8 (shown - 1),
            (match s.pwr.cause with | .powerOn => 0 | .supplyDip => 1 | .resetLine => 2),
            BitVec.ofNat 8 (min 255 (s.trk.rpm / 100))])
        mon := { s.mon with noted := some s.mon.presented } })

/-- The three ends of a transmission, each at the sample of a data bit: ARBITRATION_LOSS at a 1 of byte 1 sampled as 0 releases
the line, queues the frame again and receives on; BIT_ERROR at a bit from byte 2 to the last CRC bit sampled other than sent drops
it, counts a transmit failure and drives the line for 2Tb from the bit's edge; TRANSMIT_COMPLETE at the last CRC bit sampled as
sent counts it, advances the sequence number modulo 16 and tells the owner, who for STATUS clears the pending flag of the noted
record (R163, R169, R170, R171, R177, R179, R187). At any other sample each does nothing. While the 2Tb low lasts the own receiver
stays in FRAME and receives nothing, which for the last CRC bit is the model's reading (notes/assumptions/16.md); FRAMING_ERROR
counts when the low passes 7Tb/8, and not before, and the low goes on (R159, R170, R173); at 2Tb the line is released, and only
then can DOZE be entered (R190), which is the model's choice (notes/assumptions/30.md). The clauses of a loss and of a completion
are of RUN. The note that an arbitration loss clears is the model's (notes/assumptions/16.md). -/
def Obligations.TransmissionsEnd : Prop :=
  (∀ (s : State) (slot : Slot) (bytes : List Byte) (sample bit : Bool),
    s.line.sending = some ⟨slot, bytes⟩ → s.line.receiver = .frame → 1 ≤ s.line.dataBits →
    elapsed s.now s.line.lastFall = s.tb / 2 → s.line.sampled.length = s.line.dataBits →
    s.line.sampled.getLast? = some sample → (bitsOf bytes)[s.line.dataBits - 1]? = some bit →
    (s.pwr.power = .run → s.line.dataBits ≤ 8 → bit = true → sample = false →
      Sys2Proof.Machine.exec .arbitrationLoss s = .next { s with
        line := { s.line with
          sending := none, arbLosses := min 65535 (s.line.arbLosses + 1), slots := s.line.slots.set slot true, drive := none
          aborting := false
          lastRise := if s.line.drive.isSome = true ∧ s.line.othersLow = false then s.now else s.line.lastRise }
        mon := if slot = .status then { s.mon with noted := none } else s.mon
        service := if slot = .reply then { s.service with composed := false } else s.service })
    ∧ (8 < s.line.dataBits ∨ bit = false ∨ sample = true → Sys2Proof.Machine.exec .arbitrationLoss s = .next s)
    ∧ (9 ≤ s.line.dataBits → sample ≠ bit →
      Sys2Proof.Machine.exec .bitError s = .next { s with
        line := { s.line with
          sending := none, txFailures := min 65535 (s.line.txFailures + 1), aborting := true
          drive := some ⟨s.line.lastFall, 2 * s.tb⟩ }
        mon := if slot = .status then { s.mon with noted := none } else s.mon
        service := if slot = .reply ∧ s.service.composed = true then {} else s.service })
    ∧ (s.line.dataBits ≤ 8 ∨ sample = bit → Sys2Proof.Machine.exec .bitError s = .next s)
    ∧ (s.pwr.power = .run → s.line.dataBits = 8 * bytes.length → sample = bit →
      ∃ t, Sys2Proof.Machine.exec .transmitComplete s = .next t
        ∧ t.line.sending = none ∧ t.line.seq = (s.line.seq + 1) % 16 ∧ t.line.sent = min 65535 (s.line.sent + 1)
        ∧ t.line.receiver = .waitIdle ∧ t.line.drive = s.line.drive ∧ t.line.lastRise = s.line.lastRise
        ∧ (slot = .reply → t.service = if s.service.composed then {} else s.service)
        ∧ (slot ≠ .reply → t.service = s.service)
        ∧ (slot ≠ .status → t.mon = s.mon ∧ t.line.slots = s.line.slots)
        ∧ (slot = .status → ∀ k : Fin 20, t.mon.records.get k =
            if s.mon.noted = some (k.val + 1) then { s.mon.records.get k with pending := false } else s.mon.records.get k)
        ∧ t = { s with line := t.line, mon := t.mon, service := t.service })
    ∧ (s.line.dataBits < 8 * bytes.length ∨ sample ≠ bit → Sys2Proof.Machine.exec .transmitComplete s = .next s))
  ∧ ∀ s : State, s.line.aborting = true → s.line.sending = none → s.line.drive = some ⟨s.line.lastFall, 2 * s.tb⟩ →
    (s.line.receiver = .frame → 1 ≤ s.line.dataBits →
      (elapsed s.now s.line.lastFall ≤ 7 * (s.tb / 8) → Sys2Proof.Machine.exec .framingError s = .next s)
      ∧ (7 * (s.tb / 8) < elapsed s.now s.line.lastFall →
        Sys2Proof.Machine.exec .framingError s = .next { s with
          line := { s.line with
            framing := min 65535 (s.line.framing + 1), receiver := .waitIdle, dataBits := 0, sampled := [] } })
      ∧ ∀ bytes, Sys2Proof.Machine.exec (.frameReceived bytes) s = .next s)
    ∧ (s.pending = [] → s.ownEvents = [] → s.pwr.power = .standby ∨ s.pwr.power = .run →
      let dt := elapsed (s.now + 1) s.line.lastFall
      let l : Line := { s.line with
        drive := none, aborting := false, lastRise := if s.line.othersLow then s.line.lastRise else s.now + 1 }
      (dt < 2 * s.tb → s.line.receiver = .waitIdle ∨ dt ≠ s.tb / 2 →
        Sys2Proof.Machine.step s = .next { s with now := s.now + 1 })
      ∧ (2 * s.tb ≤ dt → s.pwr.power = .run ∨ s.pwr.quietMark = false ∨ s.store.clean = false →
        Sys2Proof.Machine.step s = .next { s with now := s.now + 1, line := l })
      ∧ (2 * s.tb ≤ dt → s.pwr.power = .standby → s.pwr.quietMark = true → s.store.clean = true →
        ∃ t, Sys2Proof.Machine.step s = .next t ∧ t.pwr.power = .doze ∧ t.now = s.now + 1 ∧ t.pwr.quietMark = false
          ∧ t.line = { l with
            receiver := .off, dataBits := 0, sampled := [], bufferX := none, bufferY := none, lastBuffer := none, slots := {} }
          ∧ t.trk = s.trk ∧ t.loop = s.loop ∧ t.store = s.store ∧ t.stored = s.stored ∧ t.settings = s.settings))

/-! ## Service requests -/

/-- READ_CAM and READ_TRACKER served: values 6p + 1 to 6p + 6 of the page, as many as exist, each as two bytes, high first, in the
order and with the codes of R188, R92 and R43; the last learn result of page 1 with the values collected, spread, rounded mean and
start of R65, 0 where ABORTED has none, and 255 and 0 before any; an argument out of range is answered BAD_INDEX. Nothing but the
reply record, the REPLY slot and the buffer changes. -/
def Obligations.CamAndTrackerAreRead : Prop :=
  (∀ x : Int, value16 x = [BitVec.ofInt 8 (x / 256), BitVec.ofInt 8 x])
  ∧ (∀ (s : State) (w : Received) (c : Cam), Asked s w (some .readCam) →
    let cam := argument w.frame.payload 0
    let page := argument w.frame.payload 1
    let part := argument w.frame.payload 2
    let six (values : List Int) : List Byte := ((values.drop (6 * part)).take 6).flatMap value16
    let status : Int := match (s.phmOf c).status with | .notLearned => 0 | .learning => 1 | .learned => 2
    let result : List Int := match (s.phmOf c).lastResult with
      | none => [255, 0, 0, 0, 0]
      | some r => [(match r.outcome with | .ok => 0 | .spread => 1 | .range => 2 | .aborted => 3), r.collected,
          (match r.spread with | some n => (n : Int) | none => 0), (match r.mean with | some n => n | none => 0),
          (match r.origin with | .automatic => 0 | .requested => 1)]
    (1 < cam ∨ 1 < page ∨ 3 < part → Sys2Proof.Machine.exec .readCam s = .next (s.replied w .badIndex []))
    ∧ (cam = (match c with | .i => 0 | .e => 1) → part ≤ 3 → page = 0 →
      Sys2Proof.Machine.exec .readCam s = .next (s.replied w .ok (six
        ([(match (s.camOf c).state with
            | .off => 0 | .parking => 1 | .parked => 2 | .release => 3 | .follow => 4 | .faulted => 5),
          (s.camOf c).commanded, s.effectiveTarget c, (s.camOf c).ramp,
          (match s.camc.mode with | .run => 1 | .park => 2 | .hold => 3),
          (match s.camc.loss with | .none => 0 | .lossHold => 1 | .lossPark => 2),
          (if s.camc.cold then 1 else 0), (s.camOf c).stuck,
          (match (s.phmOf c).measurement with | some m => m.phase | none => 32767),
          (match (s.phmOf c).measurement with | some m => m.edge | none => 255),
          status, (s.loopOf c).lastError, s.shr.demand.get c, (s.loopOf c).authority, (s.loopOf c).lastDuty,
          (s.loopOf c).integral.tdiv 256, (s.drvOf c).pending, (s.drvOf c).active, (s.drvOf c).applied] : List Int))))
    ∧ (cam = (match c with | .i => 0 | .e => 1) → part ≤ 3 → page = 1 →
      Sys2Proof.Machine.exec .readCam s = .next (s.replied w .ok (six
        (([(s.phmOf c).offset, status, (if (s.phmOf c).learnDone then 1 else 0),
          ((s.phmOf c).collector.length : Nat)] : List Int) ++ result
        ++ ([(if s.active (.camSignal c) then 1 else 0),
          (s.phmOf c).badRun, (s.phmOf c).goodRun, (s.loopOf c).hold, (s.loopOf c).marked, (s.loopOf c).settled,
          (s.drvOf c).ditherPhase, (s.drvOf c).tripRun, (s.drvOf c).openRun, (s.drvOf c).meanCurrent,
          (s.drvOf c).supplyRead] : List Int))))))
  ∧ ∀ (s : State) (w : Received), Asked s w (some .readTracker) →
    (0 < argument w.frame.payload 0 → Sys2Proof.Machine.exec .readTracker s = .next (s.replied w .badIndex []))
    ∧ (argument w.frame.payload 0 = 0 → Sys2Proof.Machine.exec .readTracker s = .next (s.replied w .ok
      (([(match s.trk.state with | .stopped => 0 | .seek => 1 | .crankSync => 2 | .cycleSync => 3), s.trk.rpm,
        (if s.trk.state = .stopped ∨ s.trk.state = .seek then 0 else s.trk.tooth),
        (match s.trk.half with | some .a => 0 | some .b => 1 | none => 2), (if s.trk.adopted then 1 else 0),
        s.trk.toothErrors] : List Int).flatMap value16)))

/-- READ_PEER of a record with a SHARE filed, READ_CONDITION and READ_COUNTERS served: the values of R139 and R188, with the codes
for absent fields; no record, the own number, a code outside 1..20 and a group above 7 are answered BAD_INDEX. -/
def Obligations.PeersConditionsAndCountersAreRead : Prop :=
  (∀ (s : State) (w : Received), Asked s w (some .readPeer) →
    let n := argument w.frame.payload 0
    let part := argument w.frame.payload 1
    (n = s.own ∨ 7 < n ∨ 2 < part ∨ s.shr.peer n = none →
      Sys2Proof.Machine.exec .readPeer s = .next (s.replied w .badIndex []))
    ∧ ∀ (p : Peer) (d : ShareData), n ≠ s.own → n ≤ 7 → part ≤ 2 → s.shr.peer n = some p → p.share = some d →
      Sys2Proof.Machine.exec .readPeer s = .next (s.replied w .ok (((
        ([p.station, (match p.role with | .controller => 0 | .phase => 1 | .other => 2), (if p.fresh then 0 else 1), p.lastSeq, p.missed, (elapsed s.now p.lastRefresh / 2000 : Nat),
          d.demand, d.grant, d.flow, (match p.pressure with | some k => (k : Int) | none => 65535),
          (if d.moving.i then 1 else 0) + (if d.moving.e then 2 else 0),
          (match p.report with | some (.a, _) => 0 | some (.b, _) => 1 | none => 255),
          (match p.report with
            | some (_, .camI) => 0 | some (_, .camE) => 1 | some (_, .adopted) => 2 | some (_, .controller) => 3 | none => 255)] : List Int).drop (6 * part)).take 6).flatMap
            value16)))
  ∧ (∀ (s : State) (w : Received), Asked s w (some .readCondition) →
    let code := argument w.frame.payload 0
    (code = 0 ∨ 20 < code → Sys2Proof.Machine.exec .readCondition s = .next (s.replied w .badIndex []))
    ∧ ∀ k : Fin 20, code = k.val + 1 →
      let r := s.mon.records.get k
      Sys2Proof.Machine.exec .readCondition s = .next (s.replied w .ok
        (([(if r.active then 1 else 0), (if r.pending then 1 else 0), r.count] : List Int).flatMap value16)))
  ∧ ∀ (s : State) (w : Received), Asked s w (some .readCounters) →
    let group := argument w.frame.payload 0
    let two (f : Phm → Nat) (c : Cam) : Nat := f (s.phmOf c)
    let lists : List (List Nat) :=
      [[s.cap.crankNoise, s.cap.camNoise.i, s.cap.camNoise.e, s.cap.overflows],
        [s.trk.toothErrors, s.trk.undecided, s.trk.mismatches, s.trk.adoptions],
        [two Phm.stray .i, two Phm.implausible .i, two Phm.badCycles .i, two Phm.stray .e, two Phm.implausible .e,
          two Phm.badCycles .e],
        [s.loop.i.clamps, s.loop.i.windups, s.loop.i.holdSteps, s.loop.e.clamps, s.loop.e.windups, s.loop.e.holdSteps],
        [s.shr.starved, s.shr.created, s.shr.deleted],
        [s.drv.i.trips, s.drv.i.openPeriods, s.drv.e.trips, s.drv.e.openPeriods],
        [s.line.framing, s.line.crcErrors, s.line.malformed, s.line.unknownKind, s.line.overruns, s.line.received],
        [s.line.arbLosses, s.line.txFailures, s.line.sent, s.camc.foreign, s.store.completed, s.store.verifyFails]]
    (7 < group → Sys2Proof.Machine.exec .readCounters s = .next (s.replied w .badIndex []))
    ∧ ∀ l, lists[group]? = some l →
      Sys2Proof.Machine.exec .readCounters s = .next (s.replied w .ok (l.flatMap (fun (n : Nat) => value16 (n : Int))))

/-- A request is known by its code and an accepted payload length, an optional argument left out is 0 (R187). READ_SETTING answers
the eight bytes of a group, of the settings in use (image 0) or of the next-start image (image 1) with the bits left over at the
group's end as 0 (R182); WRITE_SETTING with the tracker STOPPED replaces the group in the image and marks CONFIG dirty, else it is
REFUSED; UNKNOWN_REQUEST is answered BAD_REQUEST; any request delivered before the load had completed, or to another station, or
with station number 0, only frees its buffer (R166, R187), which is the model's reading (notes/assumptions/13.md). -/
def Obligations.SettingsAreReadAndWritten : Prop :=
  (∀ payload : List Byte,
    let code := (payload.getD 1 0).toNat
    let lengths : List (Request × Nat × List Nat) :=
      [(.readCam, 1, [4, 5]), (.readTracker, 2, [2, 3]), (.readPeer, 3, [3, 4]), (.readCondition, 4, [3]), (.readCounters, 5, [3]),
        (.readSetting, 6, [3, 4]), (.writeSetting, 7, [11]), (.learnPark, 8, [3]), (.clearConditions, 9, [2])]
    (∀ x ∈ lengths, requestOf payload = some x.1 ↔ code = x.2.1 ∧ payload.length ∈ x.2.2)
    ∧ ∀ k : Nat, argument payload k = (payload.getD (k + 2) 0).toNat)
  ∧ (∀ (s : State) (w : Received), Asked s w (some .readSetting) →
    let group := argument w.frame.payload 0
    let image := argument w.frame.payload 1
    (7 < group ∨ 1 < image → Sys2Proof.Machine.exec .readSetting s = .next (s.replied w .badIndex []))
    ∧ (group ≤ 7 → image = 0 →
      Sys2Proof.Machine.exec .readSetting s = .next (s.replied w .ok (encodeGroup s.settings group)))
    ∧ ∀ (front : List Byte) (last : Byte), group ≤ 7 → image = 1 →
      (s.store.configImage.drop (8 * group)).take 8 = front ++ [last] → front.length = 7 →
      let leftOver := [2, 2, 4, 4, 6, 1, 5, 3].getD group 0
      Sys2Proof.Machine.exec .readSetting s = .next (s.replied w .ok (front ++ [(last >>> leftOver) <<< leftOver])))
  ∧ (∀ (s : State) (w : Received), Asked s w (some .writeSetting) →
    let group := argument w.frame.payload 0
    (7 < group → Sys2Proof.Machine.exec .writeSetting s = .next (s.replied w .badIndex []))
    ∧ (group ≤ 7 → s.trk.state ≠ .stopped → Sys2Proof.Machine.exec .writeSetting s = .next (s.replied w .refused []))
    ∧ (group ≤ 7 → s.trk.state = .stopped →
      Sys2Proof.Machine.exec .writeSetting s = .next (State.replied { s with
        store := { s.store with
          configImage := s.store.configImage.take (8 * group) ++ (w.frame.payload.drop 3).take 8
            ++ s.store.configImage.drop (8 * group + 8)
          dirty := { s.store.dirty with config := true } } } w .ok [])))
  ∧ (∀ (s : State) (w : Received), Asked s w none →
    Sys2Proof.Machine.exec .unknownRequest s = .next (s.replied w .badRequest []))
  ∧ ∀ (s : State) (w : Received) (c : Instr) (r : Option Request),
    (c, r) ∈ [(Instr.readCam, some Request.readCam), (.readTracker, some .readTracker), (.readPeer, some .readPeer),
      (.readCondition, some .readCondition), (.readCounters, some .readCounters), (.readSetting, some .readSetting),
      (.writeSetting, some .writeSetting), (.learnPark, some .learnPark), (.clearConditions, some .clearConditions),
      (.unknownRequest, none)] →
    s.waiting .request = some w → requestOf w.frame.payload = r →
    s.operating = false ∨ w.early = true ∨ s.own = 0 ∨ (w.frame.payload.getD 0 0).toNat ≠ s.own →
    Sys2Proof.Machine.exec c s = .next s.freeOldest

/-- LEARN_PARK: a cam code above 1 is answered BAD_INDEX, a cam already LEARNING BUSY, a cam whose conditions of R59 hold starts a
requested run, another is REFUSED (R59, R60). The 32nd value of a run ends it: a spread of at most 16 and a sum of -3072..3072 set
the offset and LEARNED, in the CAM image too (R183), and mark the record dirty; else the status before the run returns and
LEARN_FAILED is raised (R61, R62, R63, R65). -/
def Obligations.LearnRunsAreStartedAndEvaluated : Prop :=
  (∀ (s : State) (w : Received) (c : Cam), Asked s w (some .learnPark) →
    let cam := argument w.frame.payload 0
    (1 < cam → Sys2Proof.Machine.exec .learnPark s = .next (s.replied w .badIndex []))
    ∧ (cam = (match c with | .i => 0 | .e => 1) →
      ((s.phmOf c).status = .learning → Sys2Proof.Machine.exec .learnPark s = .next (s.replied w .busy []))
      ∧ ((s.phmOf c).status ≠ .learning →
        let may : Prop := (s.camOf c).state = .parked ∧ (s.camOf c).rested = true ∧ s.trk.state = .cycleSync
          ∧ s.trk.adopted = false ∧ 700 ≤ s.trk.rpm ∧ s.trk.rpm ≤ s.settings.rpmMaxLearn
        (may → Sys2Proof.Machine.exec .learnPark s = .next (State.replied { s with
          phm := s.phm.set c { s.phmOf c with
            status := .learning, statusBefore := some (s.phmOf c).status, runOrigin := some .requested, collector := [] } }
          w .ok []))
        ∧ (¬may → Sys2Proof.Machine.exec .learnPark s = .next (s.replied w .refused [])))))
  ∧ ∀ (s : State) (c : Cam) (raw : Int), (s.phmOf c).status = .learning → (s.phmOf c).collector.length = 31 →
    let values := (s.phmOf c).collector ++ [raw]
    let ok : Prop := (∀ x ∈ values, ∀ y ∈ values, x - y ≤ 16) ∧ -3072 ≤ values.sum ∧ values.sum ≤ 3072
    let t := s.collect c raw
    (t.phmOf c).learnDone = true ∧ (t.phmOf c).collector = [] ∧ (t.phmOf c).statusBefore = none
    ∧ t.phmOf c.other = s.phmOf c.other ∧ t.camc = s.camc ∧ t.trk = s.trk ∧ t.loop = s.loop ∧ t.drv = s.drv
    ∧ (ok → (t.phmOf c).status = .learned ∧ (t.phmOf c).offset = roundedMean values.sum
      ∧ t.store = { s.store with
          dirty := { s.store.dirty with cams := s.store.dirty.cams.set c true }
          camImages := s.store.camImages.set c (CamRecord.encode ⟨roundedMean values.sum, true, (s.loopOf c).hold⟩) }
      ∧ t.mon = s.mon ∧ ((t.phmOf c).lastResult.map LearnResult.outcome) = some .ok)
    ∧ (¬ok → (t.phmOf c).status = (s.phmOf c).statusBefore.getD .notLearned ∧ (t.phmOf c).offset = (s.phmOf c).offset
      ∧ t.store = s.store ∧ (t.mon.get .learnFailed).pending = true
      ∧ (t.mon.get .learnFailed).count = min 255 ((s.mon.get .learnFailed).count + 1))

/-- CLEAR_CONDITIONS: a record that is not active loses its pending flag and count, a level condition that is active keeps its
record; a cam in FAULTED goes to OFF and its three latched conditions end, pending kept; any other cam and its latched
conditions stand; the request is answered OK (R89, R174, R180, R187). -/
def Obligations.ClearConditionsReleasesFaultedCams : Prop :=
  ∀ (s : State) (w : Received), Asked s w (some .clearConditions) →
    ∃ t, Sys2Proof.Machine.exec .clearConditions s = .next t
      ∧ (∀ k : Cond, s.active k = false → t.mon.get k = ⟨false, false, 0⟩)
      ∧ (∀ k : Cond, s.active k = true →
        let ends := ∃ c : Cam, (s.camOf c).state = .faulted ∧ (k = .coilShort c ∨ k = .openLoad c ∨ k = .phaseStuck c)
        (ends → t.mon.get k = { s.mon.get k with active := false, pending := true })
        ∧ (¬ends → t.mon.get k = s.mon.get k))
      ∧ (∀ c : Cam, (s.camOf c).state = .faulted → (t.camOf c).state = .off ∧ (t.drvOf c).pending = 0)
      ∧ (∀ c : Cam, (s.camOf c).state ≠ .faulted →
        t.camOf c = s.camOf c ∧ t.drvOf c = s.drvOf c ∧ t.loopOf c = s.loopOf c)
      ∧ t.service = { reply := some ⟨w.frame.station, w.frame.payload.getD 1 0, .ok, []⟩, composed := false }
      ∧ t.line.slots.reply = true
      ∧ t.cap = s.cap ∧ t.scan = s.scan ∧ t.trk = s.trk ∧ t.supply = s.supply ∧ t.store = s.store ∧ t.stored = s.stored
      ∧ t.pwr = s.pwr ∧ t.settings = s.settings ∧ t.now = s.now

/-! ## Settings store -/

/-- STORE_WRITE_START takes the first dirty record in the order CONFIG, CAM-I, CAM-E: the image is copied with its check, a CAM
image with its spare bytes as 0, the dirty mark cleared, the end set 40,000 or 8,000 ticks later. STORE_WRITE_END: bytes that read
back as written complete the write and clear the record's fault mark; others count a verify failure and mark the record faulty and
dirty; STORE_FAULT is active exactly while a fault mark is left (R182, R183, R185). That the stored copy is then the bytes read
back is the model's reading (notes/assumptions/19.md). -/
def Obligations.StoreWritesAreVerified : Prop :=
  (∀ s : State, s.operating = true → s.store.inFlight = none → s.active .supplyLow = false →
    (s.store.dirty.config = true →
      Sys2Proof.Machine.exec .storeWriteStart s = .next { s with
        store := { s.store with
          dirty := { s.store.dirty with config := false }
          inFlight := some ⟨.config, withCrc s.store.configImage, ⟨s.now, 40000⟩⟩ } })
    ∧ ∀ c : Cam, s.store.dirty.config = false → s.store.dirty.cams.get c = true → (c = .e → s.store.dirty.cams.i = false) →
      Sys2Proof.Machine.exec .storeWriteStart s = .next { s with
        store := { s.store with
          dirty := { s.store.dirty with cams := s.store.dirty.cams.set c false }
          inFlight := some ⟨.cam c, withCrc ((s.store.camImages.get c).take 4 ++ [0, 0]), ⟨s.now, 8000⟩⟩ } })
  ∧ ∀ (s : State) (r : Rec) (copy readBack : List Byte) (d : Timer), s.pwr.power = .run →
    s.store.inFlight = some ⟨r, copy, d⟩ → d.len ≤ elapsed s.now d.start →
    ∃ t, Sys2Proof.Machine.exec (.storeWriteEnd readBack) s = .next t
      ∧ t.stored = s.stored.set r (.whole readBack)
      ∧ (readBack = copy → t.store = { s.store with
          inFlight := none, completed := min 65535 (s.store.completed + 1), fault := s.store.fault.set r false })
      ∧ (readBack ≠ copy → t.store = { s.store with
          inFlight := none, verifyFails := min 65535 (s.store.verifyFails + 1)
          fault := s.store.fault.set r true, dirty := s.store.dirty.set r true })
      ∧ t.active .storeFault = (t.store.fault.config || t.store.fault.cams.i || t.store.fault.cams.e)
      ∧ (t.active .storeFault = s.active .storeFault → t.mon = s.mon ∧ t.line = s.line)
      ∧ (s.active .storeFault = true → t.active .storeFault = false →
        t.mon.get .storeFault = { s.mon.get .storeFault with active := false })
      ∧ (s.active .storeFault = false → t.active .storeFault = true →
        t.mon.get .storeFault = ⟨true, true, min 255 ((s.mon.get .storeFault).count + 1)⟩)
      ∧ (∀ k, k ≠ .storeFault → t.mon.get k = s.mon.get k)
      ∧ t = { s with stored := t.stored, store := t.store, mon := t.mon, line := t.line }

/-- STORE_LOAD_COMPLETE, 1 ms after its start: each record whose size, check and values are right is taken, the settings in use and
the next-start image from CONFIG, offset, status and hold duty from the CAM records and each CAM image from its bytes; one whose
copy is part-written, of another size or fails its check, a CONFIG that fails the checks of R17, R48, R94 or R118, and a CAM record
with a value out of range are taken at their defaults and marked dirty and faulty. The part enters STANDBY, or RUN with the crank
mark set, in LISTEN for 50 ms (R73, R172, R182, R183, R184, R191). -/
def Obligations.StoreLoadTakesTheRecords : Prop :=
  let fails (size : Nat) (copy : Stored) : Prop :=
    copy = .torn ∨ ∃ bytes, copy = .whole bytes ∧ (bytes.length ≠ size ∨ crcMatches bytes = false)
  let bad (st : Settings) : Prop :=
    (¬(st.tempTable.map TempPoint.count).Pairwise (fun a b => b < a))
    ∨ (∃ c : Cam, let k := st.cams.get c
      k.nA = k.nB
      ∨ (∃ ref ∈ k.refs, ¬((0 ≤ (window c ref).1 ∧ (window c ref).2 ≤ 5759)
        ∨ (5760 ≤ (window c ref).1 ∧ (window c ref).2 ≤ 11519)))
      ∨ ∃ (i j a b : Nat) (angle : Int), i < j ∧ k.refs[i]? = some a ∧ k.refs[j]? = some b
        ∧ (window c a).1 ≤ angle ∧ angle ≤ (window c a).2 ∧ (window c b).1 ≤ angle ∧ angle ≤ (window c b).2)
    ∨ st.aMax < st.aMin ∨ st.pFull ≤ st.pFloor
  (∀ st : Settings, loadChecks st = true ↔ ¬bad st)
  ∧ ∀ (s : State) (d : Timer), s.pwr.power = .loading → s.pwr.sequence = some d → d.len ≤ elapsed s.now d.start →
    ∃ t, Sys2Proof.Machine.exec .storeLoadComplete s = .next t
      ∧ (∀ image, s.stored.config = .whole (withCrc image) → image.length = 64 → loadChecks (decodeSettings image) = true →
        t.settings = decodeSettings image ∧ t.store.configImage = image
        ∧ t.store.dirty.config = false ∧ t.store.fault.config = false)
      ∧ (fails 66 s.stored.config
          ∨ (∃ image, s.stored.config = .whole (withCrc image) ∧ image.length = 64 ∧ bad (decodeSettings image)) →
        t.settings = Settings.default ∧ t.store.configImage = encodeSettings Settings.default
        ∧ t.store.dirty.config = true ∧ t.store.fault.config = true)
      ∧ (∀ (c : Cam) (b0 b1 b2 b3 b4 b5 : Byte), s.stored.cams.get c = .whole (withCrc [b0, b1, b2, b3, b4, b5]) →
        -96 ≤ b0.toInt → b0.toInt ≤ 96 → b1.toNat ≤ 1 → 300 ≤ b2.toNat * 256 + b3.toNat → b2.toNat * 256 + b3.toNat ≤ 700 →
        (t.phmOf c).offset = b0.toInt ∧ (t.phmOf c).status = (if b1 = 1 then .learned else .notLearned)
        ∧ (t.loopOf c).hold = b2.toNat * 256 + b3.toNat ∧ (t.loopOf c).marked = b2.toNat * 256 + b3.toNat
        ∧ t.store.camImages.get c = [b0, b1, b2, b3, b4, b5]
        ∧ t.store.dirty.cams.get c = false ∧ t.store.fault.cams.get c = false)
      ∧ (∀ c : Cam, (fails 8 (s.stored.cams.get c)
          ∨ ∃ b0 b1 b2 b3 b4 b5 : Byte, s.stored.cams.get c = .whole (withCrc [b0, b1, b2, b3, b4, b5])
            ∧ (b0.toInt < -96 ∨ 96 < b0.toInt ∨ 1 < b1.toNat ∨ b2.toNat * 256 + b3.toNat < 300
              ∨ 700 < b2.toNat * 256 + b3.toNat)) →
        (t.phmOf c).offset = 0 ∧ (t.phmOf c).status = .notLearned ∧ (t.loopOf c).hold = 500 ∧ (t.loopOf c).marked = 500
        ∧ t.store.camImages.get c = [0, 0, 1, 244, 0, 0]
        ∧ t.store.dirty.cams.get c = true ∧ t.store.fault.cams.get c = true)
      ∧ t.active .storeFault = t.store.anyFault
      ∧ t.camc.ageStart = some s.now ∧ t.line.life = .listen ∧ t.pwr.listenTimer = some ⟨s.now, 100000⟩
      ∧ t.pwr.power = (if s.pwr.crankMark then .run else .standby) ∧ t.pwr.crankMark = false
      ∧ t.trk = s.trk ∧ t.cap = s.cap ∧ t.stored = s.stored ∧ t.straps = s.straps ∧ t.now = s.now

/-! ## Power control -/

/-- STOP_TIMER moves RUN to STANDBY: periods stopped, a pending SHARE withdrawn, the quiet time begun. QUIET_TIMER sets the quiet
mark, and with a clean store and no own frame, nor the 2Tb low of one, the part enters DOZE; WAKE_EDGE starts a wake there, and
WAKE_COMPLETE, 200 µs later, restarts the counter at 0 in STANDBY with 16 scan passes and STATUS queued (R10, R73, R128, R143, R172,
R178, R189, R190). That WAKE_EDGE leaves the level of the station line as it was, and that DOZE waits for the end of a 2Tb low, are
the model's choices (notes/assumptions/14.md, 30.md). -/
def Obligations.StandbyDozeAndWake : Prop :=
  (∀ (s : State) (d : Timer), s.pwr.power = .run → s.pwr.stopTimer = some d → d.len ≤ elapsed s.now d.start →
    Sys2Proof.Machine.exec .stopTimer s = .next { s with
      pwr := { s.pwr with
        power := .standby, stopTimer := none, quietTimer := some ⟨s.now, 10000000⟩, quietMark := false }
      drv := ⟨s.drv.i.stopped, s.drv.e.stopped⟩
      shr := { s.shr with shareTimer := none }
      mon := { s.mon with statusTimer := none }
      line := { s.line with slots := { s.line.slots with share := false } } })
  ∧ (∀ (s : State) (d : Timer), s.pwr.power = .standby → s.pwr.quietTimer = some d → d.len ≤ elapsed s.now d.start →
    (s.store.clean = false ∨ s.line.sending.isSome = true ∨ s.line.aborting = true →
      Sys2Proof.Machine.exec .quietTimer s = .next { s with pwr := { s.pwr with quietTimer := none, quietMark := true } })
    ∧ (s.store.clean = true → s.line.sending = none → s.line.aborting = false →
      ∃ t, Sys2Proof.Machine.exec .quietTimer s = .next t ∧ t.pwr.power = .doze ∧ t.cap.fifo = [] ∧ t.cap.crankLast = none
        ∧ t.scan = {} ∧ t.shr.peers = [] ∧ t.shr.fAvail = s.settings.fFallback ∧ t.line.receiver = .off ∧ t.line.slots = {}
        ∧ t.line.seq = s.line.seq ∧ t.line.life = s.line.life ∧ t.camc.ageStart = none ∧ t.camc.mode = s.camc.mode
        ∧ t.mon.records = s.mon.records ∧ (∀ c, (t.phmOf c).measurement = none ∧ (t.phmOf c).offset = (s.phmOf c).offset)
        ∧ t.trk = s.trk ∧ t.loop = s.loop ∧ t.store = s.store ∧ t.stored = s.stored ∧ t.settings = s.settings))
  ∧ (∀ s : State, s.pwr.power = .doze →
    Sys2Proof.Machine.exec .wakeEdge s = .next { s with pwr := { s.pwr with power := .waking, wakeTicks := 0 } })
  ∧ ∀ s : State, s.pwr.power = .waking → 400 ≤ s.pwr.wakeTicks →
    ∃ t, Sys2Proof.Machine.exec .wakeComplete s = .next t ∧ t.now = 0 ∧ t.pwr.power = .standby
      ∧ t.pwr.quietTimer = some ⟨0, 10000000⟩ ∧ t.pwr.quietMark = false
      ∧ t.scan = { s.scan with conversion := some ⟨.coil .i, 0⟩, passStart := some 0, wakePasses := 16 }
      ∧ t.line.receiver = .waitIdle ∧ t.line.slots.status = true ∧ t.line.life = s.line.life
      ∧ t.camc = { s.camc with ageStart := some 0 } ∧ t.trk = s.trk ∧ t.phm = s.phm ∧ t.loop = s.loop ∧ t.cap = s.cap
      ∧ t.store = s.store ∧ t.stored = s.stored ∧ t.settings = s.settings ∧ t.straps = s.straps

/-- RESET puts all volatile state at its reset value and leaves the non-volatile store, but for the record of a write in flight,
which then fails its check; RESET_RELEASE records the cause last asserted and starts the counter and the start delay of 2 ms;
START_DELAY_END reads the straps, starts the scan and the receiver and begins the load of 1 ms (R183, R185, R191). That a reset
keeps the queue of commands and the count of free values is the model's (notes/assumptions/5.md), and so are the level other
stations give the line (notes/assumptions/14.md), the straps at 0 and the default settings before they are read
(notes/assumptions/7.md) and the reset values the spec does not give, such as the supply value read (notes/assumptions/8.md). -/
def Obligations.ResetAndStartSequence : Prop :=
  (∀ (s : State) (cause : ResetCause),
    Sys2Proof.Machine.exec (.reset cause) s = .next { State.reset with
      pending := s.pending
      stored := (match s.store.inFlight with
        | some w => s.stored.set w.record .torn
        | none => s.stored)
      line := { State.reset.line with othersLow := s.line.othersLow }
      freeDraws := s.freeDraws
      pwr := { State.reset.pwr with power := .held, cause := s.pwr.cause, asserted := cause, sequence := none } })
  ∧ (∀ s : State, s.pwr.power = .held →
    Sys2Proof.Machine.exec .resetRelease s = .next { s with
      now := 0, pwr := { s.pwr with power := .startDelay, cause := s.pwr.asserted, sequence := some ⟨0, 4000⟩ } })
  ∧ (∀ (s : State) (pins : Straps) (d : Timer), s.pwr.power = .startDelay → s.pwr.sequence = some d →
    d.len ≤ elapsed s.now d.start →
    Sys2Proof.Machine.exec (.startDelayEnd pins) s = .next { s with
      straps := pins
      pwr := { s.pwr with power := .loading, sequence := some ⟨s.now, 2000⟩ }
      scan := { s.scan with conversion := some ⟨.coil .i, s.now⟩, passStart := some s.now }
      line := { s.line with receiver := .waitIdle, lastFall := s.now, lastRise := s.now, dataBits := 0, sampled := [] } })
  ∧ loadCam .torn = (CamRecord.default, [0, 0, 1, 244, 0, 0], true)
  ∧ loadConfig .torn = (Settings.default, encodeSettings Settings.default, true)

/-! ## Whole chains -/

/-- A loop update in FOLLOW or PARKING: ramp, error, demand, grant, authority, duty and integral are the stages of chapter 5 on the
measurement, and the duty is written to the channel's pending duty. In FOLLOW the settled time advances, at 4,000 with a hold step
(R112 to R114), and the stuck time, which at 4,000 makes PHASE_STUCK_x active and takes the cam to FAULTED (R90). The other cam,
TRK, PHM, CAP, SCAN and PWR stand, MON but for PHASE_STUCK_x, STORE but for a hold step, and LINE but for a SHARE queued as D_s
leaves 0 (R128). TAKE_CAM_ENTRY of a valid edge in FOLLOW, with phasing allowed and the target above the park band, makes that
update (R49, R55, R79, R81, R95 to R108). -/
def Obligations.FollowUpdateRunsTheStages : Prop :=
  (∀ (s : State) (c : Cam) (m : Measurement), (s.camOf c).state = .follow ∨ (s.camOf c).state = .parking →
    let follows : Prop := (s.camOf c).state = .follow
    let k := s.loopOf c
    let dtq := if k.first then 0 else min 160 (elapsed m.time k.lastUpdate / 500)
    let target := s.effectiveTarget c
    let step := max 1 (s.settings.slew * 16 * dtq / 4000)
    let r0 := (s.camOf c).ramp
    let ramp := if follows then
      (if r0 < target then min target (r0 + step) else if target < r0 then max target (r0 - step) else r0) else r0
    let e := (if follows then (ramp : Int) else 0) - m.phase
    let eEff := if e.natAbs ≤ s.settings.deadband then 0 else e
    let d := min 500 eEff.natAbs
    let q : Shr := { s.shr with demand := s.shr.demand.set c d }
    let a := if d = 0 ∨ q.fAvail = 0 then 0 else max s.settings.aMin (q.camGrant c * s.settings.aMax / 500)
    let r := outputStages s.settings k.hold k.integral eEff dtq a
    let stuck := if e.natAbs ≤ 128 then 0
      else if q.stationGrant = q.stationDemand then min 4000 ((s.camOf c).stuck + dtq) else (s.camOf c).stuck
    let steps : Prop := follows ∧ e.natAbs ≤ s.settings.deadband ∧ 4000 ≤ k.settled + dtq
    let up : Prop := steps ∧ 256 ≤ r.integral ∧ k.hold < 700
    let down : Prop := steps ∧ r.integral ≤ -256 ∧ 300 < k.hold
    let hold := if up then k.hold + 1 else if down then k.hold - 1 else k.hold
    let marks : Prop := (up ∨ down) ∧ 5 ≤ ((hold : Int) - k.marked).natAbs
    let t := s.loopUpdate c m
    ((t.loopOf c).lastError = e ∧ (t.loopOf c).authority = a ∧ (t.loopOf c).lastDuty = r.duty
      ∧ (t.loopOf c).lastUpdate = m.time ∧ (t.loopOf c).first = false
      ∧ (t.loopOf c).hold = hold ∧ (t.loopOf c).marked = (if marks then hold else k.marked)
      ∧ t.shr.starved = (if q.stationGrant < q.stationDemand then min 65535 (s.shr.starved + 1) else s.shr.starved)
      ∧ t.shr.peers = s.shr.peers ∧ t.shr.fAvail = s.shr.fAvail
      ∧ t.store = { s.store with
          dirty := if marks then { s.store.dirty with cams := s.store.dirty.cams.set c true } else s.store.dirty
          camImages := if up ∨ down then s.store.camImages.set c { s.camRecord c with hold := hold }.encode
            else s.store.camImages }
      ∧ (s.shr.stationDemand = 0 → q.stationDemand ≠ 0 → t.line.slots.share = true)
      ∧ t.camOf c.other = s.camOf c.other ∧ t.loopOf c.other = s.loopOf c.other ∧ t.drvOf c.other = s.drvOf c.other
      ∧ t.trk = s.trk ∧ t.phm = s.phm ∧ t.cap = s.cap ∧ t.scan = s.scan ∧ t.pwr = s.pwr ∧ t.stored = s.stored)
    ∧ (¬(follows ∧ 4000 ≤ stuck) →
      t.camOf c = { s.camOf c with ramp := ramp, stuck := if follows then stuck else (s.camOf c).stuck }
      ∧ (t.loopOf c).integral = (if up then r.integral - 256 else if down then r.integral + 256 else r.integral)
      ∧ (t.loopOf c).settled = (if ¬follows then k.settled
          else if s.settings.deadband < e.natAbs then 0
          else if steps then k.settled + dtq - 4000 else k.settled + dtq)
      ∧ t.drvOf c = { s.drvOf c with pending := r.duty } ∧ t.shr.demand = q.demand ∧ t.mon = s.mon
      ∧ (¬(s.shr.stationDemand = 0 ∧ q.stationDemand ≠ 0) → t.line = s.line))
    ∧ (follows → 4000 ≤ stuck → s.machineRuns c = true →
      (t.camOf c).state = .faulted ∧ (t.camOf c).ramp = 0 ∧ (t.camOf c).stuck = 0 ∧ (t.loopOf c).integral = 0
      ∧ (t.drvOf c).pending = 0 ∧ (t.drvOf c).applied = 0 ∧ (t.drvOf c).output = false
      ∧ t.shr.demand = s.shr.demand.set c 0 ∧ t.active (.phaseStuck c) = true
      ∧ (s.active (.phaseStuck c) = false →
        t.mon.get (.phaseStuck c) = ⟨true, true, min 255 ((s.mon.get (.phaseStuck c)).count + 1)⟩)
      ∧ ∀ j, j ≠ .phaseStuck c → t.mon.get j = s.mon.get j))
  ∧ ∀ (s : State) (c : Cam) (t : Time) (rest : List Entry) (h : Half) (t0 : Time) (e ref : Nat), s.operating = true →
    s.cap.overflowPending = false → s.cap.fifo = ⟨.cam c, t⟩ :: rest → s.trk.state = .cycleSync → s.trk.half = some h →
    s.trk.toothTime = some t0 → s.machineRuns c = true → (s.camOf c).state = .follow → (s.phmOf c).status ≠ .learning →
    s.phasingAllowed c = true → s.settings.parkBand < s.effectiveTarget c →
    let angle := cycleAngle h s.trk.tooth (elapsed t t0) s.trk.pitch
    let raw := rawDeviation c ref angle
    let m : Measurement := { phase := raw - (s.phmOf c).offset, edge := e, angle := angle, raw := raw, time := t }
    identify c (s.camSettings c) angle = some (e, ref) → -128 ≤ m.phase → m.phase ≤ 928 →
    Sys2Proof.Machine.exec .takeCamEntry s = .next (State.loopUpdate { s with
      cap := { s.cap with fifo := rest }
      trk := { s.trk with camCounts := s.trk.camCounts.modify c (fun n => min 255 (n + 1)) }
      phm := s.phm.modify c (fun p => { p with tally := min 255 (p.tally + 1), measurement := some m }) } c m)

/-- The effective target is the commanded one, 0 in mode PARK or LOSS_PARK, limited to L_COLD while cold and to 480 while not
LEARNED, and 0 below RPM_MIN_PHASE, so it stays within L_c where the commanded target does (R77). Phasing is allowed in CYCLE_SYNC
with CAM_SIGNAL_x and SUPPLY_LOW not active, mode not PARK, no LOSS_PARK, rpm from RPM_MIN_PHASE on; release is wanted where it is
allowed and the target above PARK_BAND (R81). A review moves a cam whose machine runs: OFF to PARKING at a measurement in
CYCLE_SYNC with neither condition active; PARKING to FOLLOW and PARKED to RELEASE where release is wanted; PARKING to PARKED 200
ms after the settle start, which the first measurement in the band sets, that of the entry too, and one outside it clears; RELEASE
back to PARKED at a target within the band; FOLLOW to PARKING where phasing is not allowed or the target is within the band; each
entry with the duty it writes, and in every other case nothing changes (R80, R81 to R87). That an entry clears the settle start,
the rested mark and the settled time is the model's reading (notes/assumptions/22.md). -/
def Obligations.ReviewsMoveTheCam : Prop :=
  ∀ (s : State) (c : Cam),
    let demand := if s.camc.mode = .park ∨ s.camc.loss = .lossPark then 0 else (s.camOf c).commanded
    let cold := if s.camc.cold = true then min demand s.settings.lCold else demand
    let unlearned := if (s.phmOf c).status = .learned then cold else min cold 480
    let target := if s.trk.rpm < s.settings.rpmMinPhase then 0 else unlearned
    let control : Prop := s.trk.state = .cycleSync ∧ s.active (.camSignal c) = false ∧ s.active .supplyLow = false
    let allowed : Prop := control ∧ s.camc.mode ≠ .park ∧ s.camc.loss ≠ .lossPark ∧ s.settings.rpmMinPhase ≤ s.trk.rpm
    let band := s.settings.parkBand
    let wanted : Prop := allowed ∧ band < target
    (s.effectiveTarget c = target ∧ ((s.camOf c).commanded ≤ (s.camSettings c).limit → target ≤ (s.camSettings c).limit)
      ∧ (s.controllable c = true ↔ control) ∧ (s.phasingAllowed c = true ↔ allowed) ∧ (s.releaseWanted c = true ↔ wanted)
      ∧ (s.machineRuns c = true ↔ s.own ≠ 0 ∧ (c = .e → s.straps.xcf = true)))
    ∧ (s.machineRuns c = false → ∀ at_ : Option Measurement, s.review c at_ = s)
    ∧ (s.machineRuns c = true →
    (∀ m : Measurement, (s.camOf c).state = .off →
      (control →
        (s.review c (some m)).camOf c = { s.camOf c with
          state := .parking, ramp := 0, parkedAt := none, rested := false, releaseExpiry := none, stuck := 0
          settleStart := if m.phase.natAbs ≤ band then some m.time else none }
        ∧ (s.review c (some m)).loopOf c = { s.loopOf c with settled := 0, lastUpdate := s.now, first := true }
        ∧ (s.review c (some m)).drv = s.drv)
      ∧ (¬control → s.review c (some m) = s))
    ∧ ((s.camOf c).state = .off → s.review c none = s)
    ∧ (∀ m : Measurement, (s.camOf c).state = .parking → ¬wanted →
      (band < m.phase.natAbs → s.review c (some m) = { s with
        camc := { s.camc with cams := s.camc.cams.set c { s.camOf c with settleStart := none } } })
      ∧ (m.phase.natAbs ≤ band → (s.camOf c).settleStart = none → s.review c (some m) = { s with
        camc := { s.camc with cams := s.camc.cams.set c { s.camOf c with settleStart := some m.time } } })
      ∧ (∀ t0, (s.camOf c).settleStart = some t0 → m.phase.natAbs ≤ band →
        (400000 ≤ elapsed m.time t0 → ((s.review c (some m)).camOf c).state = .parked
          ∧ ((s.review c (some m)).camOf c).parkedAt = some m.time ∧ ((s.review c (some m)).drvOf c).pending = 0
          ∧ ((s.review c (some m)).loopOf c).integral = 0 ∧ (s.review c (some m)).shr.demand.get c = 0)
        ∧ (elapsed m.time t0 < 400000 → s.review c (some m) = s)))
    ∧ ((s.camOf c).state = .parking → ¬wanted → s.review c none = s)
    ∧ (∀ at_ : Option Measurement,
      ((s.camOf c).state = .parking → wanted → ((s.review c at_).camOf c).state = .follow
        ∧ ((s.review c at_).loopOf c).integral = 0 ∧ ((s.review c at_).loopOf c).first = true
        ∧ (s.review c at_).drv = s.drv)
      ∧ ((s.camOf c).state = .parked → wanted → ((s.review c at_).camOf c).state = .release
        ∧ ((s.review c at_).camOf c).releaseExpiry = some ⟨s.now, s.settings.releaseTime * 2000⟩
        ∧ ((s.review c at_).drvOf c).pending = (s.loopOf c).hold + s.settings.releaseOffset
        ∧ ((s.phmOf c).statusBefore ≠ some .learning → ((s.review c at_).phmOf c).status ≠ .learning))
      ∧ ((s.camOf c).state = .parked → ¬wanted → s.review c at_ = s)
      ∧ ((s.camOf c).state = .release → target ≤ band →
        ((s.review c at_).camOf c).state = .parked ∧ ((s.review c at_).camOf c).parkedAt = some s.now
        ∧ ((s.review c at_).drvOf c).pending = 0)
      ∧ ((s.camOf c).state = .release → band < target → s.review c at_ = s)
      ∧ ((s.camOf c).state = .follow → ¬allowed ∨ target ≤ band →
        ((s.review c at_).camOf c).state = .parking ∧ ((s.review c at_).loopOf c).integral = (s.loopOf c).integral
        ∧ ((s.review c at_).camOf c).ramp = 0 ∧ ((s.review c at_).camOf c).settleStart = none
        ∧ (s.review c at_).drv = s.drv)
      ∧ ((s.camOf c).state = .follow → wanted → s.review c at_ = s)
      ∧ ((s.camOf c).state = .faulted → s.review c at_ = s)
      ∧ (s.review c at_).camOf c.other = s.camOf c.other ∧ (s.review c at_).drvOf c.other = s.drvOf c.other
      ∧ (s.review c at_).trk = s.trk ∧ (s.review c at_).mon = s.mon))

/-- TAKE_CRANK_ENTRY of the tooth after the gap completes a revolution: tooth 0, the pitch a third of the gap, rpm from the time of
the revolution, the counts restarted. In CRANK_SYNC the cam counts decide the half, or the revolution is undecided, the fourth in
a row making CAM_PATTERN active; in CYCLE_SYNC the cycle check's first mismatch keeps the cycle and its second falls to CRANK_SYNC.
At the end of half B each cam seen for a whole cycle is evaluated first: fewer than 3 edges are a bad cycle, and two bad or two good
ones in a row make CAM_SIGNAL_x active or end it, with the cam taken to OFF (R24, R26, R30, R31, R33, R34, R56, R57, R88). That a
state entry clears a cam's settle start, rested mark and settled time is the model's reading (notes/assumptions/22.md). -/
def Obligations.GapCompletesTheRevolution : Prop :=
  ∀ (s : State) (t : Time) (rest : List Entry) (last t0 : Time), s.operating = true → s.cap.overflowPending = false →
    s.cap.fifo = ⟨.crank, t⟩ :: rest → s.trk.lastCrank = some last → elapsed t last < 400000 → s.trk.toothTime = some t0 →
    s.trk.tooth = 21 → 2 * s.trk.pitch ≤ elapsed t t0 → elapsed t t0 < 5 * s.trk.pitch →
    s.trk.state = .crankSync ∨ s.trk.state = .cycleSync →
    let verdict (c : Cam) : Option Half :=
      if s.trk.camCounts.get c = (s.camSettings c).nA then some .b
      else if s.trk.camCounts.get c = (s.camSettings c).nB then some .a else none
    let decided : Option Half := match verdict .i, verdict .e with
      | none, none => none
      | none, some g => some g
      | some h, none => some h
      | some h, some g => if h = g then some h else none
    let ref : Cam := if s.active (.camSignal .i) then .e else .i
    let agrees : Prop := s.trk.camCounts.get ref = (s.camSettings ref).nA
    ∃ u, Sys2Proof.Machine.exec .takeCrankEntry s = .next u
      ∧ u.trk.tooth = 0 ∧ u.trk.toothTime = some t ∧ u.trk.pitch = elapsed t t0 / 3 ∧ u.trk.lastCrank = some t
      ∧ u.trk.rpm = min 20000 (120000000 / elapsed t s.trk.revStart) ∧ u.trk.revComplete = true ∧ u.trk.revStart = t
      ∧ u.trk.camCounts = .both 0 ∧ u.trk.stallRef = some t
      ∧ (∀ h, s.trk.state = .crankSync → decided = some h →
        u.trk.state = .cycleSync ∧ u.trk.half = some h ∧ u.trk.adopted = false ∧ u.trk.undecided = 0
        ∧ u.active .syncLoss = false ∧ u.active .camPattern = false)
      ∧ (s.trk.state = .crankSync → decided = none →
        u.trk.state = .crankSync ∧ u.trk.half = none ∧ u.trk.undecided = min 255 (s.trk.undecided + 1)
        ∧ (3 ≤ s.trk.undecided → u.active .camPattern = true) ∧ (s.trk.undecided < 3 → u.mon = s.mon))
      ∧ (s.trk.state = .cycleSync → s.trk.half = some .a →
        (agrees → u.trk.state = .cycleSync ∧ u.trk.half = some .b ∧ u.trk.cycleErrRun = 0 ∧ u.trk.adopted = false
          ∧ u.active .camPattern = false)
        ∧ (¬agrees → s.trk.cycleErrRun = 0 → u.trk.state = .cycleSync ∧ u.trk.half = some .b ∧ u.trk.cycleErrRun = 1
          ∧ u.trk.mismatches = min 65535 (s.trk.mismatches + 1))
        ∧ (¬agrees → s.trk.cycleErrRun ≠ 0 → u.trk.state = .crankSync ∧ u.trk.half = none ∧ u.active .camPattern = true
          ∧ u.line.slots.sync = false ∧ u.trk.mismatches = min 65535 (s.trk.mismatches + 1) ∧ SyncLeft s u
          ∧ ∀ c, s.machineRuns c = true → (s.camOf c).state ≠ .faulted → (u.camOf c).state = .off))
      ∧ (s.trk.state = .crankSync → ∀ c, u.camOf c = s.camOf c)
      ∧ (s.trk.state = .cycleSync → s.trk.half = some .b →
        let whole (c : Cam) : Bool := (s.phmOf c).wholeCycle
        let bad (c : Cam) : Prop := whole c = true ∧ (s.phmOf c).tally < 3
        let good (c : Cam) : Prop := whole c = true ∧ 3 ≤ (s.phmOf c).tally
        let badRun (c : Cam) : Nat :=
          if bad c then min 2 ((s.phmOf c).badRun + 1) else if good c then 0 else (s.phmOf c).badRun
        let goodRun (c : Cam) : Nat :=
          if good c then min 2 ((s.phmOf c).goodRun + 1) else if bad c then 0 else (s.phmOf c).goodRun
        let signal (c : Cam) : Bool :=
          if bad c ∧ badRun c = 2 then true else if good c ∧ goodRun c = 2 then false else s.active (.camSignal c)
        let refB : Cam := if signal .i then .e else .i
        let agreesB : Prop := s.trk.camCounts.get refB = (s.camSettings refB).nB
        (∀ c, (u.phmOf c).badRun = badRun c ∧ (u.phmOf c).goodRun = goodRun c
          ∧ (u.phmOf c).badCycles = (if bad c then min 65535 ((s.phmOf c).badCycles + 1) else (s.phmOf c).badCycles)
          ∧ (u.phmOf c).tally = 0 ∧ u.active (.camSignal c) = signal c
          ∧ (signal c = true → s.active (.camSignal c) = false → s.machineRuns c = true →
            (s.camOf c).state.controlled = true → (u.camOf c).state = .off ∧ (u.drvOf c).pending = 0))
        ∧ (agreesB → u.trk.state = .cycleSync ∧ u.trk.half = some .a ∧ u.trk.cycleErrRun = 0 ∧ u.trk.adopted = false
          ∧ u.active .camPattern = false ∧ ∀ c, (u.phmOf c).wholeCycle = true)
        ∧ (¬agreesB → s.trk.cycleErrRun = 0 → u.trk.state = .cycleSync ∧ u.trk.half = some .a ∧ u.trk.cycleErrRun = 1
          ∧ ∀ c, (u.phmOf c).wholeCycle = true)
        ∧ (¬agreesB → s.trk.cycleErrRun ≠ 0 → u.trk.state = .crankSync ∧ u.trk.half = none ∧ u.active .camPattern = true
          ∧ ∀ c, (u.phmOf c).wholeCycle = false))
      ∧ u.cap.fifo = rest ∧ u.scan = s.scan ∧ u.stored = s.stored ∧ u.settings = s.settings ∧ u.pwr = s.pwr
end

