-- ==== Sys2Proof/Laws/State.lean ====
section
/-! SUPPORT. What each update of the state leaves in each of its fields: one lemma per field per update, true by `rfl`. Beside them
the reads and writes of a value per cam, of a record per stored record and of a condition record. -/

namespace Sys2Proof

@[simp] theorem PerCam.get_set {α : Type} (p : PerCam α) (c : Cam) (a : α) : (p.set c a).get c = a := by
  cases c <;> rfl

@[simp] theorem PerCam.get_set_other {α : Type} (p : PerCam α) (c : Cam) (a : α) : (p.set c a).get c.other = p.get c.other := by
  cases c <;> rfl

theorem PerCam.get_set_ne {α : Type} (p : PerCam α) (c d : Cam) (a : α) (h : d ≠ c) : (p.set c a).get d = p.get d := by
  cases c <;> cases d <;> simp_all [PerCam.get, PerCam.set]

@[simp] theorem PerCam.get_modify {α : Type} (p : PerCam α) (c : Cam) (f : α → α) : (p.modify c f).get c = f (p.get c) := by
  cases c <;> rfl

theorem PerCam.get_modify_ne {α : Type} (p : PerCam α) (c d : Cam) (f : α → α) (h : d ≠ c) :
    (p.modify c f).get d = p.get d := by
  cases c <;> cases d <;> simp_all [PerCam.get, PerCam.set, PerCam.modify]

@[simp] theorem PerCam.get_both {α : Type} (c : Cam) (a : α) : (PerCam.both a).get c = a := by cases c <;> rfl

end Sys2Proof

namespace Sys2Proof.Machine

@[simp] theorem PerRec.get_set {α : Type} (p : PerRec α) (r : Rec) (a : α) : (p.set r a).get r = a := by
  cases r <;> simp [PerRec.get, PerRec.set]

theorem PerRec.get_set_ne {α : Type} (p : PerRec α) (r k : Rec) (a : α) (h : k ≠ r) : (p.set r a).get k = p.get k := by
  cases r with
  | config => cases k with
    | config => exact absurd rfl h
    | cam d => rfl
  | cam c => cases k with
    | config => rfl
    | cam d =>
      have hd : d ≠ c := fun e => h (e ▸ rfl)
      simpa [PerRec.get, PerRec.set] using PerCam.get_set_ne p.cams c d a hd

theorem Cond.idx_injective (j k : Cond) (h : j.idx = k.idx) : j = k := by
  revert h
  rcases j with c | c | _ | c | _ | _ | _ | c <;> rcases k with d | d | _ | d | _ | _ | _ | d <;>
    first
      | (cases c <;> cases d <;> decide)
      | (cases c <;> decide)
      | (cases d <;> decide)
      | decide

@[simp] theorem Mon.get_put (m : Mon) (k : Cond) (r : CondRecord) : (m.put k r).get k = r := by
  show (m.records.set (k.idx : Nat) r)[(k.idx : Nat)] = r
  exact Vector.getElem_set_self _

theorem Mon.get_put_ne (m : Mon) (j k : Cond) (r : CondRecord) (h : j ≠ k) : (m.put k r).get j = m.get j := by
  have hv : (k.idx : Nat) ≠ j.idx := fun e => h (Cond.idx_injective j k (Fin.ext e.symm))
  show (m.records.set (k.idx : Nat) r)[(j.idx : Nat)] = m.records[(j.idx : Nat)]
  exact Vector.getElem_set_ne _ _ hv

@[simp] theorem Mon.put_noted (m : Mon) (k : Cond) (r : CondRecord) : (m.put k r).noted = m.noted := rfl

@[simp] theorem Mon.put_statusTimer (m : Mon) (k : Cond) (r : CondRecord) : (m.put k r).statusTimer = m.statusTimer := rfl

/-! ## One update per block -/

@[simp] theorem State.withCap_pending (s : State) (f : Cap → Cap) : (s.withCap f).pending = s.pending := rfl
@[simp] theorem State.withCap_now (s : State) (f : Cap → Cap) : (s.withCap f).now = s.now := rfl
@[simp] theorem State.withCap_straps (s : State) (f : Cap → Cap) : (s.withCap f).straps = s.straps := rfl
@[simp] theorem State.withCap_settings (s : State) (f : Cap → Cap) : (s.withCap f).settings = s.settings := rfl
@[simp] theorem State.withCap_cap (s : State) (f : Cap → Cap) : (s.withCap f).cap = f s.cap := rfl
@[simp] theorem State.withCap_scan (s : State) (f : Cap → Cap) : (s.withCap f).scan = s.scan := rfl
@[simp] theorem State.withCap_trk (s : State) (f : Cap → Cap) : (s.withCap f).trk = s.trk := rfl
@[simp] theorem State.withCap_phm (s : State) (f : Cap → Cap) : (s.withCap f).phm = s.phm := rfl
@[simp] theorem State.withCap_camc (s : State) (f : Cap → Cap) : (s.withCap f).camc = s.camc := rfl
@[simp] theorem State.withCap_loop (s : State) (f : Cap → Cap) : (s.withCap f).loop = s.loop := rfl
@[simp] theorem State.withCap_shr (s : State) (f : Cap → Cap) : (s.withCap f).shr = s.shr := rfl
@[simp] theorem State.withCap_drv (s : State) (f : Cap → Cap) : (s.withCap f).drv = s.drv := rfl
@[simp] theorem State.withCap_supply (s : State) (f : Cap → Cap) : (s.withCap f).supply = s.supply := rfl
@[simp] theorem State.withCap_line (s : State) (f : Cap → Cap) : (s.withCap f).line = s.line := rfl
@[simp] theorem State.withCap_mon (s : State) (f : Cap → Cap) : (s.withCap f).mon = s.mon := rfl
@[simp] theorem State.withCap_store (s : State) (f : Cap → Cap) : (s.withCap f).store = s.store := rfl
@[simp] theorem State.withCap_stored (s : State) (f : Cap → Cap) : (s.withCap f).stored = s.stored := rfl
@[simp] theorem State.withCap_service (s : State) (f : Cap → Cap) : (s.withCap f).service = s.service := rfl
@[simp] theorem State.withCap_pwr (s : State) (f : Cap → Cap) : (s.withCap f).pwr = s.pwr := rfl
@[simp] theorem State.withCap_freeDraws (s : State) (f : Cap → Cap) : (s.withCap f).freeDraws = s.freeDraws := rfl

@[simp] theorem State.withScan_pending (s : State) (f : Scan → Scan) : (s.withScan f).pending = s.pending := rfl
@[simp] theorem State.withScan_now (s : State) (f : Scan → Scan) : (s.withScan f).now = s.now := rfl
@[simp] theorem State.withScan_straps (s : State) (f : Scan → Scan) : (s.withScan f).straps = s.straps := rfl
@[simp] theorem State.withScan_settings (s : State) (f : Scan → Scan) : (s.withScan f).settings = s.settings := rfl
@[simp] theorem State.withScan_cap (s : State) (f : Scan → Scan) : (s.withScan f).cap = s.cap := rfl
@[simp] theorem State.withScan_scan (s : State) (f : Scan → Scan) : (s.withScan f).scan = f s.scan := rfl
@[simp] theorem State.withScan_trk (s : State) (f : Scan → Scan) : (s.withScan f).trk = s.trk := rfl
@[simp] theorem State.withScan_phm (s : State) (f : Scan → Scan) : (s.withScan f).phm = s.phm := rfl
@[simp] theorem State.withScan_camc (s : State) (f : Scan → Scan) : (s.withScan f).camc = s.camc := rfl
@[simp] theorem State.withScan_loop (s : State) (f : Scan → Scan) : (s.withScan f).loop = s.loop := rfl
@[simp] theorem State.withScan_shr (s : State) (f : Scan → Scan) : (s.withScan f).shr = s.shr := rfl
@[simp] theorem State.withScan_drv (s : State) (f : Scan → Scan) : (s.withScan f).drv = s.drv := rfl
@[simp] theorem State.withScan_supply (s : State) (f : Scan → Scan) : (s.withScan f).supply = s.supply := rfl
@[simp] theorem State.withScan_line (s : State) (f : Scan → Scan) : (s.withScan f).line = s.line := rfl
@[simp] theorem State.withScan_mon (s : State) (f : Scan → Scan) : (s.withScan f).mon = s.mon := rfl
@[simp] theorem State.withScan_store (s : State) (f : Scan → Scan) : (s.withScan f).store = s.store := rfl
@[simp] theorem State.withScan_stored (s : State) (f : Scan → Scan) : (s.withScan f).stored = s.stored := rfl
@[simp] theorem State.withScan_service (s : State) (f : Scan → Scan) : (s.withScan f).service = s.service := rfl
@[simp] theorem State.withScan_pwr (s : State) (f : Scan → Scan) : (s.withScan f).pwr = s.pwr := rfl
@[simp] theorem State.withScan_freeDraws (s : State) (f : Scan → Scan) : (s.withScan f).freeDraws = s.freeDraws := rfl

@[simp] theorem State.withTrk_pending (s : State) (f : Trk → Trk) : (s.withTrk f).pending = s.pending := rfl
@[simp] theorem State.withTrk_now (s : State) (f : Trk → Trk) : (s.withTrk f).now = s.now := rfl
@[simp] theorem State.withTrk_straps (s : State) (f : Trk → Trk) : (s.withTrk f).straps = s.straps := rfl
@[simp] theorem State.withTrk_settings (s : State) (f : Trk → Trk) : (s.withTrk f).settings = s.settings := rfl
@[simp] theorem State.withTrk_cap (s : State) (f : Trk → Trk) : (s.withTrk f).cap = s.cap := rfl
@[simp] theorem State.withTrk_scan (s : State) (f : Trk → Trk) : (s.withTrk f).scan = s.scan := rfl
@[simp] theorem State.withTrk_trk (s : State) (f : Trk → Trk) : (s.withTrk f).trk = f s.trk := rfl
@[simp] theorem State.withTrk_phm (s : State) (f : Trk → Trk) : (s.withTrk f).phm = s.phm := rfl
@[simp] theorem State.withTrk_camc (s : State) (f : Trk → Trk) : (s.withTrk f).camc = s.camc := rfl
@[simp] theorem State.withTrk_loop (s : State) (f : Trk → Trk) : (s.withTrk f).loop = s.loop := rfl
@[simp] theorem State.withTrk_shr (s : State) (f : Trk → Trk) : (s.withTrk f).shr = s.shr := rfl
@[simp] theorem State.withTrk_drv (s : State) (f : Trk → Trk) : (s.withTrk f).drv = s.drv := rfl
@[simp] theorem State.withTrk_supply (s : State) (f : Trk → Trk) : (s.withTrk f).supply = s.supply := rfl
@[simp] theorem State.withTrk_line (s : State) (f : Trk → Trk) : (s.withTrk f).line = s.line := rfl
@[simp] theorem State.withTrk_mon (s : State) (f : Trk → Trk) : (s.withTrk f).mon = s.mon := rfl
@[simp] theorem State.withTrk_store (s : State) (f : Trk → Trk) : (s.withTrk f).store = s.store := rfl
@[simp] theorem State.withTrk_stored (s : State) (f : Trk → Trk) : (s.withTrk f).stored = s.stored := rfl
@[simp] theorem State.withTrk_service (s : State) (f : Trk → Trk) : (s.withTrk f).service = s.service := rfl
@[simp] theorem State.withTrk_pwr (s : State) (f : Trk → Trk) : (s.withTrk f).pwr = s.pwr := rfl
@[simp] theorem State.withTrk_freeDraws (s : State) (f : Trk → Trk) : (s.withTrk f).freeDraws = s.freeDraws := rfl

@[simp] theorem State.withPhm_pending (s : State) (f : PerCam Phm → PerCam Phm) : (s.withPhm f).pending = s.pending := rfl
@[simp] theorem State.withPhm_now (s : State) (f : PerCam Phm → PerCam Phm) : (s.withPhm f).now = s.now := rfl
@[simp] theorem State.withPhm_straps (s : State) (f : PerCam Phm → PerCam Phm) : (s.withPhm f).straps = s.straps := rfl
@[simp] theorem State.withPhm_settings (s : State) (f : PerCam Phm → PerCam Phm) : (s.withPhm f).settings = s.settings := rfl
@[simp] theorem State.withPhm_cap (s : State) (f : PerCam Phm → PerCam Phm) : (s.withPhm f).cap = s.cap := rfl
@[simp] theorem State.withPhm_scan (s : State) (f : PerCam Phm → PerCam Phm) : (s.withPhm f).scan = s.scan := rfl
@[simp] theorem State.withPhm_trk (s : State) (f : PerCam Phm → PerCam Phm) : (s.withPhm f).trk = s.trk := rfl
@[simp] theorem State.withPhm_phm (s : State) (f : PerCam Phm → PerCam Phm) : (s.withPhm f).phm = f s.phm := rfl
@[simp] theorem State.withPhm_camc (s : State) (f : PerCam Phm → PerCam Phm) : (s.withPhm f).camc = s.camc := rfl
@[simp] theorem State.withPhm_loop (s : State) (f : PerCam Phm → PerCam Phm) : (s.withPhm f).loop = s.loop := rfl
@[simp] theorem State.withPhm_shr (s : State) (f : PerCam Phm → PerCam Phm) : (s.withPhm f).shr = s.shr := rfl
@[simp] theorem State.withPhm_drv (s : State) (f : PerCam Phm → PerCam Phm) : (s.withPhm f).drv = s.drv := rfl
@[simp] theorem State.withPhm_supply (s : State) (f : PerCam Phm → PerCam Phm) : (s.withPhm f).supply = s.supply := rfl
@[simp] theorem State.withPhm_line (s : State) (f : PerCam Phm → PerCam Phm) : (s.withPhm f).line = s.line := rfl
@[simp] theorem State.withPhm_mon (s : State) (f : PerCam Phm → PerCam Phm) : (s.withPhm f).mon = s.mon := rfl
@[simp] theorem State.withPhm_store (s : State) (f : PerCam Phm → PerCam Phm) : (s.withPhm f).store = s.store := rfl
@[simp] theorem State.withPhm_stored (s : State) (f : PerCam Phm → PerCam Phm) : (s.withPhm f).stored = s.stored := rfl
@[simp] theorem State.withPhm_service (s : State) (f : PerCam Phm → PerCam Phm) : (s.withPhm f).service = s.service := rfl
@[simp] theorem State.withPhm_pwr (s : State) (f : PerCam Phm → PerCam Phm) : (s.withPhm f).pwr = s.pwr := rfl
@[simp] theorem State.withPhm_freeDraws (s : State) (f : PerCam Phm → PerCam Phm) : (s.withPhm f).freeDraws = s.freeDraws := rfl

@[simp] theorem State.withCamc_pending (s : State) (f : Camc → Camc) : (s.withCamc f).pending = s.pending := rfl
@[simp] theorem State.withCamc_now (s : State) (f : Camc → Camc) : (s.withCamc f).now = s.now := rfl
@[simp] theorem State.withCamc_straps (s : State) (f : Camc → Camc) : (s.withCamc f).straps = s.straps := rfl
@[simp] theorem State.withCamc_settings (s : State) (f : Camc → Camc) : (s.withCamc f).settings = s.settings := rfl
@[simp] theorem State.withCamc_cap (s : State) (f : Camc → Camc) : (s.withCamc f).cap = s.cap := rfl
@[simp] theorem State.withCamc_scan (s : State) (f : Camc → Camc) : (s.withCamc f).scan = s.scan := rfl
@[simp] theorem State.withCamc_trk (s : State) (f : Camc → Camc) : (s.withCamc f).trk = s.trk := rfl
@[simp] theorem State.withCamc_phm (s : State) (f : Camc → Camc) : (s.withCamc f).phm = s.phm := rfl
@[simp] theorem State.withCamc_camc (s : State) (f : Camc → Camc) : (s.withCamc f).camc = f s.camc := rfl
@[simp] theorem State.withCamc_loop (s : State) (f : Camc → Camc) : (s.withCamc f).loop = s.loop := rfl
@[simp] theorem State.withCamc_shr (s : State) (f : Camc → Camc) : (s.withCamc f).shr = s.shr := rfl
@[simp] theorem State.withCamc_drv (s : State) (f : Camc → Camc) : (s.withCamc f).drv = s.drv := rfl
@[simp] theorem State.withCamc_supply (s : State) (f : Camc → Camc) : (s.withCamc f).supply = s.supply := rfl
@[simp] theorem State.withCamc_line (s : State) (f : Camc → Camc) : (s.withCamc f).line = s.line := rfl
@[simp] theorem State.withCamc_mon (s : State) (f : Camc → Camc) : (s.withCamc f).mon = s.mon := rfl
@[simp] theorem State.withCamc_store (s : State) (f : Camc → Camc) : (s.withCamc f).store = s.store := rfl
@[simp] theorem State.withCamc_stored (s : State) (f : Camc → Camc) : (s.withCamc f).stored = s.stored := rfl
@[simp] theorem State.withCamc_service (s : State) (f : Camc → Camc) : (s.withCamc f).service = s.service := rfl
@[simp] theorem State.withCamc_pwr (s : State) (f : Camc → Camc) : (s.withCamc f).pwr = s.pwr := rfl
@[simp] theorem State.withCamc_freeDraws (s : State) (f : Camc → Camc) : (s.withCamc f).freeDraws = s.freeDraws := rfl

@[simp] theorem State.withLoop_pending (s : State) (f : PerCam Loop → PerCam Loop) : (s.withLoop f).pending = s.pending := rfl
@[simp] theorem State.withLoop_now (s : State) (f : PerCam Loop → PerCam Loop) : (s.withLoop f).now = s.now := rfl
@[simp] theorem State.withLoop_straps (s : State) (f : PerCam Loop → PerCam Loop) : (s.withLoop f).straps = s.straps := rfl
@[simp] theorem State.withLoop_settings (s : State) (f : PerCam Loop → PerCam Loop) : (s.withLoop f).settings = s.settings := rfl
@[simp] theorem State.withLoop_cap (s : State) (f : PerCam Loop → PerCam Loop) : (s.withLoop f).cap = s.cap := rfl
@[simp] theorem State.withLoop_scan (s : State) (f : PerCam Loop → PerCam Loop) : (s.withLoop f).scan = s.scan := rfl
@[simp] theorem State.withLoop_trk (s : State) (f : PerCam Loop → PerCam Loop) : (s.withLoop f).trk = s.trk := rfl
@[simp] theorem State.withLoop_phm (s : State) (f : PerCam Loop → PerCam Loop) : (s.withLoop f).phm = s.phm := rfl
@[simp] theorem State.withLoop_camc (s : State) (f : PerCam Loop → PerCam Loop) : (s.withLoop f).camc = s.camc := rfl
@[simp] theorem State.withLoop_loop (s : State) (f : PerCam Loop → PerCam Loop) : (s.withLoop f).loop = f s.loop := rfl
@[simp] theorem State.withLoop_shr (s : State) (f : PerCam Loop → PerCam Loop) : (s.withLoop f).shr = s.shr := rfl
@[simp] theorem State.withLoop_drv (s : State) (f : PerCam Loop → PerCam Loop) : (s.withLoop f).drv = s.drv := rfl
@[simp] theorem State.withLoop_supply (s : State) (f : PerCam Loop → PerCam Loop) : (s.withLoop f).supply = s.supply := rfl
@[simp] theorem State.withLoop_line (s : State) (f : PerCam Loop → PerCam Loop) : (s.withLoop f).line = s.line := rfl
@[simp] theorem State.withLoop_mon (s : State) (f : PerCam Loop → PerCam Loop) : (s.withLoop f).mon = s.mon := rfl
@[simp] theorem State.withLoop_store (s : State) (f : PerCam Loop → PerCam Loop) : (s.withLoop f).store = s.store := rfl
@[simp] theorem State.withLoop_stored (s : State) (f : PerCam Loop → PerCam Loop) : (s.withLoop f).stored = s.stored := rfl
@[simp] theorem State.withLoop_service (s : State) (f : PerCam Loop → PerCam Loop) : (s.withLoop f).service = s.service := rfl
@[simp] theorem State.withLoop_pwr (s : State) (f : PerCam Loop → PerCam Loop) : (s.withLoop f).pwr = s.pwr := rfl
@[simp] theorem State.withLoop_freeDraws (s : State) (f : PerCam Loop → PerCam Loop) : (s.withLoop f).freeDraws = s.freeDraws := rfl

@[simp] theorem State.withShr_pending (s : State) (f : Shr → Shr) : (s.withShr f).pending = s.pending := rfl
@[simp] theorem State.withShr_now (s : State) (f : Shr → Shr) : (s.withShr f).now = s.now := rfl
@[simp] theorem State.withShr_straps (s : State) (f : Shr → Shr) : (s.withShr f).straps = s.straps := rfl
@[simp] theorem State.withShr_settings (s : State) (f : Shr → Shr) : (s.withShr f).settings = s.settings := rfl
@[simp] theorem State.withShr_cap (s : State) (f : Shr → Shr) : (s.withShr f).cap = s.cap := rfl
@[simp] theorem State.withShr_scan (s : State) (f : Shr → Shr) : (s.withShr f).scan = s.scan := rfl
@[simp] theorem State.withShr_trk (s : State) (f : Shr → Shr) : (s.withShr f).trk = s.trk := rfl
@[simp] theorem State.withShr_phm (s : State) (f : Shr → Shr) : (s.withShr f).phm = s.phm := rfl
@[simp] theorem State.withShr_camc (s : State) (f : Shr → Shr) : (s.withShr f).camc = s.camc := rfl
@[simp] theorem State.withShr_loop (s : State) (f : Shr → Shr) : (s.withShr f).loop = s.loop := rfl
@[simp] theorem State.withShr_shr (s : State) (f : Shr → Shr) : (s.withShr f).shr = f s.shr := rfl
@[simp] theorem State.withShr_drv (s : State) (f : Shr → Shr) : (s.withShr f).drv = s.drv := rfl
@[simp] theorem State.withShr_supply (s : State) (f : Shr → Shr) : (s.withShr f).supply = s.supply := rfl
@[simp] theorem State.withShr_line (s : State) (f : Shr → Shr) : (s.withShr f).line = s.line := rfl
@[simp] theorem State.withShr_mon (s : State) (f : Shr → Shr) : (s.withShr f).mon = s.mon := rfl
@[simp] theorem State.withShr_store (s : State) (f : Shr → Shr) : (s.withShr f).store = s.store := rfl
@[simp] theorem State.withShr_stored (s : State) (f : Shr → Shr) : (s.withShr f).stored = s.stored := rfl
@[simp] theorem State.withShr_service (s : State) (f : Shr → Shr) : (s.withShr f).service = s.service := rfl
@[simp] theorem State.withShr_pwr (s : State) (f : Shr → Shr) : (s.withShr f).pwr = s.pwr := rfl
@[simp] theorem State.withShr_freeDraws (s : State) (f : Shr → Shr) : (s.withShr f).freeDraws = s.freeDraws := rfl

@[simp] theorem State.withDrv_pending (s : State) (f : PerCam Drv → PerCam Drv) : (s.withDrv f).pending = s.pending := rfl
@[simp] theorem State.withDrv_now (s : State) (f : PerCam Drv → PerCam Drv) : (s.withDrv f).now = s.now := rfl
@[simp] theorem State.withDrv_straps (s : State) (f : PerCam Drv → PerCam Drv) : (s.withDrv f).straps = s.straps := rfl
@[simp] theorem State.withDrv_settings (s : State) (f : PerCam Drv → PerCam Drv) : (s.withDrv f).settings = s.settings := rfl
@[simp] theorem State.withDrv_cap (s : State) (f : PerCam Drv → PerCam Drv) : (s.withDrv f).cap = s.cap := rfl
@[simp] theorem State.withDrv_scan (s : State) (f : PerCam Drv → PerCam Drv) : (s.withDrv f).scan = s.scan := rfl
@[simp] theorem State.withDrv_trk (s : State) (f : PerCam Drv → PerCam Drv) : (s.withDrv f).trk = s.trk := rfl
@[simp] theorem State.withDrv_phm (s : State) (f : PerCam Drv → PerCam Drv) : (s.withDrv f).phm = s.phm := rfl
@[simp] theorem State.withDrv_camc (s : State) (f : PerCam Drv → PerCam Drv) : (s.withDrv f).camc = s.camc := rfl
@[simp] theorem State.withDrv_loop (s : State) (f : PerCam Drv → PerCam Drv) : (s.withDrv f).loop = s.loop := rfl
@[simp] theorem State.withDrv_shr (s : State) (f : PerCam Drv → PerCam Drv) : (s.withDrv f).shr = s.shr := rfl
@[simp] theorem State.withDrv_drv (s : State) (f : PerCam Drv → PerCam Drv) : (s.withDrv f).drv = f s.drv := rfl
@[simp] theorem State.withDrv_supply (s : State) (f : PerCam Drv → PerCam Drv) : (s.withDrv f).supply = s.supply := rfl
@[simp] theorem State.withDrv_line (s : State) (f : PerCam Drv → PerCam Drv) : (s.withDrv f).line = s.line := rfl
@[simp] theorem State.withDrv_mon (s : State) (f : PerCam Drv → PerCam Drv) : (s.withDrv f).mon = s.mon := rfl
@[simp] theorem State.withDrv_store (s : State) (f : PerCam Drv → PerCam Drv) : (s.withDrv f).store = s.store := rfl
@[simp] theorem State.withDrv_stored (s : State) (f : PerCam Drv → PerCam Drv) : (s.withDrv f).stored = s.stored := rfl
@[simp] theorem State.withDrv_service (s : State) (f : PerCam Drv → PerCam Drv) : (s.withDrv f).service = s.service := rfl
@[simp] theorem State.withDrv_pwr (s : State) (f : PerCam Drv → PerCam Drv) : (s.withDrv f).pwr = s.pwr := rfl
@[simp] theorem State.withDrv_freeDraws (s : State) (f : PerCam Drv → PerCam Drv) : (s.withDrv f).freeDraws = s.freeDraws := rfl

@[simp] theorem State.withSupply_pending (s : State) (f : SupplyMon → SupplyMon) : (s.withSupply f).pending = s.pending := rfl
@[simp] theorem State.withSupply_now (s : State) (f : SupplyMon → SupplyMon) : (s.withSupply f).now = s.now := rfl
@[simp] theorem State.withSupply_straps (s : State) (f : SupplyMon → SupplyMon) : (s.withSupply f).straps = s.straps := rfl
@[simp] theorem State.withSupply_settings (s : State) (f : SupplyMon → SupplyMon) : (s.withSupply f).settings = s.settings := rfl
@[simp] theorem State.withSupply_cap (s : State) (f : SupplyMon → SupplyMon) : (s.withSupply f).cap = s.cap := rfl
@[simp] theorem State.withSupply_scan (s : State) (f : SupplyMon → SupplyMon) : (s.withSupply f).scan = s.scan := rfl
@[simp] theorem State.withSupply_trk (s : State) (f : SupplyMon → SupplyMon) : (s.withSupply f).trk = s.trk := rfl
@[simp] theorem State.withSupply_phm (s : State) (f : SupplyMon → SupplyMon) : (s.withSupply f).phm = s.phm := rfl
@[simp] theorem State.withSupply_camc (s : State) (f : SupplyMon → SupplyMon) : (s.withSupply f).camc = s.camc := rfl
@[simp] theorem State.withSupply_loop (s : State) (f : SupplyMon → SupplyMon) : (s.withSupply f).loop = s.loop := rfl
@[simp] theorem State.withSupply_shr (s : State) (f : SupplyMon → SupplyMon) : (s.withSupply f).shr = s.shr := rfl
@[simp] theorem State.withSupply_drv (s : State) (f : SupplyMon → SupplyMon) : (s.withSupply f).drv = s.drv := rfl
@[simp] theorem State.withSupply_supply (s : State) (f : SupplyMon → SupplyMon) : (s.withSupply f).supply = f s.supply := rfl
@[simp] theorem State.withSupply_line (s : State) (f : SupplyMon → SupplyMon) : (s.withSupply f).line = s.line := rfl
@[simp] theorem State.withSupply_mon (s : State) (f : SupplyMon → SupplyMon) : (s.withSupply f).mon = s.mon := rfl
@[simp] theorem State.withSupply_store (s : State) (f : SupplyMon → SupplyMon) : (s.withSupply f).store = s.store := rfl
@[simp] theorem State.withSupply_stored (s : State) (f : SupplyMon → SupplyMon) : (s.withSupply f).stored = s.stored := rfl
@[simp] theorem State.withSupply_service (s : State) (f : SupplyMon → SupplyMon) : (s.withSupply f).service = s.service := rfl
@[simp] theorem State.withSupply_pwr (s : State) (f : SupplyMon → SupplyMon) : (s.withSupply f).pwr = s.pwr := rfl
@[simp] theorem State.withSupply_freeDraws (s : State) (f : SupplyMon → SupplyMon) : (s.withSupply f).freeDraws = s.freeDraws := rfl

@[simp] theorem State.withLine_pending (s : State) (f : Line → Line) : (s.withLine f).pending = s.pending := rfl
@[simp] theorem State.withLine_now (s : State) (f : Line → Line) : (s.withLine f).now = s.now := rfl
@[simp] theorem State.withLine_straps (s : State) (f : Line → Line) : (s.withLine f).straps = s.straps := rfl
@[simp] theorem State.withLine_settings (s : State) (f : Line → Line) : (s.withLine f).settings = s.settings := rfl
@[simp] theorem State.withLine_cap (s : State) (f : Line → Line) : (s.withLine f).cap = s.cap := rfl
@[simp] theorem State.withLine_scan (s : State) (f : Line → Line) : (s.withLine f).scan = s.scan := rfl
@[simp] theorem State.withLine_trk (s : State) (f : Line → Line) : (s.withLine f).trk = s.trk := rfl
@[simp] theorem State.withLine_phm (s : State) (f : Line → Line) : (s.withLine f).phm = s.phm := rfl
@[simp] theorem State.withLine_camc (s : State) (f : Line → Line) : (s.withLine f).camc = s.camc := rfl
@[simp] theorem State.withLine_loop (s : State) (f : Line → Line) : (s.withLine f).loop = s.loop := rfl
@[simp] theorem State.withLine_shr (s : State) (f : Line → Line) : (s.withLine f).shr = s.shr := rfl
@[simp] theorem State.withLine_drv (s : State) (f : Line → Line) : (s.withLine f).drv = s.drv := rfl
@[simp] theorem State.withLine_supply (s : State) (f : Line → Line) : (s.withLine f).supply = s.supply := rfl
@[simp] theorem State.withLine_line (s : State) (f : Line → Line) : (s.withLine f).line = f s.line := rfl
@[simp] theorem State.withLine_mon (s : State) (f : Line → Line) : (s.withLine f).mon = s.mon := rfl
@[simp] theorem State.withLine_store (s : State) (f : Line → Line) : (s.withLine f).store = s.store := rfl
@[simp] theorem State.withLine_stored (s : State) (f : Line → Line) : (s.withLine f).stored = s.stored := rfl
@[simp] theorem State.withLine_service (s : State) (f : Line → Line) : (s.withLine f).service = s.service := rfl
@[simp] theorem State.withLine_pwr (s : State) (f : Line → Line) : (s.withLine f).pwr = s.pwr := rfl
@[simp] theorem State.withLine_freeDraws (s : State) (f : Line → Line) : (s.withLine f).freeDraws = s.freeDraws := rfl

@[simp] theorem State.withMon_pending (s : State) (f : Mon → Mon) : (s.withMon f).pending = s.pending := rfl
@[simp] theorem State.withMon_now (s : State) (f : Mon → Mon) : (s.withMon f).now = s.now := rfl
@[simp] theorem State.withMon_straps (s : State) (f : Mon → Mon) : (s.withMon f).straps = s.straps := rfl
@[simp] theorem State.withMon_settings (s : State) (f : Mon → Mon) : (s.withMon f).settings = s.settings := rfl
@[simp] theorem State.withMon_cap (s : State) (f : Mon → Mon) : (s.withMon f).cap = s.cap := rfl
@[simp] theorem State.withMon_scan (s : State) (f : Mon → Mon) : (s.withMon f).scan = s.scan := rfl
@[simp] theorem State.withMon_trk (s : State) (f : Mon → Mon) : (s.withMon f).trk = s.trk := rfl
@[simp] theorem State.withMon_phm (s : State) (f : Mon → Mon) : (s.withMon f).phm = s.phm := rfl
@[simp] theorem State.withMon_camc (s : State) (f : Mon → Mon) : (s.withMon f).camc = s.camc := rfl
@[simp] theorem State.withMon_loop (s : State) (f : Mon → Mon) : (s.withMon f).loop = s.loop := rfl
@[simp] theorem State.withMon_shr (s : State) (f : Mon → Mon) : (s.withMon f).shr = s.shr := rfl
@[simp] theorem State.withMon_drv (s : State) (f : Mon → Mon) : (s.withMon f).drv = s.drv := rfl
@[simp] theorem State.withMon_supply (s : State) (f : Mon → Mon) : (s.withMon f).supply = s.supply := rfl
@[simp] theorem State.withMon_line (s : State) (f : Mon → Mon) : (s.withMon f).line = s.line := rfl
@[simp] theorem State.withMon_mon (s : State) (f : Mon → Mon) : (s.withMon f).mon = f s.mon := rfl
@[simp] theorem State.withMon_store (s : State) (f : Mon → Mon) : (s.withMon f).store = s.store := rfl
@[simp] theorem State.withMon_stored (s : State) (f : Mon → Mon) : (s.withMon f).stored = s.stored := rfl
@[simp] theorem State.withMon_service (s : State) (f : Mon → Mon) : (s.withMon f).service = s.service := rfl
@[simp] theorem State.withMon_pwr (s : State) (f : Mon → Mon) : (s.withMon f).pwr = s.pwr := rfl
@[simp] theorem State.withMon_freeDraws (s : State) (f : Mon → Mon) : (s.withMon f).freeDraws = s.freeDraws := rfl

@[simp] theorem State.withStore_pending (s : State) (f : Store → Store) : (s.withStore f).pending = s.pending := rfl
@[simp] theorem State.withStore_now (s : State) (f : Store → Store) : (s.withStore f).now = s.now := rfl
@[simp] theorem State.withStore_straps (s : State) (f : Store → Store) : (s.withStore f).straps = s.straps := rfl
@[simp] theorem State.withStore_settings (s : State) (f : Store → Store) : (s.withStore f).settings = s.settings := rfl
@[simp] theorem State.withStore_cap (s : State) (f : Store → Store) : (s.withStore f).cap = s.cap := rfl
@[simp] theorem State.withStore_scan (s : State) (f : Store → Store) : (s.withStore f).scan = s.scan := rfl
@[simp] theorem State.withStore_trk (s : State) (f : Store → Store) : (s.withStore f).trk = s.trk := rfl
@[simp] theorem State.withStore_phm (s : State) (f : Store → Store) : (s.withStore f).phm = s.phm := rfl
@[simp] theorem State.withStore_camc (s : State) (f : Store → Store) : (s.withStore f).camc = s.camc := rfl
@[simp] theorem State.withStore_loop (s : State) (f : Store → Store) : (s.withStore f).loop = s.loop := rfl
@[simp] theorem State.withStore_shr (s : State) (f : Store → Store) : (s.withStore f).shr = s.shr := rfl
@[simp] theorem State.withStore_drv (s : State) (f : Store → Store) : (s.withStore f).drv = s.drv := rfl
@[simp] theorem State.withStore_supply (s : State) (f : Store → Store) : (s.withStore f).supply = s.supply := rfl
@[simp] theorem State.withStore_line (s : State) (f : Store → Store) : (s.withStore f).line = s.line := rfl
@[simp] theorem State.withStore_mon (s : State) (f : Store → Store) : (s.withStore f).mon = s.mon := rfl
@[simp] theorem State.withStore_store (s : State) (f : Store → Store) : (s.withStore f).store = f s.store := rfl
@[simp] theorem State.withStore_stored (s : State) (f : Store → Store) : (s.withStore f).stored = s.stored := rfl
@[simp] theorem State.withStore_service (s : State) (f : Store → Store) : (s.withStore f).service = s.service := rfl
@[simp] theorem State.withStore_pwr (s : State) (f : Store → Store) : (s.withStore f).pwr = s.pwr := rfl
@[simp] theorem State.withStore_freeDraws (s : State) (f : Store → Store) : (s.withStore f).freeDraws = s.freeDraws := rfl

@[simp] theorem State.withStored_pending (s : State) (f : PerRec Stored → PerRec Stored) : (s.withStored f).pending = s.pending := rfl
@[simp] theorem State.withStored_now (s : State) (f : PerRec Stored → PerRec Stored) : (s.withStored f).now = s.now := rfl
@[simp] theorem State.withStored_straps (s : State) (f : PerRec Stored → PerRec Stored) : (s.withStored f).straps = s.straps := rfl
@[simp] theorem State.withStored_settings (s : State) (f : PerRec Stored → PerRec Stored) : (s.withStored f).settings = s.settings := rfl
@[simp] theorem State.withStored_cap (s : State) (f : PerRec Stored → PerRec Stored) : (s.withStored f).cap = s.cap := rfl
@[simp] theorem State.withStored_scan (s : State) (f : PerRec Stored → PerRec Stored) : (s.withStored f).scan = s.scan := rfl
@[simp] theorem State.withStored_trk (s : State) (f : PerRec Stored → PerRec Stored) : (s.withStored f).trk = s.trk := rfl
@[simp] theorem State.withStored_phm (s : State) (f : PerRec Stored → PerRec Stored) : (s.withStored f).phm = s.phm := rfl
@[simp] theorem State.withStored_camc (s : State) (f : PerRec Stored → PerRec Stored) : (s.withStored f).camc = s.camc := rfl
@[simp] theorem State.withStored_loop (s : State) (f : PerRec Stored → PerRec Stored) : (s.withStored f).loop = s.loop := rfl
@[simp] theorem State.withStored_shr (s : State) (f : PerRec Stored → PerRec Stored) : (s.withStored f).shr = s.shr := rfl
@[simp] theorem State.withStored_drv (s : State) (f : PerRec Stored → PerRec Stored) : (s.withStored f).drv = s.drv := rfl
@[simp] theorem State.withStored_supply (s : State) (f : PerRec Stored → PerRec Stored) : (s.withStored f).supply = s.supply := rfl
@[simp] theorem State.withStored_line (s : State) (f : PerRec Stored → PerRec Stored) : (s.withStored f).line = s.line := rfl
@[simp] theorem State.withStored_mon (s : State) (f : PerRec Stored → PerRec Stored) : (s.withStored f).mon = s.mon := rfl
@[simp] theorem State.withStored_store (s : State) (f : PerRec Stored → PerRec Stored) : (s.withStored f).store = s.store := rfl
@[simp] theorem State.withStored_stored (s : State) (f : PerRec Stored → PerRec Stored) : (s.withStored f).stored = f s.stored := rfl
@[simp] theorem State.withStored_service (s : State) (f : PerRec Stored → PerRec Stored) : (s.withStored f).service = s.service := rfl
@[simp] theorem State.withStored_pwr (s : State) (f : PerRec Stored → PerRec Stored) : (s.withStored f).pwr = s.pwr := rfl
@[simp] theorem State.withStored_freeDraws (s : State) (f : PerRec Stored → PerRec Stored) : (s.withStored f).freeDraws = s.freeDraws := rfl

@[simp] theorem State.withService_pending (s : State) (f : Service → Service) : (s.withService f).pending = s.pending := rfl
@[simp] theorem State.withService_now (s : State) (f : Service → Service) : (s.withService f).now = s.now := rfl
@[simp] theorem State.withService_straps (s : State) (f : Service → Service) : (s.withService f).straps = s.straps := rfl
@[simp] theorem State.withService_settings (s : State) (f : Service → Service) : (s.withService f).settings = s.settings := rfl
@[simp] theorem State.withService_cap (s : State) (f : Service → Service) : (s.withService f).cap = s.cap := rfl
@[simp] theorem State.withService_scan (s : State) (f : Service → Service) : (s.withService f).scan = s.scan := rfl
@[simp] theorem State.withService_trk (s : State) (f : Service → Service) : (s.withService f).trk = s.trk := rfl
@[simp] theorem State.withService_phm (s : State) (f : Service → Service) : (s.withService f).phm = s.phm := rfl
@[simp] theorem State.withService_camc (s : State) (f : Service → Service) : (s.withService f).camc = s.camc := rfl
@[simp] theorem State.withService_loop (s : State) (f : Service → Service) : (s.withService f).loop = s.loop := rfl
@[simp] theorem State.withService_shr (s : State) (f : Service → Service) : (s.withService f).shr = s.shr := rfl
@[simp] theorem State.withService_drv (s : State) (f : Service → Service) : (s.withService f).drv = s.drv := rfl
@[simp] theorem State.withService_supply (s : State) (f : Service → Service) : (s.withService f).supply = s.supply := rfl
@[simp] theorem State.withService_line (s : State) (f : Service → Service) : (s.withService f).line = s.line := rfl
@[simp] theorem State.withService_mon (s : State) (f : Service → Service) : (s.withService f).mon = s.mon := rfl
@[simp] theorem State.withService_store (s : State) (f : Service → Service) : (s.withService f).store = s.store := rfl
@[simp] theorem State.withService_stored (s : State) (f : Service → Service) : (s.withService f).stored = s.stored := rfl
@[simp] theorem State.withService_service (s : State) (f : Service → Service) : (s.withService f).service = f s.service := rfl
@[simp] theorem State.withService_pwr (s : State) (f : Service → Service) : (s.withService f).pwr = s.pwr := rfl
@[simp] theorem State.withService_freeDraws (s : State) (f : Service → Service) : (s.withService f).freeDraws = s.freeDraws := rfl

@[simp] theorem State.withPwr_pending (s : State) (f : Pwr → Pwr) : (s.withPwr f).pending = s.pending := rfl
@[simp] theorem State.withPwr_now (s : State) (f : Pwr → Pwr) : (s.withPwr f).now = s.now := rfl
@[simp] theorem State.withPwr_straps (s : State) (f : Pwr → Pwr) : (s.withPwr f).straps = s.straps := rfl
@[simp] theorem State.withPwr_settings (s : State) (f : Pwr → Pwr) : (s.withPwr f).settings = s.settings := rfl
@[simp] theorem State.withPwr_cap (s : State) (f : Pwr → Pwr) : (s.withPwr f).cap = s.cap := rfl
@[simp] theorem State.withPwr_scan (s : State) (f : Pwr → Pwr) : (s.withPwr f).scan = s.scan := rfl
@[simp] theorem State.withPwr_trk (s : State) (f : Pwr → Pwr) : (s.withPwr f).trk = s.trk := rfl
@[simp] theorem State.withPwr_phm (s : State) (f : Pwr → Pwr) : (s.withPwr f).phm = s.phm := rfl
@[simp] theorem State.withPwr_camc (s : State) (f : Pwr → Pwr) : (s.withPwr f).camc = s.camc := rfl
@[simp] theorem State.withPwr_loop (s : State) (f : Pwr → Pwr) : (s.withPwr f).loop = s.loop := rfl
@[simp] theorem State.withPwr_shr (s : State) (f : Pwr → Pwr) : (s.withPwr f).shr = s.shr := rfl
@[simp] theorem State.withPwr_drv (s : State) (f : Pwr → Pwr) : (s.withPwr f).drv = s.drv := rfl
@[simp] theorem State.withPwr_supply (s : State) (f : Pwr → Pwr) : (s.withPwr f).supply = s.supply := rfl
@[simp] theorem State.withPwr_line (s : State) (f : Pwr → Pwr) : (s.withPwr f).line = s.line := rfl
@[simp] theorem State.withPwr_mon (s : State) (f : Pwr → Pwr) : (s.withPwr f).mon = s.mon := rfl
@[simp] theorem State.withPwr_store (s : State) (f : Pwr → Pwr) : (s.withPwr f).store = s.store := rfl
@[simp] theorem State.withPwr_stored (s : State) (f : Pwr → Pwr) : (s.withPwr f).stored = s.stored := rfl
@[simp] theorem State.withPwr_service (s : State) (f : Pwr → Pwr) : (s.withPwr f).service = s.service := rfl
@[simp] theorem State.withPwr_pwr (s : State) (f : Pwr → Pwr) : (s.withPwr f).pwr = f s.pwr := rfl
@[simp] theorem State.withPwr_freeDraws (s : State) (f : Pwr → Pwr) : (s.withPwr f).freeDraws = s.freeDraws := rfl

/-! ## Updates of one cam's record -/

@[simp] theorem State.onPhm_pending (s : State) (c : Cam) (f : Phm → Phm) : (s.onPhm c f).pending = s.pending := rfl
@[simp] theorem State.onPhm_now (s : State) (c : Cam) (f : Phm → Phm) : (s.onPhm c f).now = s.now := rfl
@[simp] theorem State.onPhm_straps (s : State) (c : Cam) (f : Phm → Phm) : (s.onPhm c f).straps = s.straps := rfl
@[simp] theorem State.onPhm_settings (s : State) (c : Cam) (f : Phm → Phm) : (s.onPhm c f).settings = s.settings := rfl
@[simp] theorem State.onPhm_cap (s : State) (c : Cam) (f : Phm → Phm) : (s.onPhm c f).cap = s.cap := rfl
@[simp] theorem State.onPhm_scan (s : State) (c : Cam) (f : Phm → Phm) : (s.onPhm c f).scan = s.scan := rfl
@[simp] theorem State.onPhm_trk (s : State) (c : Cam) (f : Phm → Phm) : (s.onPhm c f).trk = s.trk := rfl
@[simp] theorem State.onPhm_phm (s : State) (c : Cam) (f : Phm → Phm) : (s.onPhm c f).phm = s.phm.modify c f := rfl
@[simp] theorem State.onPhm_camc (s : State) (c : Cam) (f : Phm → Phm) : (s.onPhm c f).camc = s.camc := rfl
@[simp] theorem State.onPhm_loop (s : State) (c : Cam) (f : Phm → Phm) : (s.onPhm c f).loop = s.loop := rfl
@[simp] theorem State.onPhm_shr (s : State) (c : Cam) (f : Phm → Phm) : (s.onPhm c f).shr = s.shr := rfl
@[simp] theorem State.onPhm_drv (s : State) (c : Cam) (f : Phm → Phm) : (s.onPhm c f).drv = s.drv := rfl
@[simp] theorem State.onPhm_supply (s : State) (c : Cam) (f : Phm → Phm) : (s.onPhm c f).supply = s.supply := rfl
@[simp] theorem State.onPhm_line (s : State) (c : Cam) (f : Phm → Phm) : (s.onPhm c f).line = s.line := rfl
@[simp] theorem State.onPhm_mon (s : State) (c : Cam) (f : Phm → Phm) : (s.onPhm c f).mon = s.mon := rfl
@[simp] theorem State.onPhm_store (s : State) (c : Cam) (f : Phm → Phm) : (s.onPhm c f).store = s.store := rfl
@[simp] theorem State.onPhm_stored (s : State) (c : Cam) (f : Phm → Phm) : (s.onPhm c f).stored = s.stored := rfl
@[simp] theorem State.onPhm_service (s : State) (c : Cam) (f : Phm → Phm) : (s.onPhm c f).service = s.service := rfl
@[simp] theorem State.onPhm_pwr (s : State) (c : Cam) (f : Phm → Phm) : (s.onPhm c f).pwr = s.pwr := rfl
@[simp] theorem State.onPhm_freeDraws (s : State) (c : Cam) (f : Phm → Phm) : (s.onPhm c f).freeDraws = s.freeDraws := rfl

@[simp] theorem State.onCam_pending (s : State) (c : Cam) (f : CamCtl → CamCtl) : (s.onCam c f).pending = s.pending := rfl
@[simp] theorem State.onCam_now (s : State) (c : Cam) (f : CamCtl → CamCtl) : (s.onCam c f).now = s.now := rfl
@[simp] theorem State.onCam_straps (s : State) (c : Cam) (f : CamCtl → CamCtl) : (s.onCam c f).straps = s.straps := rfl
@[simp] theorem State.onCam_settings (s : State) (c : Cam) (f : CamCtl → CamCtl) : (s.onCam c f).settings = s.settings := rfl
@[simp] theorem State.onCam_cap (s : State) (c : Cam) (f : CamCtl → CamCtl) : (s.onCam c f).cap = s.cap := rfl
@[simp] theorem State.onCam_scan (s : State) (c : Cam) (f : CamCtl → CamCtl) : (s.onCam c f).scan = s.scan := rfl
@[simp] theorem State.onCam_trk (s : State) (c : Cam) (f : CamCtl → CamCtl) : (s.onCam c f).trk = s.trk := rfl
@[simp] theorem State.onCam_phm (s : State) (c : Cam) (f : CamCtl → CamCtl) : (s.onCam c f).phm = s.phm := rfl
@[simp] theorem State.onCam_camc (s : State) (c : Cam) (f : CamCtl → CamCtl) : (s.onCam c f).camc = { s.camc with cams := s.camc.cams.modify c f } := rfl
@[simp] theorem State.onCam_loop (s : State) (c : Cam) (f : CamCtl → CamCtl) : (s.onCam c f).loop = s.loop := rfl
@[simp] theorem State.onCam_shr (s : State) (c : Cam) (f : CamCtl → CamCtl) : (s.onCam c f).shr = s.shr := rfl
@[simp] theorem State.onCam_drv (s : State) (c : Cam) (f : CamCtl → CamCtl) : (s.onCam c f).drv = s.drv := rfl
@[simp] theorem State.onCam_supply (s : State) (c : Cam) (f : CamCtl → CamCtl) : (s.onCam c f).supply = s.supply := rfl
@[simp] theorem State.onCam_line (s : State) (c : Cam) (f : CamCtl → CamCtl) : (s.onCam c f).line = s.line := rfl
@[simp] theorem State.onCam_mon (s : State) (c : Cam) (f : CamCtl → CamCtl) : (s.onCam c f).mon = s.mon := rfl
@[simp] theorem State.onCam_store (s : State) (c : Cam) (f : CamCtl → CamCtl) : (s.onCam c f).store = s.store := rfl
@[simp] theorem State.onCam_stored (s : State) (c : Cam) (f : CamCtl → CamCtl) : (s.onCam c f).stored = s.stored := rfl
@[simp] theorem State.onCam_service (s : State) (c : Cam) (f : CamCtl → CamCtl) : (s.onCam c f).service = s.service := rfl
@[simp] theorem State.onCam_pwr (s : State) (c : Cam) (f : CamCtl → CamCtl) : (s.onCam c f).pwr = s.pwr := rfl
@[simp] theorem State.onCam_freeDraws (s : State) (c : Cam) (f : CamCtl → CamCtl) : (s.onCam c f).freeDraws = s.freeDraws := rfl

@[simp] theorem State.onLoop_pending (s : State) (c : Cam) (f : Loop → Loop) : (s.onLoop c f).pending = s.pending := rfl
@[simp] theorem State.onLoop_now (s : State) (c : Cam) (f : Loop → Loop) : (s.onLoop c f).now = s.now := rfl
@[simp] theorem State.onLoop_straps (s : State) (c : Cam) (f : Loop → Loop) : (s.onLoop c f).straps = s.straps := rfl
@[simp] theorem State.onLoop_settings (s : State) (c : Cam) (f : Loop → Loop) : (s.onLoop c f).settings = s.settings := rfl
@[simp] theorem State.onLoop_cap (s : State) (c : Cam) (f : Loop → Loop) : (s.onLoop c f).cap = s.cap := rfl
@[simp] theorem State.onLoop_scan (s : State) (c : Cam) (f : Loop → Loop) : (s.onLoop c f).scan = s.scan := rfl
@[simp] theorem State.onLoop_trk (s : State) (c : Cam) (f : Loop → Loop) : (s.onLoop c f).trk = s.trk := rfl
@[simp] theorem State.onLoop_phm (s : State) (c : Cam) (f : Loop → Loop) : (s.onLoop c f).phm = s.phm := rfl
@[simp] theorem State.onLoop_camc (s : State) (c : Cam) (f : Loop → Loop) : (s.onLoop c f).camc = s.camc := rfl
@[simp] theorem State.onLoop_loop (s : State) (c : Cam) (f : Loop → Loop) : (s.onLoop c f).loop = s.loop.modify c f := rfl
@[simp] theorem State.onLoop_shr (s : State) (c : Cam) (f : Loop → Loop) : (s.onLoop c f).shr = s.shr := rfl
@[simp] theorem State.onLoop_drv (s : State) (c : Cam) (f : Loop → Loop) : (s.onLoop c f).drv = s.drv := rfl
@[simp] theorem State.onLoop_supply (s : State) (c : Cam) (f : Loop → Loop) : (s.onLoop c f).supply = s.supply := rfl
@[simp] theorem State.onLoop_line (s : State) (c : Cam) (f : Loop → Loop) : (s.onLoop c f).line = s.line := rfl
@[simp] theorem State.onLoop_mon (s : State) (c : Cam) (f : Loop → Loop) : (s.onLoop c f).mon = s.mon := rfl
@[simp] theorem State.onLoop_store (s : State) (c : Cam) (f : Loop → Loop) : (s.onLoop c f).store = s.store := rfl
@[simp] theorem State.onLoop_stored (s : State) (c : Cam) (f : Loop → Loop) : (s.onLoop c f).stored = s.stored := rfl
@[simp] theorem State.onLoop_service (s : State) (c : Cam) (f : Loop → Loop) : (s.onLoop c f).service = s.service := rfl
@[simp] theorem State.onLoop_pwr (s : State) (c : Cam) (f : Loop → Loop) : (s.onLoop c f).pwr = s.pwr := rfl
@[simp] theorem State.onLoop_freeDraws (s : State) (c : Cam) (f : Loop → Loop) : (s.onLoop c f).freeDraws = s.freeDraws := rfl

@[simp] theorem State.onDrv_pending (s : State) (c : Cam) (f : Drv → Drv) : (s.onDrv c f).pending = s.pending := rfl
@[simp] theorem State.onDrv_now (s : State) (c : Cam) (f : Drv → Drv) : (s.onDrv c f).now = s.now := rfl
@[simp] theorem State.onDrv_straps (s : State) (c : Cam) (f : Drv → Drv) : (s.onDrv c f).straps = s.straps := rfl
@[simp] theorem State.onDrv_settings (s : State) (c : Cam) (f : Drv → Drv) : (s.onDrv c f).settings = s.settings := rfl
@[simp] theorem State.onDrv_cap (s : State) (c : Cam) (f : Drv → Drv) : (s.onDrv c f).cap = s.cap := rfl
@[simp] theorem State.onDrv_scan (s : State) (c : Cam) (f : Drv → Drv) : (s.onDrv c f).scan = s.scan := rfl
@[simp] theorem State.onDrv_trk (s : State) (c : Cam) (f : Drv → Drv) : (s.onDrv c f).trk = s.trk := rfl
@[simp] theorem State.onDrv_phm (s : State) (c : Cam) (f : Drv → Drv) : (s.onDrv c f).phm = s.phm := rfl
@[simp] theorem State.onDrv_camc (s : State) (c : Cam) (f : Drv → Drv) : (s.onDrv c f).camc = s.camc := rfl
@[simp] theorem State.onDrv_loop (s : State) (c : Cam) (f : Drv → Drv) : (s.onDrv c f).loop = s.loop := rfl
@[simp] theorem State.onDrv_shr (s : State) (c : Cam) (f : Drv → Drv) : (s.onDrv c f).shr = s.shr := rfl
@[simp] theorem State.onDrv_drv (s : State) (c : Cam) (f : Drv → Drv) : (s.onDrv c f).drv = s.drv.modify c f := rfl
@[simp] theorem State.onDrv_supply (s : State) (c : Cam) (f : Drv → Drv) : (s.onDrv c f).supply = s.supply := rfl
@[simp] theorem State.onDrv_line (s : State) (c : Cam) (f : Drv → Drv) : (s.onDrv c f).line = s.line := rfl
@[simp] theorem State.onDrv_mon (s : State) (c : Cam) (f : Drv → Drv) : (s.onDrv c f).mon = s.mon := rfl
@[simp] theorem State.onDrv_store (s : State) (c : Cam) (f : Drv → Drv) : (s.onDrv c f).store = s.store := rfl
@[simp] theorem State.onDrv_stored (s : State) (c : Cam) (f : Drv → Drv) : (s.onDrv c f).stored = s.stored := rfl
@[simp] theorem State.onDrv_service (s : State) (c : Cam) (f : Drv → Drv) : (s.onDrv c f).service = s.service := rfl
@[simp] theorem State.onDrv_pwr (s : State) (c : Cam) (f : Drv → Drv) : (s.onDrv c f).pwr = s.pwr := rfl
@[simp] theorem State.onDrv_freeDraws (s : State) (c : Cam) (f : Drv → Drv) : (s.onDrv c f).freeDraws = s.freeDraws := rfl

@[simp] theorem State.onPhm_phmOf (s : State) (c : Cam) (f : Phm → Phm) : (s.onPhm c f).phmOf c = f (s.phmOf c) := by
  simp [State.phmOf]
theorem State.onPhm_phmOf_ne (s : State) (c d : Cam) (f : Phm → Phm) (h : d ≠ c) : (s.onPhm c f).phmOf d = s.phmOf d := by
  simp [State.phmOf, PerCam.get_modify_ne _ _ _ _ h]
@[simp] theorem State.onCam_camOf (s : State) (c : Cam) (f : CamCtl → CamCtl) : (s.onCam c f).camOf c = f (s.camOf c) := by
  simp [State.camOf]
theorem State.onCam_camOf_ne (s : State) (c d : Cam) (f : CamCtl → CamCtl) (h : d ≠ c) : (s.onCam c f).camOf d = s.camOf d := by
  simp [State.camOf, PerCam.get_modify_ne _ _ _ _ h]
@[simp] theorem State.onLoop_loopOf (s : State) (c : Cam) (f : Loop → Loop) : (s.onLoop c f).loopOf c = f (s.loopOf c) := by
  simp [State.loopOf]
theorem State.onLoop_loopOf_ne (s : State) (c d : Cam) (f : Loop → Loop) (h : d ≠ c) : (s.onLoop c f).loopOf d = s.loopOf d := by
  simp [State.loopOf, PerCam.get_modify_ne _ _ _ _ h]
@[simp] theorem State.onDrv_drvOf (s : State) (c : Cam) (f : Drv → Drv) : (s.onDrv c f).drvOf c = f (s.drvOf c) := by
  simp [State.drvOf]
theorem State.onDrv_drvOf_ne (s : State) (c d : Cam) (f : Drv → Drv) (h : d ≠ c) : (s.onDrv c f).drvOf d = s.drvOf d := by
  simp [State.drvOf, PerCam.get_modify_ne _ _ _ _ h]

end Sys2Proof.Machine
end

