-- ==== Sys2Proof/Laws/Frames.lean ====
section
/-! SUPPORT. What each shared operation leaves alone: for each, the blocks of the state it never changes, and, where it reaches the
line only by queueing or withdrawing a kind, the rest of the line. Each is a conjunction that `simp` uses part by part. -/

namespace Sys2Proof.Machine

@[simp] theorem State.queue_frame (s : State) (k : Slot) :
    (State.queue s k).pending = s.pending ∧ (State.queue s k).now = s.now ∧ (State.queue s k).straps = s.straps
    ∧ (State.queue s k).settings = s.settings ∧ (State.queue s k).cap = s.cap ∧ (State.queue s k).scan = s.scan
    ∧ (State.queue s k).trk = s.trk ∧ (State.queue s k).phm = s.phm ∧ (State.queue s k).camc = s.camc
    ∧ (State.queue s k).loop = s.loop ∧ (State.queue s k).shr = s.shr ∧ (State.queue s k).drv = s.drv
    ∧ (State.queue s k).supply = s.supply ∧ (State.queue s k).mon = s.mon ∧ (State.queue s k).store = s.store
    ∧ (State.queue s k).stored = s.stored ∧ (State.queue s k).service = s.service ∧ (State.queue s k).pwr = s.pwr
    ∧ (State.queue s k).freeDraws = s.freeDraws ∧ (State.queue s k).line.receiver = s.line.receiver
    ∧ (State.queue s k).line.sending = s.line.sending ∧ (State.queue s k).line.life = s.line.life
    ∧ (State.queue s k).line.seq = s.line.seq ∧ (State.queue s k).line.txEnabled = s.line.txEnabled
    ∧ (State.queue s k).line.bufferX = s.line.bufferX ∧ (State.queue s k).line.bufferY = s.line.bufferY
    ∧ (State.queue s k).line.lastBuffer = s.line.lastBuffer ∧ (State.queue s k).line.dataBits = s.line.dataBits
    ∧ (State.queue s k).line.lastFall = s.line.lastFall ∧ (State.queue s k).line.lastRise = s.line.lastRise
    ∧ (State.queue s k).line.othersLow = s.line.othersLow ∧ (State.queue s k).line.drive = s.line.drive
    ∧ (State.queue s k).line.aborting = s.line.aborting
    ∧ (State.queue s k).line.sampled = s.line.sampled := by
  simp [State.queue]

@[simp] theorem State.withdraw_frame (s : State) (k : Slot) :
    (State.withdraw s k).pending = s.pending ∧ (State.withdraw s k).now = s.now
    ∧ (State.withdraw s k).straps = s.straps ∧ (State.withdraw s k).settings = s.settings
    ∧ (State.withdraw s k).cap = s.cap ∧ (State.withdraw s k).scan = s.scan ∧ (State.withdraw s k).trk = s.trk
    ∧ (State.withdraw s k).phm = s.phm ∧ (State.withdraw s k).camc = s.camc ∧ (State.withdraw s k).loop = s.loop
    ∧ (State.withdraw s k).shr = s.shr ∧ (State.withdraw s k).drv = s.drv ∧ (State.withdraw s k).supply = s.supply
    ∧ (State.withdraw s k).mon = s.mon ∧ (State.withdraw s k).store = s.store ∧ (State.withdraw s k).stored = s.stored
    ∧ (State.withdraw s k).service = s.service ∧ (State.withdraw s k).pwr = s.pwr
    ∧ (State.withdraw s k).freeDraws = s.freeDraws ∧ (State.withdraw s k).line.receiver = s.line.receiver
    ∧ (State.withdraw s k).line.sending = s.line.sending ∧ (State.withdraw s k).line.life = s.line.life
    ∧ (State.withdraw s k).line.seq = s.line.seq ∧ (State.withdraw s k).line.txEnabled = s.line.txEnabled
    ∧ (State.withdraw s k).line.bufferX = s.line.bufferX ∧ (State.withdraw s k).line.bufferY = s.line.bufferY
    ∧ (State.withdraw s k).line.lastBuffer = s.line.lastBuffer ∧ (State.withdraw s k).line.dataBits = s.line.dataBits
    ∧ (State.withdraw s k).line.lastFall = s.line.lastFall ∧ (State.withdraw s k).line.lastRise = s.line.lastRise
    ∧ (State.withdraw s k).line.othersLow = s.line.othersLow ∧ (State.withdraw s k).line.drive = s.line.drive
    ∧ (State.withdraw s k).line.aborting = s.line.aborting
    ∧ (State.withdraw s k).line.sampled = s.line.sampled := by
  simp [State.withdraw]

@[simp] theorem State.stopTimerOnStopped_frame (s : State) :
    (State.stopTimerOnStopped s).pending = s.pending ∧ (State.stopTimerOnStopped s).now = s.now
    ∧ (State.stopTimerOnStopped s).straps = s.straps ∧ (State.stopTimerOnStopped s).settings = s.settings
    ∧ (State.stopTimerOnStopped s).cap = s.cap ∧ (State.stopTimerOnStopped s).scan = s.scan
    ∧ (State.stopTimerOnStopped s).trk = s.trk ∧ (State.stopTimerOnStopped s).phm = s.phm
    ∧ (State.stopTimerOnStopped s).camc = s.camc ∧ (State.stopTimerOnStopped s).loop = s.loop
    ∧ (State.stopTimerOnStopped s).shr = s.shr ∧ (State.stopTimerOnStopped s).drv = s.drv
    ∧ (State.stopTimerOnStopped s).supply = s.supply ∧ (State.stopTimerOnStopped s).line = s.line
    ∧ (State.stopTimerOnStopped s).mon = s.mon ∧ (State.stopTimerOnStopped s).store = s.store
    ∧ (State.stopTimerOnStopped s).stored = s.stored ∧ (State.stopTimerOnStopped s).service = s.service
    ∧ (State.stopTimerOnStopped s).freeDraws = s.freeDraws := by
  simp only [State.stopTimerOnStopped]
  (repeat' split) <;> simp

@[simp] theorem State.stopTimerOff_frame (s : State) :
    (State.stopTimerOff s).pending = s.pending ∧ (State.stopTimerOff s).now = s.now
    ∧ (State.stopTimerOff s).straps = s.straps ∧ (State.stopTimerOff s).settings = s.settings
    ∧ (State.stopTimerOff s).cap = s.cap ∧ (State.stopTimerOff s).scan = s.scan ∧ (State.stopTimerOff s).trk = s.trk
    ∧ (State.stopTimerOff s).phm = s.phm ∧ (State.stopTimerOff s).camc = s.camc ∧ (State.stopTimerOff s).loop = s.loop
    ∧ (State.stopTimerOff s).shr = s.shr ∧ (State.stopTimerOff s).drv = s.drv
    ∧ (State.stopTimerOff s).supply = s.supply ∧ (State.stopTimerOff s).line = s.line
    ∧ (State.stopTimerOff s).mon = s.mon ∧ (State.stopTimerOff s).store = s.store
    ∧ (State.stopTimerOff s).stored = s.stored ∧ (State.stopTimerOff s).service = s.service
    ∧ (State.stopTimerOff s).freeDraws = s.freeDraws := by
  simp [State.stopTimerOff]

@[simp] theorem State.markDirty_frame (s : State) (r : Rec) :
    (State.markDirty s r).pending = s.pending ∧ (State.markDirty s r).now = s.now
    ∧ (State.markDirty s r).straps = s.straps ∧ (State.markDirty s r).settings = s.settings
    ∧ (State.markDirty s r).cap = s.cap ∧ (State.markDirty s r).scan = s.scan ∧ (State.markDirty s r).trk = s.trk
    ∧ (State.markDirty s r).phm = s.phm ∧ (State.markDirty s r).camc = s.camc ∧ (State.markDirty s r).loop = s.loop
    ∧ (State.markDirty s r).shr = s.shr ∧ (State.markDirty s r).drv = s.drv ∧ (State.markDirty s r).supply = s.supply
    ∧ (State.markDirty s r).line = s.line ∧ (State.markDirty s r).mon = s.mon
    ∧ (State.markDirty s r).stored = s.stored ∧ (State.markDirty s r).service = s.service
    ∧ (State.markDirty s r).pwr = s.pwr ∧ (State.markDirty s r).freeDraws = s.freeDraws := by
  simp [State.markDirty]

@[simp] theorem State.refreshImage_frame (s : State) (c : Cam) :
    (State.refreshImage s c).pending = s.pending ∧ (State.refreshImage s c).now = s.now
    ∧ (State.refreshImage s c).straps = s.straps ∧ (State.refreshImage s c).settings = s.settings
    ∧ (State.refreshImage s c).cap = s.cap ∧ (State.refreshImage s c).scan = s.scan ∧ (State.refreshImage s c).trk = s.trk
    ∧ (State.refreshImage s c).phm = s.phm ∧ (State.refreshImage s c).camc = s.camc ∧ (State.refreshImage s c).loop = s.loop
    ∧ (State.refreshImage s c).shr = s.shr ∧ (State.refreshImage s c).drv = s.drv ∧ (State.refreshImage s c).supply = s.supply
    ∧ (State.refreshImage s c).line = s.line ∧ (State.refreshImage s c).mon = s.mon
    ∧ (State.refreshImage s c).stored = s.stored ∧ (State.refreshImage s c).service = s.service
    ∧ (State.refreshImage s c).pwr = s.pwr ∧ (State.refreshImage s c).freeDraws = s.freeDraws := by
  simp [State.refreshImage]

@[simp] theorem State.changeMon_frame (s : State) (f : Mon → Mon) :
    (State.changeMon s f).pending = s.pending ∧ (State.changeMon s f).now = s.now
    ∧ (State.changeMon s f).straps = s.straps ∧ (State.changeMon s f).settings = s.settings
    ∧ (State.changeMon s f).cap = s.cap ∧ (State.changeMon s f).scan = s.scan ∧ (State.changeMon s f).trk = s.trk
    ∧ (State.changeMon s f).phm = s.phm ∧ (State.changeMon s f).camc = s.camc ∧ (State.changeMon s f).loop = s.loop
    ∧ (State.changeMon s f).shr = s.shr ∧ (State.changeMon s f).drv = s.drv ∧ (State.changeMon s f).supply = s.supply
    ∧ (State.changeMon s f).store = s.store ∧ (State.changeMon s f).stored = s.stored
    ∧ (State.changeMon s f).service = s.service ∧ (State.changeMon s f).pwr = s.pwr
    ∧ (State.changeMon s f).freeDraws = s.freeDraws ∧ (State.changeMon s f).line.receiver = s.line.receiver
    ∧ (State.changeMon s f).line.sending = s.line.sending ∧ (State.changeMon s f).line.life = s.line.life
    ∧ (State.changeMon s f).line.seq = s.line.seq ∧ (State.changeMon s f).line.txEnabled = s.line.txEnabled
    ∧ (State.changeMon s f).line.bufferX = s.line.bufferX ∧ (State.changeMon s f).line.bufferY = s.line.bufferY
    ∧ (State.changeMon s f).line.lastBuffer = s.line.lastBuffer
    ∧ (State.changeMon s f).line.dataBits = s.line.dataBits ∧ (State.changeMon s f).line.lastFall = s.line.lastFall
    ∧ (State.changeMon s f).line.lastRise = s.line.lastRise
    ∧ (State.changeMon s f).line.othersLow = s.line.othersLow ∧ (State.changeMon s f).line.drive = s.line.drive
    ∧ (State.changeMon s f).line.aborting = s.line.aborting
    ∧ (State.changeMon s f).line.sampled = s.line.sampled := by
  simp only [State.changeMon]
  (repeat' split) <;> simp

@[simp] theorem State.activate_frame (s : State) (k : Cond) :
    (State.activate s k).pending = s.pending ∧ (State.activate s k).now = s.now
    ∧ (State.activate s k).straps = s.straps ∧ (State.activate s k).settings = s.settings
    ∧ (State.activate s k).cap = s.cap ∧ (State.activate s k).scan = s.scan ∧ (State.activate s k).trk = s.trk
    ∧ (State.activate s k).phm = s.phm ∧ (State.activate s k).camc = s.camc ∧ (State.activate s k).loop = s.loop
    ∧ (State.activate s k).shr = s.shr ∧ (State.activate s k).drv = s.drv ∧ (State.activate s k).supply = s.supply
    ∧ (State.activate s k).store = s.store ∧ (State.activate s k).stored = s.stored
    ∧ (State.activate s k).service = s.service ∧ (State.activate s k).pwr = s.pwr
    ∧ (State.activate s k).freeDraws = s.freeDraws ∧ (State.activate s k).line.receiver = s.line.receiver
    ∧ (State.activate s k).line.sending = s.line.sending ∧ (State.activate s k).line.life = s.line.life
    ∧ (State.activate s k).line.seq = s.line.seq ∧ (State.activate s k).line.txEnabled = s.line.txEnabled
    ∧ (State.activate s k).line.bufferX = s.line.bufferX ∧ (State.activate s k).line.bufferY = s.line.bufferY
    ∧ (State.activate s k).line.lastBuffer = s.line.lastBuffer ∧ (State.activate s k).line.dataBits = s.line.dataBits
    ∧ (State.activate s k).line.lastFall = s.line.lastFall ∧ (State.activate s k).line.lastRise = s.line.lastRise
    ∧ (State.activate s k).line.othersLow = s.line.othersLow ∧ (State.activate s k).line.drive = s.line.drive
    ∧ (State.activate s k).line.aborting = s.line.aborting
    ∧ (State.activate s k).line.sampled = s.line.sampled := by
  simp only [State.activate]
  (repeat' split) <;> simp

@[simp] theorem State.deactivate_frame (s : State) (k : Cond) :
    (State.deactivate s k).pending = s.pending ∧ (State.deactivate s k).now = s.now
    ∧ (State.deactivate s k).straps = s.straps ∧ (State.deactivate s k).settings = s.settings
    ∧ (State.deactivate s k).cap = s.cap ∧ (State.deactivate s k).scan = s.scan ∧ (State.deactivate s k).trk = s.trk
    ∧ (State.deactivate s k).phm = s.phm ∧ (State.deactivate s k).camc = s.camc ∧ (State.deactivate s k).loop = s.loop
    ∧ (State.deactivate s k).shr = s.shr ∧ (State.deactivate s k).drv = s.drv
    ∧ (State.deactivate s k).supply = s.supply ∧ (State.deactivate s k).store = s.store
    ∧ (State.deactivate s k).stored = s.stored ∧ (State.deactivate s k).service = s.service
    ∧ (State.deactivate s k).pwr = s.pwr ∧ (State.deactivate s k).freeDraws = s.freeDraws
    ∧ (State.deactivate s k).line.receiver = s.line.receiver ∧ (State.deactivate s k).line.sending = s.line.sending
    ∧ (State.deactivate s k).line.life = s.line.life ∧ (State.deactivate s k).line.seq = s.line.seq
    ∧ (State.deactivate s k).line.txEnabled = s.line.txEnabled ∧ (State.deactivate s k).line.bufferX = s.line.bufferX
    ∧ (State.deactivate s k).line.bufferY = s.line.bufferY
    ∧ (State.deactivate s k).line.lastBuffer = s.line.lastBuffer
    ∧ (State.deactivate s k).line.dataBits = s.line.dataBits ∧ (State.deactivate s k).line.lastFall = s.line.lastFall
    ∧ (State.deactivate s k).line.lastRise = s.line.lastRise
    ∧ (State.deactivate s k).line.othersLow = s.line.othersLow ∧ (State.deactivate s k).line.drive = s.line.drive
    ∧ (State.deactivate s k).line.aborting = s.line.aborting
    ∧ (State.deactivate s k).line.sampled = s.line.sampled := by
  simp only [State.deactivate]
  (repeat' split) <;> simp

@[simp] theorem State.raiseEvent_frame (s : State) (k : Cond) :
    (State.raiseEvent s k).pending = s.pending ∧ (State.raiseEvent s k).now = s.now
    ∧ (State.raiseEvent s k).straps = s.straps ∧ (State.raiseEvent s k).settings = s.settings
    ∧ (State.raiseEvent s k).cap = s.cap ∧ (State.raiseEvent s k).scan = s.scan ∧ (State.raiseEvent s k).trk = s.trk
    ∧ (State.raiseEvent s k).phm = s.phm ∧ (State.raiseEvent s k).camc = s.camc ∧ (State.raiseEvent s k).loop = s.loop
    ∧ (State.raiseEvent s k).shr = s.shr ∧ (State.raiseEvent s k).drv = s.drv
    ∧ (State.raiseEvent s k).supply = s.supply ∧ (State.raiseEvent s k).store = s.store
    ∧ (State.raiseEvent s k).stored = s.stored ∧ (State.raiseEvent s k).service = s.service
    ∧ (State.raiseEvent s k).pwr = s.pwr ∧ (State.raiseEvent s k).freeDraws = s.freeDraws
    ∧ (State.raiseEvent s k).line.receiver = s.line.receiver ∧ (State.raiseEvent s k).line.sending = s.line.sending
    ∧ (State.raiseEvent s k).line.life = s.line.life ∧ (State.raiseEvent s k).line.seq = s.line.seq
    ∧ (State.raiseEvent s k).line.txEnabled = s.line.txEnabled ∧ (State.raiseEvent s k).line.bufferX = s.line.bufferX
    ∧ (State.raiseEvent s k).line.bufferY = s.line.bufferY
    ∧ (State.raiseEvent s k).line.lastBuffer = s.line.lastBuffer
    ∧ (State.raiseEvent s k).line.dataBits = s.line.dataBits ∧ (State.raiseEvent s k).line.lastFall = s.line.lastFall
    ∧ (State.raiseEvent s k).line.lastRise = s.line.lastRise
    ∧ (State.raiseEvent s k).line.othersLow = s.line.othersLow ∧ (State.raiseEvent s k).line.drive = s.line.drive
    ∧ (State.raiseEvent s k).line.aborting = s.line.aborting
    ∧ (State.raiseEvent s k).line.sampled = s.line.sampled := by
  simp [State.raiseEvent]

@[simp] theorem State.chooseSource_frame (s : State) :
    (State.chooseSource s).pending = s.pending ∧ (State.chooseSource s).now = s.now
    ∧ (State.chooseSource s).straps = s.straps ∧ (State.chooseSource s).settings = s.settings
    ∧ (State.chooseSource s).cap = s.cap ∧ (State.chooseSource s).scan = s.scan ∧ (State.chooseSource s).trk = s.trk
    ∧ (State.chooseSource s).phm = s.phm ∧ (State.chooseSource s).camc = s.camc ∧ (State.chooseSource s).loop = s.loop
    ∧ (State.chooseSource s).drv = s.drv ∧ (State.chooseSource s).supply = s.supply
    ∧ (State.chooseSource s).line = s.line ∧ (State.chooseSource s).mon = s.mon
    ∧ (State.chooseSource s).store = s.store ∧ (State.chooseSource s).stored = s.stored
    ∧ (State.chooseSource s).service = s.service ∧ (State.chooseSource s).pwr = s.pwr
    ∧ (State.chooseSource s).freeDraws = s.freeDraws := by
  simp [State.chooseSource]

@[simp] theorem State.rechoose_frame (s : State) :
    (State.rechoose s).pending = s.pending ∧ (State.rechoose s).now = s.now ∧ (State.rechoose s).straps = s.straps
    ∧ (State.rechoose s).settings = s.settings ∧ (State.rechoose s).cap = s.cap ∧ (State.rechoose s).scan = s.scan
    ∧ (State.rechoose s).trk = s.trk ∧ (State.rechoose s).phm = s.phm ∧ (State.rechoose s).camc = s.camc
    ∧ (State.rechoose s).loop = s.loop ∧ (State.rechoose s).drv = s.drv ∧ (State.rechoose s).supply = s.supply
    ∧ (State.rechoose s).line = s.line ∧ (State.rechoose s).mon = s.mon ∧ (State.rechoose s).store = s.store
    ∧ (State.rechoose s).stored = s.stored ∧ (State.rechoose s).service = s.service ∧ (State.rechoose s).pwr = s.pwr
    ∧ (State.rechoose s).freeDraws = s.freeDraws := by
  simp only [State.rechoose]
  (repeat' split) <;> simp

@[simp] theorem State.setDemand_frame (s : State) (c : Cam) (d : Nat) :
    (State.setDemand s c d).pending = s.pending ∧ (State.setDemand s c d).now = s.now
    ∧ (State.setDemand s c d).straps = s.straps ∧ (State.setDemand s c d).settings = s.settings
    ∧ (State.setDemand s c d).cap = s.cap ∧ (State.setDemand s c d).scan = s.scan
    ∧ (State.setDemand s c d).trk = s.trk ∧ (State.setDemand s c d).phm = s.phm
    ∧ (State.setDemand s c d).camc = s.camc ∧ (State.setDemand s c d).loop = s.loop
    ∧ (State.setDemand s c d).drv = s.drv ∧ (State.setDemand s c d).supply = s.supply
    ∧ (State.setDemand s c d).mon = s.mon ∧ (State.setDemand s c d).store = s.store
    ∧ (State.setDemand s c d).stored = s.stored ∧ (State.setDemand s c d).service = s.service
    ∧ (State.setDemand s c d).pwr = s.pwr ∧ (State.setDemand s c d).freeDraws = s.freeDraws
    ∧ (State.setDemand s c d).line.receiver = s.line.receiver ∧ (State.setDemand s c d).line.sending = s.line.sending
    ∧ (State.setDemand s c d).line.life = s.line.life ∧ (State.setDemand s c d).line.seq = s.line.seq
    ∧ (State.setDemand s c d).line.txEnabled = s.line.txEnabled
    ∧ (State.setDemand s c d).line.bufferX = s.line.bufferX ∧ (State.setDemand s c d).line.bufferY = s.line.bufferY
    ∧ (State.setDemand s c d).line.lastBuffer = s.line.lastBuffer
    ∧ (State.setDemand s c d).line.dataBits = s.line.dataBits
    ∧ (State.setDemand s c d).line.lastFall = s.line.lastFall
    ∧ (State.setDemand s c d).line.lastRise = s.line.lastRise
    ∧ (State.setDemand s c d).line.othersLow = s.line.othersLow ∧ (State.setDemand s c d).line.drive = s.line.drive
    ∧ (State.setDemand s c d).line.aborting = s.line.aborting
    ∧ (State.setDemand s c d).line.sampled = s.line.sampled := by
  simp only [State.setDemand]
  (repeat' split) <;> simp

/-- CAMC only ever sets a demand to 0, which queues no SHARE (R123). -/
@[simp] theorem State.setDemand_zero_line (s : State) (c : Cam) : (s.setDemand c 0).line = s.line := by
  simp only [State.setDemand]
  split
  · rename_i h
    exfalso
    cases c <;> simp [Shr.stationDemand, PerCam.set] at h <;> omega
  · simp

@[simp] theorem State.countStarved_frame (s : State) :
    (State.countStarved s).pending = s.pending ∧ (State.countStarved s).now = s.now
    ∧ (State.countStarved s).straps = s.straps ∧ (State.countStarved s).settings = s.settings
    ∧ (State.countStarved s).cap = s.cap ∧ (State.countStarved s).scan = s.scan ∧ (State.countStarved s).trk = s.trk
    ∧ (State.countStarved s).phm = s.phm ∧ (State.countStarved s).camc = s.camc ∧ (State.countStarved s).loop = s.loop
    ∧ (State.countStarved s).drv = s.drv ∧ (State.countStarved s).supply = s.supply
    ∧ (State.countStarved s).line = s.line ∧ (State.countStarved s).mon = s.mon
    ∧ (State.countStarved s).store = s.store ∧ (State.countStarved s).stored = s.stored
    ∧ (State.countStarved s).service = s.service ∧ (State.countStarved s).pwr = s.pwr
    ∧ (State.countStarved s).freeDraws = s.freeDraws := by
  simp only [State.countStarved]
  (repeat' split) <;> simp

@[simp] theorem State.refreshPeer_frame (s : State) (f : Frame) :
    (State.refreshPeer s f).pending = s.pending ∧ (State.refreshPeer s f).now = s.now
    ∧ (State.refreshPeer s f).straps = s.straps ∧ (State.refreshPeer s f).settings = s.settings
    ∧ (State.refreshPeer s f).cap = s.cap ∧ (State.refreshPeer s f).scan = s.scan
    ∧ (State.refreshPeer s f).trk = s.trk ∧ (State.refreshPeer s f).phm = s.phm
    ∧ (State.refreshPeer s f).camc = s.camc ∧ (State.refreshPeer s f).loop = s.loop
    ∧ (State.refreshPeer s f).drv = s.drv ∧ (State.refreshPeer s f).supply = s.supply
    ∧ (State.refreshPeer s f).line = s.line ∧ (State.refreshPeer s f).mon = s.mon
    ∧ (State.refreshPeer s f).store = s.store ∧ (State.refreshPeer s f).stored = s.stored
    ∧ (State.refreshPeer s f).service = s.service ∧ (State.refreshPeer s f).pwr = s.pwr
    ∧ (State.refreshPeer s f).freeDraws = s.freeDraws := by
  simp only [State.refreshPeer]
  (repeat' split) <;> simp

@[simp] theorem State.fileShare_frame (s : State) (r : Received) :
    (State.fileShare s r).pending = s.pending ∧ (State.fileShare s r).now = s.now
    ∧ (State.fileShare s r).straps = s.straps ∧ (State.fileShare s r).settings = s.settings
    ∧ (State.fileShare s r).cap = s.cap ∧ (State.fileShare s r).scan = s.scan ∧ (State.fileShare s r).trk = s.trk
    ∧ (State.fileShare s r).phm = s.phm ∧ (State.fileShare s r).camc = s.camc ∧ (State.fileShare s r).loop = s.loop
    ∧ (State.fileShare s r).drv = s.drv ∧ (State.fileShare s r).supply = s.supply
    ∧ (State.fileShare s r).line = s.line ∧ (State.fileShare s r).mon = s.mon ∧ (State.fileShare s r).store = s.store
    ∧ (State.fileShare s r).stored = s.stored ∧ (State.fileShare s r).service = s.service
    ∧ (State.fileShare s r).pwr = s.pwr ∧ (State.fileShare s r).freeDraws = s.freeDraws := by
  simp [State.fileShare]

@[simp] theorem State.fileReport_frame (s : State) (n : Nat) (report : Half × ReportSource) :
    (State.fileReport s n report).pending = s.pending ∧ (State.fileReport s n report).now = s.now
    ∧ (State.fileReport s n report).straps = s.straps ∧ (State.fileReport s n report).settings = s.settings
    ∧ (State.fileReport s n report).cap = s.cap ∧ (State.fileReport s n report).scan = s.scan
    ∧ (State.fileReport s n report).trk = s.trk ∧ (State.fileReport s n report).phm = s.phm
    ∧ (State.fileReport s n report).camc = s.camc ∧ (State.fileReport s n report).loop = s.loop
    ∧ (State.fileReport s n report).drv = s.drv ∧ (State.fileReport s n report).supply = s.supply
    ∧ (State.fileReport s n report).line = s.line ∧ (State.fileReport s n report).mon = s.mon
    ∧ (State.fileReport s n report).store = s.store ∧ (State.fileReport s n report).stored = s.stored
    ∧ (State.fileReport s n report).service = s.service ∧ (State.fileReport s n report).pwr = s.pwr
    ∧ (State.fileReport s n report).freeDraws = s.freeDraws := by
  simp [State.fileReport]

@[simp] theorem State.shareTimer_frame (s : State) :
    (State.shareTimer s).pending = s.pending ∧ (State.shareTimer s).now = s.now
    ∧ (State.shareTimer s).straps = s.straps ∧ (State.shareTimer s).settings = s.settings
    ∧ (State.shareTimer s).cap = s.cap ∧ (State.shareTimer s).scan = s.scan ∧ (State.shareTimer s).trk = s.trk
    ∧ (State.shareTimer s).phm = s.phm ∧ (State.shareTimer s).camc = s.camc ∧ (State.shareTimer s).loop = s.loop
    ∧ (State.shareTimer s).drv = s.drv ∧ (State.shareTimer s).supply = s.supply ∧ (State.shareTimer s).mon = s.mon
    ∧ (State.shareTimer s).store = s.store ∧ (State.shareTimer s).stored = s.stored
    ∧ (State.shareTimer s).service = s.service ∧ (State.shareTimer s).pwr = s.pwr
    ∧ (State.shareTimer s).freeDraws = s.freeDraws ∧ (State.shareTimer s).line.receiver = s.line.receiver
    ∧ (State.shareTimer s).line.sending = s.line.sending ∧ (State.shareTimer s).line.life = s.line.life
    ∧ (State.shareTimer s).line.seq = s.line.seq ∧ (State.shareTimer s).line.txEnabled = s.line.txEnabled
    ∧ (State.shareTimer s).line.bufferX = s.line.bufferX ∧ (State.shareTimer s).line.bufferY = s.line.bufferY
    ∧ (State.shareTimer s).line.lastBuffer = s.line.lastBuffer ∧ (State.shareTimer s).line.dataBits = s.line.dataBits
    ∧ (State.shareTimer s).line.lastFall = s.line.lastFall ∧ (State.shareTimer s).line.lastRise = s.line.lastRise
    ∧ (State.shareTimer s).line.othersLow = s.line.othersLow ∧ (State.shareTimer s).line.drive = s.line.drive
    ∧ (State.shareTimer s).line.aborting = s.line.aborting
    ∧ (State.shareTimer s).line.sampled = s.line.sampled := by
  simp [State.shareTimer]

@[simp] theorem State.staleExpiry_frame (s : State) (n : Nat) :
    (State.staleExpiry s n).pending = s.pending ∧ (State.staleExpiry s n).now = s.now
    ∧ (State.staleExpiry s n).straps = s.straps ∧ (State.staleExpiry s n).settings = s.settings
    ∧ (State.staleExpiry s n).cap = s.cap ∧ (State.staleExpiry s n).scan = s.scan
    ∧ (State.staleExpiry s n).trk = s.trk ∧ (State.staleExpiry s n).phm = s.phm
    ∧ (State.staleExpiry s n).camc = s.camc ∧ (State.staleExpiry s n).loop = s.loop
    ∧ (State.staleExpiry s n).drv = s.drv ∧ (State.staleExpiry s n).supply = s.supply
    ∧ (State.staleExpiry s n).line = s.line ∧ (State.staleExpiry s n).mon = s.mon
    ∧ (State.staleExpiry s n).store = s.store ∧ (State.staleExpiry s n).stored = s.stored
    ∧ (State.staleExpiry s n).service = s.service ∧ (State.staleExpiry s n).pwr = s.pwr
    ∧ (State.staleExpiry s n).freeDraws = s.freeDraws := by
  simp [State.staleExpiry]

@[simp] theorem State.deleteExpiry_frame (s : State) (n : Nat) :
    (State.deleteExpiry s n).pending = s.pending ∧ (State.deleteExpiry s n).now = s.now
    ∧ (State.deleteExpiry s n).straps = s.straps ∧ (State.deleteExpiry s n).settings = s.settings
    ∧ (State.deleteExpiry s n).cap = s.cap ∧ (State.deleteExpiry s n).scan = s.scan
    ∧ (State.deleteExpiry s n).trk = s.trk ∧ (State.deleteExpiry s n).phm = s.phm
    ∧ (State.deleteExpiry s n).camc = s.camc ∧ (State.deleteExpiry s n).loop = s.loop
    ∧ (State.deleteExpiry s n).drv = s.drv ∧ (State.deleteExpiry s n).supply = s.supply
    ∧ (State.deleteExpiry s n).store = s.store ∧ (State.deleteExpiry s n).stored = s.stored
    ∧ (State.deleteExpiry s n).service = s.service ∧ (State.deleteExpiry s n).pwr = s.pwr
    ∧ (State.deleteExpiry s n).freeDraws = s.freeDraws ∧ (State.deleteExpiry s n).line.receiver = s.line.receiver
    ∧ (State.deleteExpiry s n).line.sending = s.line.sending ∧ (State.deleteExpiry s n).line.life = s.line.life
    ∧ (State.deleteExpiry s n).line.seq = s.line.seq ∧ (State.deleteExpiry s n).line.txEnabled = s.line.txEnabled
    ∧ (State.deleteExpiry s n).line.bufferX = s.line.bufferX ∧ (State.deleteExpiry s n).line.bufferY = s.line.bufferY
    ∧ (State.deleteExpiry s n).line.lastBuffer = s.line.lastBuffer
    ∧ (State.deleteExpiry s n).line.dataBits = s.line.dataBits
    ∧ (State.deleteExpiry s n).line.lastFall = s.line.lastFall
    ∧ (State.deleteExpiry s n).line.lastRise = s.line.lastRise
    ∧ (State.deleteExpiry s n).line.othersLow = s.line.othersLow ∧ (State.deleteExpiry s n).line.drive = s.line.drive
    ∧ (State.deleteExpiry s n).line.aborting = s.line.aborting
    ∧ (State.deleteExpiry s n).line.sampled = s.line.sampled := by
  simp only [State.deleteExpiry]
  (repeat' split) <;> simp

@[simp] theorem State.evaluateRun_frame (s : State) (c : Cam) :
    (State.evaluateRun s c).pending = s.pending ∧ (State.evaluateRun s c).now = s.now
    ∧ (State.evaluateRun s c).straps = s.straps ∧ (State.evaluateRun s c).settings = s.settings
    ∧ (State.evaluateRun s c).cap = s.cap ∧ (State.evaluateRun s c).scan = s.scan
    ∧ (State.evaluateRun s c).trk = s.trk ∧ (State.evaluateRun s c).camc = s.camc
    ∧ (State.evaluateRun s c).loop = s.loop ∧ (State.evaluateRun s c).shr = s.shr
    ∧ (State.evaluateRun s c).drv = s.drv ∧ (State.evaluateRun s c).supply = s.supply
    ∧ (State.evaluateRun s c).stored = s.stored ∧ (State.evaluateRun s c).service = s.service
    ∧ (State.evaluateRun s c).pwr = s.pwr ∧ (State.evaluateRun s c).freeDraws = s.freeDraws
    ∧ (State.evaluateRun s c).line.receiver = s.line.receiver ∧ (State.evaluateRun s c).line.sending = s.line.sending
    ∧ (State.evaluateRun s c).line.life = s.line.life ∧ (State.evaluateRun s c).line.seq = s.line.seq
    ∧ (State.evaluateRun s c).line.txEnabled = s.line.txEnabled
    ∧ (State.evaluateRun s c).line.bufferX = s.line.bufferX ∧ (State.evaluateRun s c).line.bufferY = s.line.bufferY
    ∧ (State.evaluateRun s c).line.lastBuffer = s.line.lastBuffer
    ∧ (State.evaluateRun s c).line.dataBits = s.line.dataBits
    ∧ (State.evaluateRun s c).line.lastFall = s.line.lastFall
    ∧ (State.evaluateRun s c).line.lastRise = s.line.lastRise
    ∧ (State.evaluateRun s c).line.othersLow = s.line.othersLow ∧ (State.evaluateRun s c).line.drive = s.line.drive
    ∧ (State.evaluateRun s c).line.aborting = s.line.aborting
    ∧ (State.evaluateRun s c).line.sampled = s.line.sampled := by
  simp only [State.evaluateRun]
  (repeat' split) <;> simp

@[simp] theorem State.collect_frame (s : State) (c : Cam) (raw : Int) :
    (State.collect s c raw).pending = s.pending ∧ (State.collect s c raw).now = s.now
    ∧ (State.collect s c raw).straps = s.straps ∧ (State.collect s c raw).settings = s.settings
    ∧ (State.collect s c raw).cap = s.cap ∧ (State.collect s c raw).scan = s.scan
    ∧ (State.collect s c raw).trk = s.trk ∧ (State.collect s c raw).camc = s.camc
    ∧ (State.collect s c raw).loop = s.loop ∧ (State.collect s c raw).shr = s.shr
    ∧ (State.collect s c raw).drv = s.drv ∧ (State.collect s c raw).supply = s.supply
    ∧ (State.collect s c raw).stored = s.stored ∧ (State.collect s c raw).service = s.service
    ∧ (State.collect s c raw).pwr = s.pwr ∧ (State.collect s c raw).freeDraws = s.freeDraws
    ∧ (State.collect s c raw).line.receiver = s.line.receiver ∧ (State.collect s c raw).line.sending = s.line.sending
    ∧ (State.collect s c raw).line.life = s.line.life ∧ (State.collect s c raw).line.seq = s.line.seq
    ∧ (State.collect s c raw).line.txEnabled = s.line.txEnabled
    ∧ (State.collect s c raw).line.bufferX = s.line.bufferX ∧ (State.collect s c raw).line.bufferY = s.line.bufferY
    ∧ (State.collect s c raw).line.lastBuffer = s.line.lastBuffer
    ∧ (State.collect s c raw).line.dataBits = s.line.dataBits
    ∧ (State.collect s c raw).line.lastFall = s.line.lastFall
    ∧ (State.collect s c raw).line.lastRise = s.line.lastRise
    ∧ (State.collect s c raw).line.othersLow = s.line.othersLow ∧ (State.collect s c raw).line.drive = s.line.drive
    ∧ (State.collect s c raw).line.aborting = s.line.aborting
    ∧ (State.collect s c raw).line.sampled = s.line.sampled := by
  simp only [State.collect]
  (repeat' split) <;> simp

@[simp] theorem State.handTemperature_frame (s : State) :
    (State.handTemperature s).pending = s.pending ∧ (State.handTemperature s).now = s.now
    ∧ (State.handTemperature s).straps = s.straps ∧ (State.handTemperature s).settings = s.settings
    ∧ (State.handTemperature s).cap = s.cap ∧ (State.handTemperature s).scan = s.scan
    ∧ (State.handTemperature s).trk = s.trk ∧ (State.handTemperature s).phm = s.phm
    ∧ (State.handTemperature s).loop = s.loop ∧ (State.handTemperature s).shr = s.shr
    ∧ (State.handTemperature s).drv = s.drv ∧ (State.handTemperature s).supply = s.supply
    ∧ (State.handTemperature s).line = s.line ∧ (State.handTemperature s).mon = s.mon
    ∧ (State.handTemperature s).store = s.store ∧ (State.handTemperature s).stored = s.stored
    ∧ (State.handTemperature s).service = s.service ∧ (State.handTemperature s).pwr = s.pwr
    ∧ (State.handTemperature s).freeDraws = s.freeDraws := by
  simp [State.handTemperature]

@[simp] theorem State.enterCam_frame (s : State) (c : Cam) (new : CamState) (parkTime : Time) :
    (State.enterCam s c new parkTime).pending = s.pending ∧ (State.enterCam s c new parkTime).now = s.now
    ∧ (State.enterCam s c new parkTime).straps = s.straps ∧ (State.enterCam s c new parkTime).settings = s.settings
    ∧ (State.enterCam s c new parkTime).cap = s.cap ∧ (State.enterCam s c new parkTime).scan = s.scan
    ∧ (State.enterCam s c new parkTime).trk = s.trk ∧ (State.enterCam s c new parkTime).supply = s.supply
    ∧ (State.enterCam s c new parkTime).line = s.line ∧ (State.enterCam s c new parkTime).mon = s.mon
    ∧ (State.enterCam s c new parkTime).store = s.store ∧ (State.enterCam s c new parkTime).stored = s.stored
    ∧ (State.enterCam s c new parkTime).service = s.service ∧ (State.enterCam s c new parkTime).pwr = s.pwr
    ∧ (State.enterCam s c new parkTime).freeDraws = s.freeDraws := by
  simp only [State.enterCam]
  (repeat' split) <;> simp

@[simp] theorem State.camToOff_frame (c : Cam) (s : State) :
    (State.camToOff c s).pending = s.pending ∧ (State.camToOff c s).now = s.now
    ∧ (State.camToOff c s).straps = s.straps ∧ (State.camToOff c s).settings = s.settings
    ∧ (State.camToOff c s).cap = s.cap ∧ (State.camToOff c s).scan = s.scan ∧ (State.camToOff c s).trk = s.trk
    ∧ (State.camToOff c s).supply = s.supply ∧ (State.camToOff c s).line = s.line ∧ (State.camToOff c s).mon = s.mon
    ∧ (State.camToOff c s).store = s.store ∧ (State.camToOff c s).stored = s.stored
    ∧ (State.camToOff c s).service = s.service ∧ (State.camToOff c s).pwr = s.pwr
    ∧ (State.camToOff c s).freeDraws = s.freeDraws := by
  simp only [State.camToOff]
  (repeat' split) <;> simp

@[simp] theorem State.camToFaulted_frame (c : Cam) (s : State) :
    (State.camToFaulted c s).pending = s.pending ∧ (State.camToFaulted c s).now = s.now
    ∧ (State.camToFaulted c s).straps = s.straps ∧ (State.camToFaulted c s).settings = s.settings
    ∧ (State.camToFaulted c s).cap = s.cap ∧ (State.camToFaulted c s).scan = s.scan
    ∧ (State.camToFaulted c s).trk = s.trk ∧ (State.camToFaulted c s).supply = s.supply
    ∧ (State.camToFaulted c s).line = s.line ∧ (State.camToFaulted c s).mon = s.mon
    ∧ (State.camToFaulted c s).store = s.store ∧ (State.camToFaulted c s).stored = s.stored
    ∧ (State.camToFaulted c s).service = s.service ∧ (State.camToFaulted c s).pwr = s.pwr
    ∧ (State.camToFaulted c s).freeDraws = s.freeDraws := by
  simp only [State.camToFaulted]
  (repeat' split) <;> simp

@[simp] theorem State.raiseLatched_frame (s : State) (c : Cam) (k : Cond) :
    (State.raiseLatched s c k).pending = s.pending ∧ (State.raiseLatched s c k).now = s.now
    ∧ (State.raiseLatched s c k).straps = s.straps ∧ (State.raiseLatched s c k).settings = s.settings
    ∧ (State.raiseLatched s c k).cap = s.cap ∧ (State.raiseLatched s c k).scan = s.scan
    ∧ (State.raiseLatched s c k).trk = s.trk ∧ (State.raiseLatched s c k).supply = s.supply
    ∧ (State.raiseLatched s c k).store = s.store ∧ (State.raiseLatched s c k).stored = s.stored
    ∧ (State.raiseLatched s c k).service = s.service ∧ (State.raiseLatched s c k).pwr = s.pwr
    ∧ (State.raiseLatched s c k).freeDraws = s.freeDraws ∧ (State.raiseLatched s c k).line.receiver = s.line.receiver
    ∧ (State.raiseLatched s c k).line.sending = s.line.sending ∧ (State.raiseLatched s c k).line.life = s.line.life
    ∧ (State.raiseLatched s c k).line.seq = s.line.seq ∧ (State.raiseLatched s c k).line.txEnabled = s.line.txEnabled
    ∧ (State.raiseLatched s c k).line.bufferX = s.line.bufferX
    ∧ (State.raiseLatched s c k).line.bufferY = s.line.bufferY
    ∧ (State.raiseLatched s c k).line.lastBuffer = s.line.lastBuffer
    ∧ (State.raiseLatched s c k).line.dataBits = s.line.dataBits
    ∧ (State.raiseLatched s c k).line.lastFall = s.line.lastFall
    ∧ (State.raiseLatched s c k).line.lastRise = s.line.lastRise
    ∧ (State.raiseLatched s c k).line.othersLow = s.line.othersLow ∧ (State.raiseLatched s c k).line.drive = s.line.drive
    ∧ (State.raiseLatched s c k).line.aborting = s.line.aborting
    ∧ (State.raiseLatched s c k).line.sampled = s.line.sampled := by
  simp only [State.raiseLatched]
  (repeat' split) <;> simp

@[simp] theorem State.judgePark_frame (s : State) (c : Cam) (m : Measurement) :
    (State.judgePark s c m).pending = s.pending ∧ (State.judgePark s c m).now = s.now
    ∧ (State.judgePark s c m).straps = s.straps ∧ (State.judgePark s c m).settings = s.settings
    ∧ (State.judgePark s c m).cap = s.cap ∧ (State.judgePark s c m).scan = s.scan
    ∧ (State.judgePark s c m).trk = s.trk ∧ (State.judgePark s c m).supply = s.supply
    ∧ (State.judgePark s c m).line = s.line ∧ (State.judgePark s c m).mon = s.mon
    ∧ (State.judgePark s c m).store = s.store ∧ (State.judgePark s c m).stored = s.stored
    ∧ (State.judgePark s c m).service = s.service ∧ (State.judgePark s c m).pwr = s.pwr
    ∧ (State.judgePark s c m).freeDraws = s.freeDraws := by
  simp only [State.judgePark]
  (repeat' split) <;> simp

@[simp] theorem State.review_frame (s : State) (c : Cam) (at_ : Option Measurement) :
    (State.review s c at_).pending = s.pending ∧ (State.review s c at_).now = s.now
    ∧ (State.review s c at_).straps = s.straps ∧ (State.review s c at_).settings = s.settings
    ∧ (State.review s c at_).cap = s.cap ∧ (State.review s c at_).scan = s.scan ∧ (State.review s c at_).trk = s.trk
    ∧ (State.review s c at_).supply = s.supply ∧ (State.review s c at_).line = s.line
    ∧ (State.review s c at_).mon = s.mon ∧ (State.review s c at_).store = s.store
    ∧ (State.review s c at_).stored = s.stored ∧ (State.review s c at_).service = s.service
    ∧ (State.review s c at_).pwr = s.pwr ∧ (State.review s c at_).freeDraws = s.freeDraws := by
  simp only [State.review]
  (repeat' split) <;> simp

@[simp] theorem State.reviewBoth_frame (s : State) :
    (State.reviewBoth s).pending = s.pending ∧ (State.reviewBoth s).now = s.now
    ∧ (State.reviewBoth s).straps = s.straps ∧ (State.reviewBoth s).settings = s.settings
    ∧ (State.reviewBoth s).cap = s.cap ∧ (State.reviewBoth s).scan = s.scan ∧ (State.reviewBoth s).trk = s.trk
    ∧ (State.reviewBoth s).supply = s.supply ∧ (State.reviewBoth s).line = s.line ∧ (State.reviewBoth s).mon = s.mon
    ∧ (State.reviewBoth s).store = s.store ∧ (State.reviewBoth s).stored = s.stored
    ∧ (State.reviewBoth s).service = s.service ∧ (State.reviewBoth s).pwr = s.pwr
    ∧ (State.reviewBoth s).freeDraws = s.freeDraws := by
  simp [State.reviewBoth]

@[simp] theorem State.stepRamp_frame (s : State) (c : Cam) (dtq : Nat) :
    (State.stepRamp s c dtq).pending = s.pending ∧ (State.stepRamp s c dtq).now = s.now
    ∧ (State.stepRamp s c dtq).straps = s.straps ∧ (State.stepRamp s c dtq).settings = s.settings
    ∧ (State.stepRamp s c dtq).cap = s.cap ∧ (State.stepRamp s c dtq).scan = s.scan
    ∧ (State.stepRamp s c dtq).trk = s.trk ∧ (State.stepRamp s c dtq).phm = s.phm
    ∧ (State.stepRamp s c dtq).loop = s.loop ∧ (State.stepRamp s c dtq).shr = s.shr
    ∧ (State.stepRamp s c dtq).drv = s.drv ∧ (State.stepRamp s c dtq).supply = s.supply
    ∧ (State.stepRamp s c dtq).line = s.line ∧ (State.stepRamp s c dtq).mon = s.mon
    ∧ (State.stepRamp s c dtq).store = s.store ∧ (State.stepRamp s c dtq).stored = s.stored
    ∧ (State.stepRamp s c dtq).service = s.service ∧ (State.stepRamp s c dtq).pwr = s.pwr
    ∧ (State.stepRamp s c dtq).freeDraws = s.freeDraws := by
  simp [State.stepRamp]

@[simp] theorem State.timeStuck_frame (s : State) (c : Cam) (e : Int) (dtq : Nat) (met : Bool) :
    (State.timeStuck s c e dtq met).pending = s.pending ∧ (State.timeStuck s c e dtq met).now = s.now
    ∧ (State.timeStuck s c e dtq met).straps = s.straps ∧ (State.timeStuck s c e dtq met).settings = s.settings
    ∧ (State.timeStuck s c e dtq met).cap = s.cap ∧ (State.timeStuck s c e dtq met).scan = s.scan
    ∧ (State.timeStuck s c e dtq met).trk = s.trk ∧ (State.timeStuck s c e dtq met).supply = s.supply
    ∧ (State.timeStuck s c e dtq met).store = s.store ∧ (State.timeStuck s c e dtq met).stored = s.stored
    ∧ (State.timeStuck s c e dtq met).service = s.service ∧ (State.timeStuck s c e dtq met).pwr = s.pwr
    ∧ (State.timeStuck s c e dtq met).freeDraws = s.freeDraws
    ∧ (State.timeStuck s c e dtq met).line.receiver = s.line.receiver
    ∧ (State.timeStuck s c e dtq met).line.sending = s.line.sending
    ∧ (State.timeStuck s c e dtq met).line.life = s.line.life ∧ (State.timeStuck s c e dtq met).line.seq = s.line.seq
    ∧ (State.timeStuck s c e dtq met).line.txEnabled = s.line.txEnabled
    ∧ (State.timeStuck s c e dtq met).line.bufferX = s.line.bufferX
    ∧ (State.timeStuck s c e dtq met).line.bufferY = s.line.bufferY
    ∧ (State.timeStuck s c e dtq met).line.lastBuffer = s.line.lastBuffer
    ∧ (State.timeStuck s c e dtq met).line.dataBits = s.line.dataBits
    ∧ (State.timeStuck s c e dtq met).line.lastFall = s.line.lastFall
    ∧ (State.timeStuck s c e dtq met).line.lastRise = s.line.lastRise
    ∧ (State.timeStuck s c e dtq met).line.othersLow = s.line.othersLow
    ∧ (State.timeStuck s c e dtq met).line.drive = s.line.drive
    ∧ (State.timeStuck s c e dtq met).line.aborting = s.line.aborting
    ∧ (State.timeStuck s c e dtq met).line.sampled = s.line.sampled := by
  simp only [State.timeStuck]
  (repeat' split) <;> simp

@[simp] theorem State.freezeTargets_frame (s : State) :
    (State.freezeTargets s).pending = s.pending ∧ (State.freezeTargets s).now = s.now
    ∧ (State.freezeTargets s).straps = s.straps ∧ (State.freezeTargets s).settings = s.settings
    ∧ (State.freezeTargets s).cap = s.cap ∧ (State.freezeTargets s).scan = s.scan
    ∧ (State.freezeTargets s).trk = s.trk ∧ (State.freezeTargets s).phm = s.phm
    ∧ (State.freezeTargets s).loop = s.loop ∧ (State.freezeTargets s).shr = s.shr
    ∧ (State.freezeTargets s).drv = s.drv ∧ (State.freezeTargets s).supply = s.supply
    ∧ (State.freezeTargets s).line = s.line ∧ (State.freezeTargets s).mon = s.mon
    ∧ (State.freezeTargets s).store = s.store ∧ (State.freezeTargets s).stored = s.stored
    ∧ (State.freezeTargets s).service = s.service ∧ (State.freezeTargets s).pwr = s.pwr
    ∧ (State.freezeTargets s).freeDraws = s.freeDraws := by
  simp [State.freezeTargets]

@[simp] theorem State.toLossPark_frame (s : State) :
    (State.toLossPark s).pending = s.pending ∧ (State.toLossPark s).now = s.now
    ∧ (State.toLossPark s).straps = s.straps ∧ (State.toLossPark s).settings = s.settings
    ∧ (State.toLossPark s).cap = s.cap ∧ (State.toLossPark s).scan = s.scan ∧ (State.toLossPark s).trk = s.trk
    ∧ (State.toLossPark s).supply = s.supply ∧ (State.toLossPark s).line = s.line ∧ (State.toLossPark s).mon = s.mon
    ∧ (State.toLossPark s).store = s.store ∧ (State.toLossPark s).stored = s.stored
    ∧ (State.toLossPark s).service = s.service ∧ (State.toLossPark s).pwr = s.pwr
    ∧ (State.toLossPark s).freeDraws = s.freeDraws := by
  simp [State.toLossPark]

@[simp] theorem State.toLossHold_frame (s : State) :
    (State.toLossHold s).pending = s.pending ∧ (State.toLossHold s).now = s.now
    ∧ (State.toLossHold s).straps = s.straps ∧ (State.toLossHold s).settings = s.settings
    ∧ (State.toLossHold s).cap = s.cap ∧ (State.toLossHold s).scan = s.scan ∧ (State.toLossHold s).trk = s.trk
    ∧ (State.toLossHold s).supply = s.supply ∧ (State.toLossHold s).line = s.line ∧ (State.toLossHold s).mon = s.mon
    ∧ (State.toLossHold s).store = s.store ∧ (State.toLossHold s).stored = s.stored
    ∧ (State.toLossHold s).service = s.service ∧ (State.toLossHold s).pwr = s.pwr
    ∧ (State.toLossHold s).freeDraws = s.freeDraws := by
  simp [State.toLossHold]

@[simp] theorem State.demandExpiry_frame (s : State) :
    (State.demandExpiry s).pending = s.pending ∧ (State.demandExpiry s).now = s.now
    ∧ (State.demandExpiry s).straps = s.straps ∧ (State.demandExpiry s).settings = s.settings
    ∧ (State.demandExpiry s).cap = s.cap ∧ (State.demandExpiry s).scan = s.scan ∧ (State.demandExpiry s).trk = s.trk
    ∧ (State.demandExpiry s).supply = s.supply ∧ (State.demandExpiry s).store = s.store
    ∧ (State.demandExpiry s).stored = s.stored ∧ (State.demandExpiry s).service = s.service
    ∧ (State.demandExpiry s).pwr = s.pwr ∧ (State.demandExpiry s).freeDraws = s.freeDraws
    ∧ (State.demandExpiry s).line.receiver = s.line.receiver ∧ (State.demandExpiry s).line.sending = s.line.sending
    ∧ (State.demandExpiry s).line.life = s.line.life ∧ (State.demandExpiry s).line.seq = s.line.seq
    ∧ (State.demandExpiry s).line.txEnabled = s.line.txEnabled ∧ (State.demandExpiry s).line.bufferX = s.line.bufferX
    ∧ (State.demandExpiry s).line.bufferY = s.line.bufferY
    ∧ (State.demandExpiry s).line.lastBuffer = s.line.lastBuffer
    ∧ (State.demandExpiry s).line.dataBits = s.line.dataBits ∧ (State.demandExpiry s).line.lastFall = s.line.lastFall
    ∧ (State.demandExpiry s).line.lastRise = s.line.lastRise
    ∧ (State.demandExpiry s).line.othersLow = s.line.othersLow ∧ (State.demandExpiry s).line.drive = s.line.drive
    ∧ (State.demandExpiry s).line.aborting = s.line.aborting
    ∧ (State.demandExpiry s).line.sampled = s.line.sampled := by
  simp only [State.demandExpiry]
  (repeat' split) <;> simp

@[simp] theorem State.applyEntry_frame (s : State) (d : DemandEntry) :
    (State.applyEntry s d).pending = s.pending ∧ (State.applyEntry s d).now = s.now
    ∧ (State.applyEntry s d).straps = s.straps ∧ (State.applyEntry s d).settings = s.settings
    ∧ (State.applyEntry s d).cap = s.cap ∧ (State.applyEntry s d).scan = s.scan ∧ (State.applyEntry s d).trk = s.trk
    ∧ (State.applyEntry s d).phm = s.phm ∧ (State.applyEntry s d).loop = s.loop ∧ (State.applyEntry s d).shr = s.shr
    ∧ (State.applyEntry s d).drv = s.drv ∧ (State.applyEntry s d).supply = s.supply
    ∧ (State.applyEntry s d).line = s.line ∧ (State.applyEntry s d).mon = s.mon
    ∧ (State.applyEntry s d).store = s.store ∧ (State.applyEntry s d).stored = s.stored
    ∧ (State.applyEntry s d).service = s.service ∧ (State.applyEntry s d).pwr = s.pwr
    ∧ (State.applyEntry s d).freeDraws = s.freeDraws := by
  simp only [State.applyEntry]
  (repeat' split) <;> simp

@[simp] theorem State.applyEntries_frame (s : State) (l : List DemandEntry) :
    (l.foldl State.applyEntry s).pending = s.pending ∧ (l.foldl State.applyEntry s).now = s.now
    ∧ (l.foldl State.applyEntry s).straps = s.straps ∧ (l.foldl State.applyEntry s).settings = s.settings
    ∧ (l.foldl State.applyEntry s).cap = s.cap ∧ (l.foldl State.applyEntry s).scan = s.scan
    ∧ (l.foldl State.applyEntry s).trk = s.trk ∧ (l.foldl State.applyEntry s).phm = s.phm
    ∧ (l.foldl State.applyEntry s).loop = s.loop ∧ (l.foldl State.applyEntry s).shr = s.shr
    ∧ (l.foldl State.applyEntry s).drv = s.drv ∧ (l.foldl State.applyEntry s).supply = s.supply
    ∧ (l.foldl State.applyEntry s).line = s.line ∧ (l.foldl State.applyEntry s).mon = s.mon
    ∧ (l.foldl State.applyEntry s).store = s.store ∧ (l.foldl State.applyEntry s).stored = s.stored
    ∧ (l.foldl State.applyEntry s).service = s.service ∧ (l.foldl State.applyEntry s).pwr = s.pwr
    ∧ (l.foldl State.applyEntry s).freeDraws = s.freeDraws := by
  induction l generalizing s with
  | nil => simp
  | cons d rest ih => simpa using ih (s.applyEntry d)

@[simp] theorem State.acceptDemand_frame (s : State) (payload : List Byte) :
    (State.acceptDemand s payload).pending = s.pending ∧ (State.acceptDemand s payload).now = s.now
    ∧ (State.acceptDemand s payload).straps = s.straps ∧ (State.acceptDemand s payload).settings = s.settings
    ∧ (State.acceptDemand s payload).cap = s.cap ∧ (State.acceptDemand s payload).scan = s.scan
    ∧ (State.acceptDemand s payload).trk = s.trk ∧ (State.acceptDemand s payload).supply = s.supply
    ∧ (State.acceptDemand s payload).store = s.store ∧ (State.acceptDemand s payload).stored = s.stored
    ∧ (State.acceptDemand s payload).service = s.service ∧ (State.acceptDemand s payload).pwr = s.pwr
    ∧ (State.acceptDemand s payload).freeDraws = s.freeDraws
    ∧ (State.acceptDemand s payload).line.receiver = s.line.receiver
    ∧ (State.acceptDemand s payload).line.sending = s.line.sending
    ∧ (State.acceptDemand s payload).line.life = s.line.life ∧ (State.acceptDemand s payload).line.seq = s.line.seq
    ∧ (State.acceptDemand s payload).line.txEnabled = s.line.txEnabled
    ∧ (State.acceptDemand s payload).line.bufferX = s.line.bufferX
    ∧ (State.acceptDemand s payload).line.bufferY = s.line.bufferY
    ∧ (State.acceptDemand s payload).line.lastBuffer = s.line.lastBuffer
    ∧ (State.acceptDemand s payload).line.dataBits = s.line.dataBits
    ∧ (State.acceptDemand s payload).line.lastFall = s.line.lastFall
    ∧ (State.acceptDemand s payload).line.lastRise = s.line.lastRise
    ∧ (State.acceptDemand s payload).line.othersLow = s.line.othersLow
    ∧ (State.acceptDemand s payload).line.drive = s.line.drive
    ∧ (State.acceptDemand s payload).line.aborting = s.line.aborting
    ∧ (State.acceptDemand s payload).line.sampled = s.line.sampled := by
  simp only [State.acceptDemand]
  (repeat' split) <;> simp

@[simp] theorem State.holdStep_frame (s : State) (c : Cam) :
    (State.holdStep s c).pending = s.pending ∧ (State.holdStep s c).now = s.now
    ∧ (State.holdStep s c).straps = s.straps ∧ (State.holdStep s c).settings = s.settings
    ∧ (State.holdStep s c).cap = s.cap ∧ (State.holdStep s c).scan = s.scan ∧ (State.holdStep s c).trk = s.trk
    ∧ (State.holdStep s c).phm = s.phm ∧ (State.holdStep s c).camc = s.camc ∧ (State.holdStep s c).shr = s.shr
    ∧ (State.holdStep s c).drv = s.drv ∧ (State.holdStep s c).supply = s.supply ∧ (State.holdStep s c).line = s.line
    ∧ (State.holdStep s c).mon = s.mon ∧ (State.holdStep s c).stored = s.stored
    ∧ (State.holdStep s c).service = s.service ∧ (State.holdStep s c).pwr = s.pwr
    ∧ (State.holdStep s c).freeDraws = s.freeDraws := by
  simp only [State.holdStep]
  (repeat' split) <;> simp

@[simp] theorem State.learnHold_frame (s : State) (c : Cam) (e : Int) (dtq : Nat) :
    (State.learnHold s c e dtq).pending = s.pending ∧ (State.learnHold s c e dtq).now = s.now
    ∧ (State.learnHold s c e dtq).straps = s.straps ∧ (State.learnHold s c e dtq).settings = s.settings
    ∧ (State.learnHold s c e dtq).cap = s.cap ∧ (State.learnHold s c e dtq).scan = s.scan
    ∧ (State.learnHold s c e dtq).trk = s.trk ∧ (State.learnHold s c e dtq).phm = s.phm
    ∧ (State.learnHold s c e dtq).camc = s.camc ∧ (State.learnHold s c e dtq).shr = s.shr
    ∧ (State.learnHold s c e dtq).drv = s.drv ∧ (State.learnHold s c e dtq).supply = s.supply
    ∧ (State.learnHold s c e dtq).line = s.line ∧ (State.learnHold s c e dtq).mon = s.mon
    ∧ (State.learnHold s c e dtq).stored = s.stored ∧ (State.learnHold s c e dtq).service = s.service
    ∧ (State.learnHold s c e dtq).pwr = s.pwr ∧ (State.learnHold s c e dtq).freeDraws = s.freeDraws := by
  simp only [State.learnHold]
  (repeat' split) <;> simp

@[simp] theorem State.loopStages_frame (s : State) (c : Cam) (m : Measurement) :
    (s.loopStages c m).state.pending = s.pending ∧ (s.loopStages c m).state.now = s.now
    ∧ (s.loopStages c m).state.straps = s.straps ∧ (s.loopStages c m).state.settings = s.settings
    ∧ (s.loopStages c m).state.cap = s.cap ∧ (s.loopStages c m).state.scan = s.scan
    ∧ (s.loopStages c m).state.trk = s.trk ∧ (s.loopStages c m).state.phm = s.phm
    ∧ (s.loopStages c m).state.supply = s.supply ∧ (s.loopStages c m).state.mon = s.mon
    ∧ (s.loopStages c m).state.store = s.store ∧ (s.loopStages c m).state.stored = s.stored
    ∧ (s.loopStages c m).state.service = s.service ∧ (s.loopStages c m).state.pwr = s.pwr
    ∧ (s.loopStages c m).state.freeDraws = s.freeDraws ∧ (s.loopStages c m).state.line.receiver = s.line.receiver
    ∧ (s.loopStages c m).state.line.sending = s.line.sending ∧ (s.loopStages c m).state.line.life = s.line.life
    ∧ (s.loopStages c m).state.line.seq = s.line.seq ∧ (s.loopStages c m).state.line.txEnabled = s.line.txEnabled
    ∧ (s.loopStages c m).state.line.bufferX = s.line.bufferX ∧ (s.loopStages c m).state.line.bufferY = s.line.bufferY
    ∧ (s.loopStages c m).state.line.lastBuffer = s.line.lastBuffer
    ∧ (s.loopStages c m).state.line.dataBits = s.line.dataBits
    ∧ (s.loopStages c m).state.line.lastFall = s.line.lastFall
    ∧ (s.loopStages c m).state.line.lastRise = s.line.lastRise
    ∧ (s.loopStages c m).state.line.othersLow = s.line.othersLow ∧ (s.loopStages c m).state.line.drive = s.line.drive
    ∧ (s.loopStages c m).state.line.aborting = s.line.aborting
    ∧ (s.loopStages c m).state.line.sampled = s.line.sampled := by
  simp only [State.loopStages]
  split <;> simp

@[simp] theorem State.loopUpdate_frame (s : State) (c : Cam) (m : Measurement) :
    (State.loopUpdate s c m).pending = s.pending ∧ (State.loopUpdate s c m).now = s.now
    ∧ (State.loopUpdate s c m).straps = s.straps ∧ (State.loopUpdate s c m).settings = s.settings
    ∧ (State.loopUpdate s c m).cap = s.cap ∧ (State.loopUpdate s c m).scan = s.scan
    ∧ (State.loopUpdate s c m).trk = s.trk ∧ (State.loopUpdate s c m).supply = s.supply
    ∧ (State.loopUpdate s c m).stored = s.stored ∧ (State.loopUpdate s c m).service = s.service
    ∧ (State.loopUpdate s c m).pwr = s.pwr ∧ (State.loopUpdate s c m).freeDraws = s.freeDraws
    ∧ (State.loopUpdate s c m).line.receiver = s.line.receiver
    ∧ (State.loopUpdate s c m).line.sending = s.line.sending ∧ (State.loopUpdate s c m).line.life = s.line.life
    ∧ (State.loopUpdate s c m).line.seq = s.line.seq ∧ (State.loopUpdate s c m).line.txEnabled = s.line.txEnabled
    ∧ (State.loopUpdate s c m).line.bufferX = s.line.bufferX ∧ (State.loopUpdate s c m).line.bufferY = s.line.bufferY
    ∧ (State.loopUpdate s c m).line.lastBuffer = s.line.lastBuffer
    ∧ (State.loopUpdate s c m).line.dataBits = s.line.dataBits
    ∧ (State.loopUpdate s c m).line.lastFall = s.line.lastFall
    ∧ (State.loopUpdate s c m).line.lastRise = s.line.lastRise
    ∧ (State.loopUpdate s c m).line.othersLow = s.line.othersLow ∧ (State.loopUpdate s c m).line.drive = s.line.drive
    ∧ (State.loopUpdate s c m).line.aborting = s.line.aborting
    ∧ (State.loopUpdate s c m).line.sampled = s.line.sampled := by
  simp only [State.loopUpdate]
  (repeat' split) <;> simp

@[simp] theorem State.startRun_frame (s : State) (c : Cam) (o : LearnOrigin) :
    (State.startRun s c o).pending = s.pending ∧ (State.startRun s c o).now = s.now
    ∧ (State.startRun s c o).straps = s.straps ∧ (State.startRun s c o).settings = s.settings
    ∧ (State.startRun s c o).cap = s.cap ∧ (State.startRun s c o).scan = s.scan ∧ (State.startRun s c o).trk = s.trk
    ∧ (State.startRun s c o).camc = s.camc ∧ (State.startRun s c o).loop = s.loop ∧ (State.startRun s c o).shr = s.shr
    ∧ (State.startRun s c o).drv = s.drv ∧ (State.startRun s c o).supply = s.supply
    ∧ (State.startRun s c o).line = s.line ∧ (State.startRun s c o).mon = s.mon
    ∧ (State.startRun s c o).store = s.store ∧ (State.startRun s c o).stored = s.stored
    ∧ (State.startRun s c o).service = s.service ∧ (State.startRun s c o).pwr = s.pwr
    ∧ (State.startRun s c o).freeDraws = s.freeDraws := by
  simp [State.startRun]

@[simp] theorem State.learnStart_frame (s : State) (c : Cam) :
    (State.learnStart s c).pending = s.pending ∧ (State.learnStart s c).now = s.now
    ∧ (State.learnStart s c).straps = s.straps ∧ (State.learnStart s c).settings = s.settings
    ∧ (State.learnStart s c).cap = s.cap ∧ (State.learnStart s c).scan = s.scan ∧ (State.learnStart s c).trk = s.trk
    ∧ (State.learnStart s c).camc = s.camc ∧ (State.learnStart s c).loop = s.loop ∧ (State.learnStart s c).shr = s.shr
    ∧ (State.learnStart s c).drv = s.drv ∧ (State.learnStart s c).supply = s.supply
    ∧ (State.learnStart s c).line = s.line ∧ (State.learnStart s c).mon = s.mon
    ∧ (State.learnStart s c).store = s.store ∧ (State.learnStart s c).stored = s.stored
    ∧ (State.learnStart s c).service = s.service ∧ (State.learnStart s c).pwr = s.pwr
    ∧ (State.learnStart s c).freeDraws = s.freeDraws := by
  simp only [State.learnStart]
  (repeat' split) <;> simp

@[simp] theorem State.measure_frame (s : State) (c : Cam) (m : Measurement) :
    (State.measure s c m).pending = s.pending ∧ (State.measure s c m).now = s.now
    ∧ (State.measure s c m).straps = s.straps ∧ (State.measure s c m).settings = s.settings
    ∧ (State.measure s c m).cap = s.cap ∧ (State.measure s c m).scan = s.scan ∧ (State.measure s c m).trk = s.trk
    ∧ (State.measure s c m).supply = s.supply ∧ (State.measure s c m).stored = s.stored
    ∧ (State.measure s c m).service = s.service ∧ (State.measure s c m).pwr = s.pwr
    ∧ (State.measure s c m).freeDraws = s.freeDraws ∧ (State.measure s c m).line.receiver = s.line.receiver
    ∧ (State.measure s c m).line.sending = s.line.sending ∧ (State.measure s c m).line.life = s.line.life
    ∧ (State.measure s c m).line.seq = s.line.seq ∧ (State.measure s c m).line.txEnabled = s.line.txEnabled
    ∧ (State.measure s c m).line.bufferX = s.line.bufferX ∧ (State.measure s c m).line.bufferY = s.line.bufferY
    ∧ (State.measure s c m).line.lastBuffer = s.line.lastBuffer
    ∧ (State.measure s c m).line.dataBits = s.line.dataBits ∧ (State.measure s c m).line.lastFall = s.line.lastFall
    ∧ (State.measure s c m).line.lastRise = s.line.lastRise
    ∧ (State.measure s c m).line.othersLow = s.line.othersLow ∧ (State.measure s c m).line.drive = s.line.drive
    ∧ (State.measure s c m).line.aborting = s.line.aborting
    ∧ (State.measure s c m).line.sampled = s.line.sampled := by
  simp only [State.measure]
  (repeat' split) <;> simp

@[simp] theorem State.identified_frame (s : State) (c : Cam) (t : Time) (angle e ref : Nat) :
    (State.identified s c t angle e ref).pending = s.pending ∧ (State.identified s c t angle e ref).now = s.now
    ∧ (State.identified s c t angle e ref).straps = s.straps
    ∧ (State.identified s c t angle e ref).settings = s.settings ∧ (State.identified s c t angle e ref).cap = s.cap
    ∧ (State.identified s c t angle e ref).scan = s.scan ∧ (State.identified s c t angle e ref).trk = s.trk
    ∧ (State.identified s c t angle e ref).supply = s.supply ∧ (State.identified s c t angle e ref).stored = s.stored
    ∧ (State.identified s c t angle e ref).service = s.service ∧ (State.identified s c t angle e ref).pwr = s.pwr
    ∧ (State.identified s c t angle e ref).freeDraws = s.freeDraws
    ∧ (State.identified s c t angle e ref).line.receiver = s.line.receiver
    ∧ (State.identified s c t angle e ref).line.sending = s.line.sending
    ∧ (State.identified s c t angle e ref).line.life = s.line.life
    ∧ (State.identified s c t angle e ref).line.seq = s.line.seq
    ∧ (State.identified s c t angle e ref).line.txEnabled = s.line.txEnabled
    ∧ (State.identified s c t angle e ref).line.bufferX = s.line.bufferX
    ∧ (State.identified s c t angle e ref).line.bufferY = s.line.bufferY
    ∧ (State.identified s c t angle e ref).line.lastBuffer = s.line.lastBuffer
    ∧ (State.identified s c t angle e ref).line.dataBits = s.line.dataBits
    ∧ (State.identified s c t angle e ref).line.lastFall = s.line.lastFall
    ∧ (State.identified s c t angle e ref).line.lastRise = s.line.lastRise
    ∧ (State.identified s c t angle e ref).line.othersLow = s.line.othersLow
    ∧ (State.identified s c t angle e ref).line.drive = s.line.drive
    ∧ (State.identified s c t angle e ref).line.aborting = s.line.aborting
    ∧ (State.identified s c t angle e ref).line.sampled = s.line.sampled := by
  simp only [State.identified]
  (repeat' split) <;> simp

@[simp] theorem State.stampedEdge_frame (s : State) (c : Cam) (t : Time) (angle : Nat) :
    (State.stampedEdge s c t angle).pending = s.pending ∧ (State.stampedEdge s c t angle).now = s.now
    ∧ (State.stampedEdge s c t angle).straps = s.straps ∧ (State.stampedEdge s c t angle).settings = s.settings
    ∧ (State.stampedEdge s c t angle).cap = s.cap ∧ (State.stampedEdge s c t angle).scan = s.scan
    ∧ (State.stampedEdge s c t angle).trk = s.trk ∧ (State.stampedEdge s c t angle).supply = s.supply
    ∧ (State.stampedEdge s c t angle).stored = s.stored ∧ (State.stampedEdge s c t angle).service = s.service
    ∧ (State.stampedEdge s c t angle).pwr = s.pwr ∧ (State.stampedEdge s c t angle).freeDraws = s.freeDraws
    ∧ (State.stampedEdge s c t angle).line.receiver = s.line.receiver
    ∧ (State.stampedEdge s c t angle).line.sending = s.line.sending
    ∧ (State.stampedEdge s c t angle).line.life = s.line.life ∧ (State.stampedEdge s c t angle).line.seq = s.line.seq
    ∧ (State.stampedEdge s c t angle).line.txEnabled = s.line.txEnabled
    ∧ (State.stampedEdge s c t angle).line.bufferX = s.line.bufferX
    ∧ (State.stampedEdge s c t angle).line.bufferY = s.line.bufferY
    ∧ (State.stampedEdge s c t angle).line.lastBuffer = s.line.lastBuffer
    ∧ (State.stampedEdge s c t angle).line.dataBits = s.line.dataBits
    ∧ (State.stampedEdge s c t angle).line.lastFall = s.line.lastFall
    ∧ (State.stampedEdge s c t angle).line.lastRise = s.line.lastRise
    ∧ (State.stampedEdge s c t angle).line.othersLow = s.line.othersLow
    ∧ (State.stampedEdge s c t angle).line.drive = s.line.drive
    ∧ (State.stampedEdge s c t angle).line.aborting = s.line.aborting
    ∧ (State.stampedEdge s c t angle).line.sampled = s.line.sampled := by
  simp only [State.stampedEdge]
  (repeat' split) <;> simp

@[simp] theorem State.badCycle_frame (s : State) (c : Cam) :
    (State.badCycle s c).pending = s.pending ∧ (State.badCycle s c).now = s.now
    ∧ (State.badCycle s c).straps = s.straps ∧ (State.badCycle s c).settings = s.settings
    ∧ (State.badCycle s c).cap = s.cap ∧ (State.badCycle s c).scan = s.scan ∧ (State.badCycle s c).trk = s.trk
    ∧ (State.badCycle s c).supply = s.supply ∧ (State.badCycle s c).store = s.store
    ∧ (State.badCycle s c).stored = s.stored ∧ (State.badCycle s c).service = s.service
    ∧ (State.badCycle s c).pwr = s.pwr ∧ (State.badCycle s c).freeDraws = s.freeDraws
    ∧ (State.badCycle s c).line.receiver = s.line.receiver ∧ (State.badCycle s c).line.sending = s.line.sending
    ∧ (State.badCycle s c).line.life = s.line.life ∧ (State.badCycle s c).line.seq = s.line.seq
    ∧ (State.badCycle s c).line.txEnabled = s.line.txEnabled ∧ (State.badCycle s c).line.bufferX = s.line.bufferX
    ∧ (State.badCycle s c).line.bufferY = s.line.bufferY ∧ (State.badCycle s c).line.lastBuffer = s.line.lastBuffer
    ∧ (State.badCycle s c).line.dataBits = s.line.dataBits ∧ (State.badCycle s c).line.lastFall = s.line.lastFall
    ∧ (State.badCycle s c).line.lastRise = s.line.lastRise
    ∧ (State.badCycle s c).line.othersLow = s.line.othersLow ∧ (State.badCycle s c).line.drive = s.line.drive
    ∧ (State.badCycle s c).line.aborting = s.line.aborting
    ∧ (State.badCycle s c).line.sampled = s.line.sampled := by
  simp only [State.badCycle]
  (repeat' split) <;> simp

@[simp] theorem State.goodCycle_frame (s : State) (c : Cam) :
    (State.goodCycle s c).pending = s.pending ∧ (State.goodCycle s c).now = s.now
    ∧ (State.goodCycle s c).straps = s.straps ∧ (State.goodCycle s c).settings = s.settings
    ∧ (State.goodCycle s c).cap = s.cap ∧ (State.goodCycle s c).scan = s.scan ∧ (State.goodCycle s c).trk = s.trk
    ∧ (State.goodCycle s c).camc = s.camc ∧ (State.goodCycle s c).loop = s.loop ∧ (State.goodCycle s c).shr = s.shr
    ∧ (State.goodCycle s c).drv = s.drv ∧ (State.goodCycle s c).supply = s.supply
    ∧ (State.goodCycle s c).store = s.store ∧ (State.goodCycle s c).stored = s.stored
    ∧ (State.goodCycle s c).service = s.service ∧ (State.goodCycle s c).pwr = s.pwr
    ∧ (State.goodCycle s c).freeDraws = s.freeDraws ∧ (State.goodCycle s c).line.receiver = s.line.receiver
    ∧ (State.goodCycle s c).line.sending = s.line.sending ∧ (State.goodCycle s c).line.life = s.line.life
    ∧ (State.goodCycle s c).line.seq = s.line.seq ∧ (State.goodCycle s c).line.txEnabled = s.line.txEnabled
    ∧ (State.goodCycle s c).line.bufferX = s.line.bufferX ∧ (State.goodCycle s c).line.bufferY = s.line.bufferY
    ∧ (State.goodCycle s c).line.lastBuffer = s.line.lastBuffer
    ∧ (State.goodCycle s c).line.dataBits = s.line.dataBits ∧ (State.goodCycle s c).line.lastFall = s.line.lastFall
    ∧ (State.goodCycle s c).line.lastRise = s.line.lastRise
    ∧ (State.goodCycle s c).line.othersLow = s.line.othersLow ∧ (State.goodCycle s c).line.drive = s.line.drive
    ∧ (State.goodCycle s c).line.aborting = s.line.aborting
    ∧ (State.goodCycle s c).line.sampled = s.line.sampled := by
  simp only [State.goodCycle]
  (repeat' split) <;> simp

@[simp] theorem State.cycleEndOf_frame (c : Cam) (s : State) :
    (State.cycleEndOf c s).pending = s.pending ∧ (State.cycleEndOf c s).now = s.now
    ∧ (State.cycleEndOf c s).straps = s.straps ∧ (State.cycleEndOf c s).settings = s.settings
    ∧ (State.cycleEndOf c s).cap = s.cap ∧ (State.cycleEndOf c s).scan = s.scan ∧ (State.cycleEndOf c s).trk = s.trk
    ∧ (State.cycleEndOf c s).supply = s.supply ∧ (State.cycleEndOf c s).store = s.store
    ∧ (State.cycleEndOf c s).stored = s.stored ∧ (State.cycleEndOf c s).service = s.service
    ∧ (State.cycleEndOf c s).pwr = s.pwr ∧ (State.cycleEndOf c s).freeDraws = s.freeDraws
    ∧ (State.cycleEndOf c s).line.receiver = s.line.receiver ∧ (State.cycleEndOf c s).line.sending = s.line.sending
    ∧ (State.cycleEndOf c s).line.life = s.line.life ∧ (State.cycleEndOf c s).line.seq = s.line.seq
    ∧ (State.cycleEndOf c s).line.txEnabled = s.line.txEnabled ∧ (State.cycleEndOf c s).line.bufferX = s.line.bufferX
    ∧ (State.cycleEndOf c s).line.bufferY = s.line.bufferY
    ∧ (State.cycleEndOf c s).line.lastBuffer = s.line.lastBuffer
    ∧ (State.cycleEndOf c s).line.dataBits = s.line.dataBits ∧ (State.cycleEndOf c s).line.lastFall = s.line.lastFall
    ∧ (State.cycleEndOf c s).line.lastRise = s.line.lastRise
    ∧ (State.cycleEndOf c s).line.othersLow = s.line.othersLow ∧ (State.cycleEndOf c s).line.drive = s.line.drive
    ∧ (State.cycleEndOf c s).line.aborting = s.line.aborting
    ∧ (State.cycleEndOf c s).line.sampled = s.line.sampled := by
  simp only [State.cycleEndOf]
  (repeat' split) <;> simp

@[simp] theorem State.cycleEnd_frame (s : State) :
    (State.cycleEnd s).pending = s.pending ∧ (State.cycleEnd s).now = s.now ∧ (State.cycleEnd s).straps = s.straps
    ∧ (State.cycleEnd s).settings = s.settings ∧ (State.cycleEnd s).cap = s.cap ∧ (State.cycleEnd s).scan = s.scan
    ∧ (State.cycleEnd s).trk = s.trk ∧ (State.cycleEnd s).supply = s.supply ∧ (State.cycleEnd s).store = s.store
    ∧ (State.cycleEnd s).stored = s.stored ∧ (State.cycleEnd s).service = s.service ∧ (State.cycleEnd s).pwr = s.pwr
    ∧ (State.cycleEnd s).freeDraws = s.freeDraws ∧ (State.cycleEnd s).line.receiver = s.line.receiver
    ∧ (State.cycleEnd s).line.sending = s.line.sending ∧ (State.cycleEnd s).line.life = s.line.life
    ∧ (State.cycleEnd s).line.seq = s.line.seq ∧ (State.cycleEnd s).line.txEnabled = s.line.txEnabled
    ∧ (State.cycleEnd s).line.bufferX = s.line.bufferX ∧ (State.cycleEnd s).line.bufferY = s.line.bufferY
    ∧ (State.cycleEnd s).line.lastBuffer = s.line.lastBuffer ∧ (State.cycleEnd s).line.dataBits = s.line.dataBits
    ∧ (State.cycleEnd s).line.lastFall = s.line.lastFall ∧ (State.cycleEnd s).line.lastRise = s.line.lastRise
    ∧ (State.cycleEnd s).line.othersLow = s.line.othersLow ∧ (State.cycleEnd s).line.drive = s.line.drive
    ∧ (State.cycleEnd s).line.aborting = s.line.aborting
    ∧ (State.cycleEnd s).line.sampled = s.line.sampled := by
  simp [State.cycleEnd, State.bothCams]

@[simp] theorem State.startTally_frame (s : State) (whole : Bool) :
    (State.startTally s whole).pending = s.pending ∧ (State.startTally s whole).now = s.now
    ∧ (State.startTally s whole).straps = s.straps ∧ (State.startTally s whole).settings = s.settings
    ∧ (State.startTally s whole).cap = s.cap ∧ (State.startTally s whole).scan = s.scan
    ∧ (State.startTally s whole).trk = s.trk ∧ (State.startTally s whole).camc = s.camc
    ∧ (State.startTally s whole).loop = s.loop ∧ (State.startTally s whole).shr = s.shr
    ∧ (State.startTally s whole).drv = s.drv ∧ (State.startTally s whole).supply = s.supply
    ∧ (State.startTally s whole).line = s.line ∧ (State.startTally s whole).mon = s.mon
    ∧ (State.startTally s whole).store = s.store ∧ (State.startTally s whole).stored = s.stored
    ∧ (State.startTally s whole).service = s.service ∧ (State.startTally s whole).pwr = s.pwr
    ∧ (State.startTally s whole).freeDraws = s.freeDraws := by
  simp [State.startTally]

@[simp] theorem State.takeHead_frame (s : State) :
    (State.takeHead s).pending = s.pending ∧ (State.takeHead s).now = s.now ∧ (State.takeHead s).straps = s.straps
    ∧ (State.takeHead s).settings = s.settings ∧ (State.takeHead s).scan = s.scan ∧ (State.takeHead s).trk = s.trk
    ∧ (State.takeHead s).phm = s.phm ∧ (State.takeHead s).camc = s.camc ∧ (State.takeHead s).loop = s.loop
    ∧ (State.takeHead s).shr = s.shr ∧ (State.takeHead s).drv = s.drv ∧ (State.takeHead s).supply = s.supply
    ∧ (State.takeHead s).line = s.line ∧ (State.takeHead s).mon = s.mon ∧ (State.takeHead s).store = s.store
    ∧ (State.takeHead s).stored = s.stored ∧ (State.takeHead s).service = s.service ∧ (State.takeHead s).pwr = s.pwr
    ∧ (State.takeHead s).freeDraws = s.freeDraws := by
  simp [State.takeHead]

@[simp] theorem State.releaseCam_frame (c : Cam) (s : State) :
    (State.releaseCam c s).pending = s.pending ∧ (State.releaseCam c s).now = s.now
    ∧ (State.releaseCam c s).straps = s.straps ∧ (State.releaseCam c s).settings = s.settings
    ∧ (State.releaseCam c s).cap = s.cap ∧ (State.releaseCam c s).scan = s.scan ∧ (State.releaseCam c s).trk = s.trk
    ∧ (State.releaseCam c s).supply = s.supply ∧ (State.releaseCam c s).line = s.line
    ∧ (State.releaseCam c s).mon = s.mon ∧ (State.releaseCam c s).store = s.store
    ∧ (State.releaseCam c s).stored = s.stored ∧ (State.releaseCam c s).service = s.service
    ∧ (State.releaseCam c s).pwr = s.pwr ∧ (State.releaseCam c s).freeDraws = s.freeDraws := by
  simp [State.releaseCam]

@[simp] theorem State.leaveCycleSync_frame (s : State) :
    (State.leaveCycleSync s).pending = s.pending ∧ (State.leaveCycleSync s).now = s.now
    ∧ (State.leaveCycleSync s).straps = s.straps ∧ (State.leaveCycleSync s).settings = s.settings
    ∧ (State.leaveCycleSync s).cap = s.cap ∧ (State.leaveCycleSync s).scan = s.scan
    ∧ (State.leaveCycleSync s).trk = s.trk ∧ (State.leaveCycleSync s).supply = s.supply
    ∧ (State.leaveCycleSync s).line = s.line ∧ (State.leaveCycleSync s).mon = s.mon
    ∧ (State.leaveCycleSync s).store = s.store ∧ (State.leaveCycleSync s).stored = s.stored
    ∧ (State.leaveCycleSync s).service = s.service ∧ (State.leaveCycleSync s).pwr = s.pwr
    ∧ (State.leaveCycleSync s).freeDraws = s.freeDraws := by
  simp only [State.leaveCycleSync]
  (repeat' split) <;> simp [State.bothCams]

@[simp] theorem State.enterStopped_frame (s : State) :
    (State.enterStopped s).pending = s.pending ∧ (State.enterStopped s).now = s.now
    ∧ (State.enterStopped s).straps = s.straps ∧ (State.enterStopped s).settings = s.settings
    ∧ (State.enterStopped s).cap = s.cap ∧ (State.enterStopped s).scan = s.scan
    ∧ (State.enterStopped s).supply = s.supply ∧ (State.enterStopped s).store = s.store
    ∧ (State.enterStopped s).stored = s.stored ∧ (State.enterStopped s).service = s.service
    ∧ (State.enterStopped s).freeDraws = s.freeDraws ∧ (State.enterStopped s).line.receiver = s.line.receiver
    ∧ (State.enterStopped s).line.sending = s.line.sending ∧ (State.enterStopped s).line.life = s.line.life
    ∧ (State.enterStopped s).line.seq = s.line.seq ∧ (State.enterStopped s).line.txEnabled = s.line.txEnabled
    ∧ (State.enterStopped s).line.bufferX = s.line.bufferX ∧ (State.enterStopped s).line.bufferY = s.line.bufferY
    ∧ (State.enterStopped s).line.lastBuffer = s.line.lastBuffer
    ∧ (State.enterStopped s).line.dataBits = s.line.dataBits ∧ (State.enterStopped s).line.lastFall = s.line.lastFall
    ∧ (State.enterStopped s).line.lastRise = s.line.lastRise
    ∧ (State.enterStopped s).line.othersLow = s.line.othersLow ∧ (State.enterStopped s).line.drive = s.line.drive
    ∧ (State.enterStopped s).line.aborting = s.line.aborting
    ∧ (State.enterStopped s).line.sampled = s.line.sampled := by
  simp [State.enterStopped]

@[simp] theorem State.loseSync_frame (s : State) (lastCrank : Option Time) (tPrev : Option Nat) (stallRef : Time) :
    (State.loseSync s lastCrank tPrev stallRef).pending = s.pending
    ∧ (State.loseSync s lastCrank tPrev stallRef).now = s.now
    ∧ (State.loseSync s lastCrank tPrev stallRef).straps = s.straps
    ∧ (State.loseSync s lastCrank tPrev stallRef).settings = s.settings
    ∧ (State.loseSync s lastCrank tPrev stallRef).cap = s.cap
    ∧ (State.loseSync s lastCrank tPrev stallRef).scan = s.scan
    ∧ (State.loseSync s lastCrank tPrev stallRef).supply = s.supply
    ∧ (State.loseSync s lastCrank tPrev stallRef).store = s.store
    ∧ (State.loseSync s lastCrank tPrev stallRef).stored = s.stored
    ∧ (State.loseSync s lastCrank tPrev stallRef).service = s.service
    ∧ (State.loseSync s lastCrank tPrev stallRef).pwr = s.pwr
    ∧ (State.loseSync s lastCrank tPrev stallRef).freeDraws = s.freeDraws
    ∧ (State.loseSync s lastCrank tPrev stallRef).line.receiver = s.line.receiver
    ∧ (State.loseSync s lastCrank tPrev stallRef).line.sending = s.line.sending
    ∧ (State.loseSync s lastCrank tPrev stallRef).line.life = s.line.life
    ∧ (State.loseSync s lastCrank tPrev stallRef).line.seq = s.line.seq
    ∧ (State.loseSync s lastCrank tPrev stallRef).line.txEnabled = s.line.txEnabled
    ∧ (State.loseSync s lastCrank tPrev stallRef).line.bufferX = s.line.bufferX
    ∧ (State.loseSync s lastCrank tPrev stallRef).line.bufferY = s.line.bufferY
    ∧ (State.loseSync s lastCrank tPrev stallRef).line.lastBuffer = s.line.lastBuffer
    ∧ (State.loseSync s lastCrank tPrev stallRef).line.dataBits = s.line.dataBits
    ∧ (State.loseSync s lastCrank tPrev stallRef).line.lastFall = s.line.lastFall
    ∧ (State.loseSync s lastCrank tPrev stallRef).line.lastRise = s.line.lastRise
    ∧ (State.loseSync s lastCrank tPrev stallRef).line.othersLow = s.line.othersLow
    ∧ (State.loseSync s lastCrank tPrev stallRef).line.drive = s.line.drive
    ∧ (State.loseSync s lastCrank tPrev stallRef).line.aborting = s.line.aborting
    ∧ (State.loseSync s lastCrank tPrev stallRef).line.sampled = s.line.sampled := by
  simp [State.loseSync]

@[simp] theorem State.enterCycleSync_frame (s : State) (h : Half) :
    (State.enterCycleSync s h).pending = s.pending ∧ (State.enterCycleSync s h).now = s.now
    ∧ (State.enterCycleSync s h).straps = s.straps ∧ (State.enterCycleSync s h).settings = s.settings
    ∧ (State.enterCycleSync s h).cap = s.cap ∧ (State.enterCycleSync s h).scan = s.scan
    ∧ (State.enterCycleSync s h).camc = s.camc ∧ (State.enterCycleSync s h).loop = s.loop
    ∧ (State.enterCycleSync s h).shr = s.shr ∧ (State.enterCycleSync s h).drv = s.drv
    ∧ (State.enterCycleSync s h).supply = s.supply ∧ (State.enterCycleSync s h).store = s.store
    ∧ (State.enterCycleSync s h).stored = s.stored ∧ (State.enterCycleSync s h).service = s.service
    ∧ (State.enterCycleSync s h).pwr = s.pwr ∧ (State.enterCycleSync s h).freeDraws = s.freeDraws
    ∧ (State.enterCycleSync s h).line.receiver = s.line.receiver
    ∧ (State.enterCycleSync s h).line.sending = s.line.sending ∧ (State.enterCycleSync s h).line.life = s.line.life
    ∧ (State.enterCycleSync s h).line.seq = s.line.seq ∧ (State.enterCycleSync s h).line.txEnabled = s.line.txEnabled
    ∧ (State.enterCycleSync s h).line.bufferX = s.line.bufferX
    ∧ (State.enterCycleSync s h).line.bufferY = s.line.bufferY
    ∧ (State.enterCycleSync s h).line.lastBuffer = s.line.lastBuffer
    ∧ (State.enterCycleSync s h).line.dataBits = s.line.dataBits
    ∧ (State.enterCycleSync s h).line.lastFall = s.line.lastFall
    ∧ (State.enterCycleSync s h).line.lastRise = s.line.lastRise
    ∧ (State.enterCycleSync s h).line.othersLow = s.line.othersLow ∧ (State.enterCycleSync s h).line.drive = s.line.drive
    ∧ (State.enterCycleSync s h).line.aborting = s.line.aborting
    ∧ (State.enterCycleSync s h).line.sampled = s.line.sampled := by
  simp [State.enterCycleSync]

@[simp] theorem State.undecidedRevolution_frame (s : State) :
    (State.undecidedRevolution s).pending = s.pending ∧ (State.undecidedRevolution s).now = s.now
    ∧ (State.undecidedRevolution s).straps = s.straps ∧ (State.undecidedRevolution s).settings = s.settings
    ∧ (State.undecidedRevolution s).cap = s.cap ∧ (State.undecidedRevolution s).scan = s.scan
    ∧ (State.undecidedRevolution s).phm = s.phm ∧ (State.undecidedRevolution s).camc = s.camc
    ∧ (State.undecidedRevolution s).loop = s.loop ∧ (State.undecidedRevolution s).shr = s.shr
    ∧ (State.undecidedRevolution s).drv = s.drv ∧ (State.undecidedRevolution s).supply = s.supply
    ∧ (State.undecidedRevolution s).store = s.store ∧ (State.undecidedRevolution s).stored = s.stored
    ∧ (State.undecidedRevolution s).service = s.service ∧ (State.undecidedRevolution s).pwr = s.pwr
    ∧ (State.undecidedRevolution s).freeDraws = s.freeDraws
    ∧ (State.undecidedRevolution s).line.receiver = s.line.receiver
    ∧ (State.undecidedRevolution s).line.sending = s.line.sending
    ∧ (State.undecidedRevolution s).line.life = s.line.life ∧ (State.undecidedRevolution s).line.seq = s.line.seq
    ∧ (State.undecidedRevolution s).line.txEnabled = s.line.txEnabled
    ∧ (State.undecidedRevolution s).line.bufferX = s.line.bufferX
    ∧ (State.undecidedRevolution s).line.bufferY = s.line.bufferY
    ∧ (State.undecidedRevolution s).line.lastBuffer = s.line.lastBuffer
    ∧ (State.undecidedRevolution s).line.dataBits = s.line.dataBits
    ∧ (State.undecidedRevolution s).line.lastFall = s.line.lastFall
    ∧ (State.undecidedRevolution s).line.lastRise = s.line.lastRise
    ∧ (State.undecidedRevolution s).line.othersLow = s.line.othersLow ∧ (State.undecidedRevolution s).line.drive = s.line.drive
    ∧ (State.undecidedRevolution s).line.aborting = s.line.aborting
    ∧ (State.undecidedRevolution s).line.sampled = s.line.sampled := by
  simp only [State.undecidedRevolution]
  (repeat' split) <;> simp

@[simp] theorem State.fallToCrankSync_frame (s : State) :
    (State.fallToCrankSync s).pending = s.pending ∧ (State.fallToCrankSync s).now = s.now
    ∧ (State.fallToCrankSync s).straps = s.straps ∧ (State.fallToCrankSync s).settings = s.settings
    ∧ (State.fallToCrankSync s).cap = s.cap ∧ (State.fallToCrankSync s).scan = s.scan
    ∧ (State.fallToCrankSync s).supply = s.supply ∧ (State.fallToCrankSync s).store = s.store
    ∧ (State.fallToCrankSync s).stored = s.stored ∧ (State.fallToCrankSync s).service = s.service
    ∧ (State.fallToCrankSync s).pwr = s.pwr ∧ (State.fallToCrankSync s).freeDraws = s.freeDraws
    ∧ (State.fallToCrankSync s).line.receiver = s.line.receiver
    ∧ (State.fallToCrankSync s).line.sending = s.line.sending ∧ (State.fallToCrankSync s).line.life = s.line.life
    ∧ (State.fallToCrankSync s).line.seq = s.line.seq ∧ (State.fallToCrankSync s).line.txEnabled = s.line.txEnabled
    ∧ (State.fallToCrankSync s).line.bufferX = s.line.bufferX
    ∧ (State.fallToCrankSync s).line.bufferY = s.line.bufferY
    ∧ (State.fallToCrankSync s).line.lastBuffer = s.line.lastBuffer
    ∧ (State.fallToCrankSync s).line.dataBits = s.line.dataBits
    ∧ (State.fallToCrankSync s).line.lastFall = s.line.lastFall
    ∧ (State.fallToCrankSync s).line.lastRise = s.line.lastRise
    ∧ (State.fallToCrankSync s).line.othersLow = s.line.othersLow ∧ (State.fallToCrankSync s).line.drive = s.line.drive
    ∧ (State.fallToCrankSync s).line.aborting = s.line.aborting
    ∧ (State.fallToCrankSync s).line.sampled = s.line.sampled := by
  simp [State.fallToCrankSync]

@[simp] theorem State.cycleCheck_frame (s : State) :
    (State.cycleCheck s).pending = s.pending ∧ (State.cycleCheck s).now = s.now
    ∧ (State.cycleCheck s).straps = s.straps ∧ (State.cycleCheck s).settings = s.settings
    ∧ (State.cycleCheck s).cap = s.cap ∧ (State.cycleCheck s).scan = s.scan ∧ (State.cycleCheck s).supply = s.supply
    ∧ (State.cycleCheck s).store = s.store ∧ (State.cycleCheck s).stored = s.stored
    ∧ (State.cycleCheck s).service = s.service ∧ (State.cycleCheck s).pwr = s.pwr
    ∧ (State.cycleCheck s).freeDraws = s.freeDraws ∧ (State.cycleCheck s).line.receiver = s.line.receiver
    ∧ (State.cycleCheck s).line.sending = s.line.sending ∧ (State.cycleCheck s).line.life = s.line.life
    ∧ (State.cycleCheck s).line.seq = s.line.seq ∧ (State.cycleCheck s).line.txEnabled = s.line.txEnabled
    ∧ (State.cycleCheck s).line.bufferX = s.line.bufferX ∧ (State.cycleCheck s).line.bufferY = s.line.bufferY
    ∧ (State.cycleCheck s).line.lastBuffer = s.line.lastBuffer ∧ (State.cycleCheck s).line.dataBits = s.line.dataBits
    ∧ (State.cycleCheck s).line.lastFall = s.line.lastFall ∧ (State.cycleCheck s).line.lastRise = s.line.lastRise
    ∧ (State.cycleCheck s).line.othersLow = s.line.othersLow ∧ (State.cycleCheck s).line.drive = s.line.drive
    ∧ (State.cycleCheck s).line.aborting = s.line.aborting
    ∧ (State.cycleCheck s).line.sampled = s.line.sampled := by
  simp only [State.cycleCheck]
  (repeat' split) <;> simp

@[simp] theorem State.revolutionSpeed_frame (s : State) (t : Time) :
    (State.revolutionSpeed s t).pending = s.pending ∧ (State.revolutionSpeed s t).now = s.now
    ∧ (State.revolutionSpeed s t).straps = s.straps ∧ (State.revolutionSpeed s t).settings = s.settings
    ∧ (State.revolutionSpeed s t).cap = s.cap ∧ (State.revolutionSpeed s t).scan = s.scan
    ∧ (State.revolutionSpeed s t).phm = s.phm ∧ (State.revolutionSpeed s t).camc = s.camc
    ∧ (State.revolutionSpeed s t).loop = s.loop ∧ (State.revolutionSpeed s t).shr = s.shr
    ∧ (State.revolutionSpeed s t).drv = s.drv ∧ (State.revolutionSpeed s t).supply = s.supply
    ∧ (State.revolutionSpeed s t).line = s.line ∧ (State.revolutionSpeed s t).mon = s.mon
    ∧ (State.revolutionSpeed s t).store = s.store ∧ (State.revolutionSpeed s t).stored = s.stored
    ∧ (State.revolutionSpeed s t).service = s.service ∧ (State.revolutionSpeed s t).pwr = s.pwr
    ∧ (State.revolutionSpeed s t).freeDraws = s.freeDraws := by
  simp [State.revolutionSpeed]

@[simp] theorem State.revolutionCycleEnd_frame (s : State) :
    (State.revolutionCycleEnd s).pending = s.pending ∧ (State.revolutionCycleEnd s).now = s.now
    ∧ (State.revolutionCycleEnd s).straps = s.straps ∧ (State.revolutionCycleEnd s).settings = s.settings
    ∧ (State.revolutionCycleEnd s).cap = s.cap ∧ (State.revolutionCycleEnd s).scan = s.scan
    ∧ (State.revolutionCycleEnd s).trk = s.trk ∧ (State.revolutionCycleEnd s).supply = s.supply
    ∧ (State.revolutionCycleEnd s).store = s.store ∧ (State.revolutionCycleEnd s).stored = s.stored
    ∧ (State.revolutionCycleEnd s).service = s.service ∧ (State.revolutionCycleEnd s).pwr = s.pwr
    ∧ (State.revolutionCycleEnd s).freeDraws = s.freeDraws
    ∧ (State.revolutionCycleEnd s).line.receiver = s.line.receiver
    ∧ (State.revolutionCycleEnd s).line.sending = s.line.sending
    ∧ (State.revolutionCycleEnd s).line.life = s.line.life ∧ (State.revolutionCycleEnd s).line.seq = s.line.seq
    ∧ (State.revolutionCycleEnd s).line.txEnabled = s.line.txEnabled
    ∧ (State.revolutionCycleEnd s).line.bufferX = s.line.bufferX
    ∧ (State.revolutionCycleEnd s).line.bufferY = s.line.bufferY
    ∧ (State.revolutionCycleEnd s).line.lastBuffer = s.line.lastBuffer
    ∧ (State.revolutionCycleEnd s).line.dataBits = s.line.dataBits
    ∧ (State.revolutionCycleEnd s).line.lastFall = s.line.lastFall
    ∧ (State.revolutionCycleEnd s).line.lastRise = s.line.lastRise
    ∧ (State.revolutionCycleEnd s).line.othersLow = s.line.othersLow ∧ (State.revolutionCycleEnd s).line.drive = s.line.drive
    ∧ (State.revolutionCycleEnd s).line.aborting = s.line.aborting
    ∧ (State.revolutionCycleEnd s).line.sampled = s.line.sampled := by
  simp only [State.revolutionCycleEnd]
  (repeat' split) <;> simp

@[simp] theorem State.evaluateCounts_frame (s : State) :
    (State.evaluateCounts s).pending = s.pending ∧ (State.evaluateCounts s).now = s.now
    ∧ (State.evaluateCounts s).straps = s.straps ∧ (State.evaluateCounts s).settings = s.settings
    ∧ (State.evaluateCounts s).cap = s.cap ∧ (State.evaluateCounts s).scan = s.scan
    ∧ (State.evaluateCounts s).supply = s.supply ∧ (State.evaluateCounts s).store = s.store
    ∧ (State.evaluateCounts s).stored = s.stored ∧ (State.evaluateCounts s).service = s.service
    ∧ (State.evaluateCounts s).pwr = s.pwr ∧ (State.evaluateCounts s).freeDraws = s.freeDraws
    ∧ (State.evaluateCounts s).line.receiver = s.line.receiver
    ∧ (State.evaluateCounts s).line.sending = s.line.sending ∧ (State.evaluateCounts s).line.life = s.line.life
    ∧ (State.evaluateCounts s).line.seq = s.line.seq ∧ (State.evaluateCounts s).line.txEnabled = s.line.txEnabled
    ∧ (State.evaluateCounts s).line.bufferX = s.line.bufferX ∧ (State.evaluateCounts s).line.bufferY = s.line.bufferY
    ∧ (State.evaluateCounts s).line.lastBuffer = s.line.lastBuffer
    ∧ (State.evaluateCounts s).line.dataBits = s.line.dataBits
    ∧ (State.evaluateCounts s).line.lastFall = s.line.lastFall
    ∧ (State.evaluateCounts s).line.lastRise = s.line.lastRise
    ∧ (State.evaluateCounts s).line.othersLow = s.line.othersLow ∧ (State.evaluateCounts s).line.drive = s.line.drive
    ∧ (State.evaluateCounts s).line.aborting = s.line.aborting
    ∧ (State.evaluateCounts s).line.sampled = s.line.sampled := by
  simp only [State.evaluateCounts]
  (repeat' split) <;> simp

@[simp] theorem State.newRevolution_frame (s : State) (t : Time) :
    (State.newRevolution s t).pending = s.pending ∧ (State.newRevolution s t).now = s.now
    ∧ (State.newRevolution s t).straps = s.straps ∧ (State.newRevolution s t).settings = s.settings
    ∧ (State.newRevolution s t).cap = s.cap ∧ (State.newRevolution s t).scan = s.scan
    ∧ (State.newRevolution s t).phm = s.phm ∧ (State.newRevolution s t).camc = s.camc
    ∧ (State.newRevolution s t).loop = s.loop ∧ (State.newRevolution s t).shr = s.shr
    ∧ (State.newRevolution s t).drv = s.drv ∧ (State.newRevolution s t).supply = s.supply
    ∧ (State.newRevolution s t).line = s.line ∧ (State.newRevolution s t).mon = s.mon
    ∧ (State.newRevolution s t).store = s.store ∧ (State.newRevolution s t).stored = s.stored
    ∧ (State.newRevolution s t).service = s.service ∧ (State.newRevolution s t).pwr = s.pwr
    ∧ (State.newRevolution s t).freeDraws = s.freeDraws := by
  simp [State.newRevolution]

@[simp] theorem State.completeRevolution_frame (s : State) (t : Time) :
    (State.completeRevolution s t).pending = s.pending ∧ (State.completeRevolution s t).now = s.now
    ∧ (State.completeRevolution s t).straps = s.straps ∧ (State.completeRevolution s t).settings = s.settings
    ∧ (State.completeRevolution s t).cap = s.cap ∧ (State.completeRevolution s t).scan = s.scan
    ∧ (State.completeRevolution s t).supply = s.supply ∧ (State.completeRevolution s t).store = s.store
    ∧ (State.completeRevolution s t).stored = s.stored ∧ (State.completeRevolution s t).service = s.service
    ∧ (State.completeRevolution s t).pwr = s.pwr ∧ (State.completeRevolution s t).freeDraws = s.freeDraws
    ∧ (State.completeRevolution s t).line.receiver = s.line.receiver
    ∧ (State.completeRevolution s t).line.sending = s.line.sending
    ∧ (State.completeRevolution s t).line.life = s.line.life ∧ (State.completeRevolution s t).line.seq = s.line.seq
    ∧ (State.completeRevolution s t).line.txEnabled = s.line.txEnabled
    ∧ (State.completeRevolution s t).line.bufferX = s.line.bufferX
    ∧ (State.completeRevolution s t).line.bufferY = s.line.bufferY
    ∧ (State.completeRevolution s t).line.lastBuffer = s.line.lastBuffer
    ∧ (State.completeRevolution s t).line.dataBits = s.line.dataBits
    ∧ (State.completeRevolution s t).line.lastFall = s.line.lastFall
    ∧ (State.completeRevolution s t).line.lastRise = s.line.lastRise
    ∧ (State.completeRevolution s t).line.othersLow = s.line.othersLow
    ∧ (State.completeRevolution s t).line.drive = s.line.drive
    ∧ (State.completeRevolution s t).line.aborting = s.line.aborting
    ∧ (State.completeRevolution s t).line.sampled = s.line.sampled := by
  simp [State.completeRevolution]

@[simp] theorem State.crankInStopped_frame (s : State) (t : Time) :
    (State.crankInStopped s t).pending = s.pending ∧ (State.crankInStopped s t).now = s.now
    ∧ (State.crankInStopped s t).straps = s.straps ∧ (State.crankInStopped s t).settings = s.settings
    ∧ (State.crankInStopped s t).cap = s.cap ∧ (State.crankInStopped s t).scan = s.scan
    ∧ (State.crankInStopped s t).phm = s.phm ∧ (State.crankInStopped s t).camc = s.camc
    ∧ (State.crankInStopped s t).loop = s.loop ∧ (State.crankInStopped s t).shr = s.shr
    ∧ (State.crankInStopped s t).drv = s.drv ∧ (State.crankInStopped s t).supply = s.supply
    ∧ (State.crankInStopped s t).line = s.line ∧ (State.crankInStopped s t).mon = s.mon
    ∧ (State.crankInStopped s t).store = s.store ∧ (State.crankInStopped s t).stored = s.stored
    ∧ (State.crankInStopped s t).service = s.service ∧ (State.crankInStopped s t).freeDraws = s.freeDraws := by
  simp [State.crankInStopped]

@[simp] theorem State.crankInSeek_frame (s : State) (t : Time) :
    (State.crankInSeek s t).pending = s.pending ∧ (State.crankInSeek s t).now = s.now
    ∧ (State.crankInSeek s t).straps = s.straps ∧ (State.crankInSeek s t).settings = s.settings
    ∧ (State.crankInSeek s t).cap = s.cap ∧ (State.crankInSeek s t).scan = s.scan
    ∧ (State.crankInSeek s t).phm = s.phm ∧ (State.crankInSeek s t).camc = s.camc
    ∧ (State.crankInSeek s t).loop = s.loop ∧ (State.crankInSeek s t).shr = s.shr
    ∧ (State.crankInSeek s t).drv = s.drv ∧ (State.crankInSeek s t).supply = s.supply
    ∧ (State.crankInSeek s t).line = s.line ∧ (State.crankInSeek s t).mon = s.mon
    ∧ (State.crankInSeek s t).store = s.store ∧ (State.crankInSeek s t).stored = s.stored
    ∧ (State.crankInSeek s t).service = s.service ∧ (State.crankInSeek s t).pwr = s.pwr
    ∧ (State.crankInSeek s t).freeDraws = s.freeDraws := by
  simp [State.crankInSeek]

@[simp] theorem State.reportAtTooth11_frame (s : State) :
    (State.reportAtTooth11 s).pending = s.pending ∧ (State.reportAtTooth11 s).now = s.now
    ∧ (State.reportAtTooth11 s).straps = s.straps ∧ (State.reportAtTooth11 s).settings = s.settings
    ∧ (State.reportAtTooth11 s).cap = s.cap ∧ (State.reportAtTooth11 s).scan = s.scan
    ∧ (State.reportAtTooth11 s).trk = s.trk ∧ (State.reportAtTooth11 s).phm = s.phm
    ∧ (State.reportAtTooth11 s).camc = s.camc ∧ (State.reportAtTooth11 s).loop = s.loop
    ∧ (State.reportAtTooth11 s).shr = s.shr ∧ (State.reportAtTooth11 s).drv = s.drv
    ∧ (State.reportAtTooth11 s).supply = s.supply ∧ (State.reportAtTooth11 s).mon = s.mon
    ∧ (State.reportAtTooth11 s).store = s.store ∧ (State.reportAtTooth11 s).stored = s.stored
    ∧ (State.reportAtTooth11 s).service = s.service ∧ (State.reportAtTooth11 s).pwr = s.pwr
    ∧ (State.reportAtTooth11 s).freeDraws = s.freeDraws ∧ (State.reportAtTooth11 s).line.receiver = s.line.receiver
    ∧ (State.reportAtTooth11 s).line.sending = s.line.sending ∧ (State.reportAtTooth11 s).line.life = s.line.life
    ∧ (State.reportAtTooth11 s).line.seq = s.line.seq ∧ (State.reportAtTooth11 s).line.txEnabled = s.line.txEnabled
    ∧ (State.reportAtTooth11 s).line.bufferX = s.line.bufferX
    ∧ (State.reportAtTooth11 s).line.bufferY = s.line.bufferY
    ∧ (State.reportAtTooth11 s).line.lastBuffer = s.line.lastBuffer
    ∧ (State.reportAtTooth11 s).line.dataBits = s.line.dataBits
    ∧ (State.reportAtTooth11 s).line.lastFall = s.line.lastFall
    ∧ (State.reportAtTooth11 s).line.lastRise = s.line.lastRise
    ∧ (State.reportAtTooth11 s).line.othersLow = s.line.othersLow ∧ (State.reportAtTooth11 s).line.drive = s.line.drive
    ∧ (State.reportAtTooth11 s).line.aborting = s.line.aborting
    ∧ (State.reportAtTooth11 s).line.sampled = s.line.sampled := by
  simp only [State.reportAtTooth11]
  (repeat' split) <;> simp

@[simp] theorem State.crankInSync_frame (s : State) (t : Time) :
    (State.crankInSync s t).pending = s.pending ∧ (State.crankInSync s t).now = s.now
    ∧ (State.crankInSync s t).straps = s.straps ∧ (State.crankInSync s t).settings = s.settings
    ∧ (State.crankInSync s t).cap = s.cap ∧ (State.crankInSync s t).scan = s.scan
    ∧ (State.crankInSync s t).supply = s.supply ∧ (State.crankInSync s t).store = s.store
    ∧ (State.crankInSync s t).stored = s.stored ∧ (State.crankInSync s t).service = s.service
    ∧ (State.crankInSync s t).pwr = s.pwr ∧ (State.crankInSync s t).freeDraws = s.freeDraws
    ∧ (State.crankInSync s t).line.receiver = s.line.receiver ∧ (State.crankInSync s t).line.sending = s.line.sending
    ∧ (State.crankInSync s t).line.life = s.line.life ∧ (State.crankInSync s t).line.seq = s.line.seq
    ∧ (State.crankInSync s t).line.txEnabled = s.line.txEnabled
    ∧ (State.crankInSync s t).line.bufferX = s.line.bufferX ∧ (State.crankInSync s t).line.bufferY = s.line.bufferY
    ∧ (State.crankInSync s t).line.lastBuffer = s.line.lastBuffer
    ∧ (State.crankInSync s t).line.dataBits = s.line.dataBits
    ∧ (State.crankInSync s t).line.lastFall = s.line.lastFall
    ∧ (State.crankInSync s t).line.lastRise = s.line.lastRise
    ∧ (State.crankInSync s t).line.othersLow = s.line.othersLow ∧ (State.crankInSync s t).line.drive = s.line.drive
    ∧ (State.crankInSync s t).line.aborting = s.line.aborting
    ∧ (State.crankInSync s t).line.sampled = s.line.sampled := by
  simp only [State.crankInSync]
  (repeat' split) <;> simp

@[simp] theorem State.crankEntry_frame (s : State) (t : Time) :
    (State.crankEntry s t).pending = s.pending ∧ (State.crankEntry s t).now = s.now
    ∧ (State.crankEntry s t).straps = s.straps ∧ (State.crankEntry s t).settings = s.settings
    ∧ (State.crankEntry s t).cap = s.cap ∧ (State.crankEntry s t).scan = s.scan
    ∧ (State.crankEntry s t).supply = s.supply ∧ (State.crankEntry s t).store = s.store
    ∧ (State.crankEntry s t).stored = s.stored ∧ (State.crankEntry s t).service = s.service
    ∧ (State.crankEntry s t).freeDraws = s.freeDraws ∧ (State.crankEntry s t).line.receiver = s.line.receiver
    ∧ (State.crankEntry s t).line.sending = s.line.sending ∧ (State.crankEntry s t).line.life = s.line.life
    ∧ (State.crankEntry s t).line.seq = s.line.seq ∧ (State.crankEntry s t).line.txEnabled = s.line.txEnabled
    ∧ (State.crankEntry s t).line.bufferX = s.line.bufferX ∧ (State.crankEntry s t).line.bufferY = s.line.bufferY
    ∧ (State.crankEntry s t).line.lastBuffer = s.line.lastBuffer
    ∧ (State.crankEntry s t).line.dataBits = s.line.dataBits ∧ (State.crankEntry s t).line.lastFall = s.line.lastFall
    ∧ (State.crankEntry s t).line.lastRise = s.line.lastRise
    ∧ (State.crankEntry s t).line.othersLow = s.line.othersLow ∧ (State.crankEntry s t).line.drive = s.line.drive
    ∧ (State.crankEntry s t).line.aborting = s.line.aborting
    ∧ (State.crankEntry s t).line.sampled = s.line.sampled := by
  simp only [State.crankEntry]
  (repeat' split) <;> simp

@[simp] theorem State.countCam_frame (s : State) (c : Cam) :
    (State.countCam s c).pending = s.pending ∧ (State.countCam s c).now = s.now
    ∧ (State.countCam s c).straps = s.straps ∧ (State.countCam s c).settings = s.settings
    ∧ (State.countCam s c).cap = s.cap ∧ (State.countCam s c).scan = s.scan ∧ (State.countCam s c).phm = s.phm
    ∧ (State.countCam s c).camc = s.camc ∧ (State.countCam s c).loop = s.loop ∧ (State.countCam s c).shr = s.shr
    ∧ (State.countCam s c).drv = s.drv ∧ (State.countCam s c).supply = s.supply ∧ (State.countCam s c).line = s.line
    ∧ (State.countCam s c).mon = s.mon ∧ (State.countCam s c).store = s.store ∧ (State.countCam s c).stored = s.stored
    ∧ (State.countCam s c).service = s.service ∧ (State.countCam s c).pwr = s.pwr
    ∧ (State.countCam s c).freeDraws = s.freeDraws := by
  simp [State.countCam]

@[simp] theorem State.camEntry_frame (s : State) (c : Cam) (t : Time) :
    (State.camEntry s c t).pending = s.pending ∧ (State.camEntry s c t).now = s.now
    ∧ (State.camEntry s c t).straps = s.straps ∧ (State.camEntry s c t).settings = s.settings
    ∧ (State.camEntry s c t).cap = s.cap ∧ (State.camEntry s c t).scan = s.scan
    ∧ (State.camEntry s c t).supply = s.supply ∧ (State.camEntry s c t).stored = s.stored
    ∧ (State.camEntry s c t).service = s.service ∧ (State.camEntry s c t).pwr = s.pwr
    ∧ (State.camEntry s c t).freeDraws = s.freeDraws ∧ (State.camEntry s c t).line.receiver = s.line.receiver
    ∧ (State.camEntry s c t).line.sending = s.line.sending ∧ (State.camEntry s c t).line.life = s.line.life
    ∧ (State.camEntry s c t).line.seq = s.line.seq ∧ (State.camEntry s c t).line.txEnabled = s.line.txEnabled
    ∧ (State.camEntry s c t).line.bufferX = s.line.bufferX ∧ (State.camEntry s c t).line.bufferY = s.line.bufferY
    ∧ (State.camEntry s c t).line.lastBuffer = s.line.lastBuffer
    ∧ (State.camEntry s c t).line.dataBits = s.line.dataBits ∧ (State.camEntry s c t).line.lastFall = s.line.lastFall
    ∧ (State.camEntry s c t).line.lastRise = s.line.lastRise
    ∧ (State.camEntry s c t).line.othersLow = s.line.othersLow ∧ (State.camEntry s c t).line.drive = s.line.drive
    ∧ (State.camEntry s c t).line.aborting = s.line.aborting
    ∧ (State.camEntry s c t).line.sampled = s.line.sampled := by
  simp only [State.camEntry]
  (repeat' split) <;> simp

@[simp] theorem State.overflowMarker_frame (s : State) (t : Time) :
    (State.overflowMarker s t).pending = s.pending ∧ (State.overflowMarker s t).now = s.now
    ∧ (State.overflowMarker s t).straps = s.straps ∧ (State.overflowMarker s t).settings = s.settings
    ∧ (State.overflowMarker s t).cap = s.cap ∧ (State.overflowMarker s t).scan = s.scan
    ∧ (State.overflowMarker s t).supply = s.supply ∧ (State.overflowMarker s t).store = s.store
    ∧ (State.overflowMarker s t).stored = s.stored ∧ (State.overflowMarker s t).service = s.service
    ∧ (State.overflowMarker s t).freeDraws = s.freeDraws ∧ (State.overflowMarker s t).line.receiver = s.line.receiver
    ∧ (State.overflowMarker s t).line.sending = s.line.sending ∧ (State.overflowMarker s t).line.life = s.line.life
    ∧ (State.overflowMarker s t).line.seq = s.line.seq ∧ (State.overflowMarker s t).line.txEnabled = s.line.txEnabled
    ∧ (State.overflowMarker s t).line.bufferX = s.line.bufferX
    ∧ (State.overflowMarker s t).line.bufferY = s.line.bufferY
    ∧ (State.overflowMarker s t).line.lastBuffer = s.line.lastBuffer
    ∧ (State.overflowMarker s t).line.dataBits = s.line.dataBits
    ∧ (State.overflowMarker s t).line.lastFall = s.line.lastFall
    ∧ (State.overflowMarker s t).line.lastRise = s.line.lastRise
    ∧ (State.overflowMarker s t).line.othersLow = s.line.othersLow ∧ (State.overflowMarker s t).line.drive = s.line.drive
    ∧ (State.overflowMarker s t).line.aborting = s.line.aborting
    ∧ (State.overflowMarker s t).line.sampled = s.line.sampled := by
  simp only [State.overflowMarker]
  (repeat' split) <;> simp

@[simp] theorem State.adopt_frame (s : State) (h : Half) :
    (State.adopt s h).pending = s.pending ∧ (State.adopt s h).now = s.now ∧ (State.adopt s h).straps = s.straps
    ∧ (State.adopt s h).settings = s.settings ∧ (State.adopt s h).cap = s.cap ∧ (State.adopt s h).scan = s.scan
    ∧ (State.adopt s h).camc = s.camc ∧ (State.adopt s h).loop = s.loop ∧ (State.adopt s h).shr = s.shr
    ∧ (State.adopt s h).drv = s.drv ∧ (State.adopt s h).supply = s.supply ∧ (State.adopt s h).store = s.store
    ∧ (State.adopt s h).stored = s.stored ∧ (State.adopt s h).service = s.service ∧ (State.adopt s h).pwr = s.pwr
    ∧ (State.adopt s h).freeDraws = s.freeDraws ∧ (State.adopt s h).line.receiver = s.line.receiver
    ∧ (State.adopt s h).line.sending = s.line.sending ∧ (State.adopt s h).line.life = s.line.life
    ∧ (State.adopt s h).line.seq = s.line.seq ∧ (State.adopt s h).line.txEnabled = s.line.txEnabled
    ∧ (State.adopt s h).line.bufferX = s.line.bufferX ∧ (State.adopt s h).line.bufferY = s.line.bufferY
    ∧ (State.adopt s h).line.lastBuffer = s.line.lastBuffer ∧ (State.adopt s h).line.dataBits = s.line.dataBits
    ∧ (State.adopt s h).line.lastFall = s.line.lastFall ∧ (State.adopt s h).line.lastRise = s.line.lastRise
    ∧ (State.adopt s h).line.othersLow = s.line.othersLow ∧ (State.adopt s h).line.drive = s.line.drive
    ∧ (State.adopt s h).line.aborting = s.line.aborting
    ∧ (State.adopt s h).line.sampled = s.line.sampled := by
  simp [State.adopt]

@[simp] theorem State.takeReport_frame (s : State) (n : Nat) (payload : List Byte) :
    (State.takeReport s n payload).pending = s.pending ∧ (State.takeReport s n payload).now = s.now
    ∧ (State.takeReport s n payload).straps = s.straps ∧ (State.takeReport s n payload).settings = s.settings
    ∧ (State.takeReport s n payload).cap = s.cap ∧ (State.takeReport s n payload).scan = s.scan
    ∧ (State.takeReport s n payload).camc = s.camc ∧ (State.takeReport s n payload).loop = s.loop
    ∧ (State.takeReport s n payload).drv = s.drv ∧ (State.takeReport s n payload).supply = s.supply
    ∧ (State.takeReport s n payload).store = s.store ∧ (State.takeReport s n payload).stored = s.stored
    ∧ (State.takeReport s n payload).service = s.service ∧ (State.takeReport s n payload).pwr = s.pwr
    ∧ (State.takeReport s n payload).freeDraws = s.freeDraws
    ∧ (State.takeReport s n payload).line.receiver = s.line.receiver
    ∧ (State.takeReport s n payload).line.sending = s.line.sending
    ∧ (State.takeReport s n payload).line.life = s.line.life ∧ (State.takeReport s n payload).line.seq = s.line.seq
    ∧ (State.takeReport s n payload).line.txEnabled = s.line.txEnabled
    ∧ (State.takeReport s n payload).line.bufferX = s.line.bufferX
    ∧ (State.takeReport s n payload).line.bufferY = s.line.bufferY
    ∧ (State.takeReport s n payload).line.lastBuffer = s.line.lastBuffer
    ∧ (State.takeReport s n payload).line.dataBits = s.line.dataBits
    ∧ (State.takeReport s n payload).line.lastFall = s.line.lastFall
    ∧ (State.takeReport s n payload).line.lastRise = s.line.lastRise
    ∧ (State.takeReport s n payload).line.othersLow = s.line.othersLow
    ∧ (State.takeReport s n payload).line.drive = s.line.drive
    ∧ (State.takeReport s n payload).line.aborting = s.line.aborting
    ∧ (State.takeReport s n payload).line.sampled = s.line.sampled := by
  simp only [State.takeReport]
  (repeat' split) <;> simp

@[simp] theorem State.openPeriod_frame (c : Cam) (s : State) :
    (State.openPeriod c s).pending = s.pending ∧ (State.openPeriod c s).now = s.now
    ∧ (State.openPeriod c s).straps = s.straps ∧ (State.openPeriod c s).settings = s.settings
    ∧ (State.openPeriod c s).cap = s.cap ∧ (State.openPeriod c s).trk = s.trk ∧ (State.openPeriod c s).phm = s.phm
    ∧ (State.openPeriod c s).camc = s.camc ∧ (State.openPeriod c s).loop = s.loop ∧ (State.openPeriod c s).shr = s.shr
    ∧ (State.openPeriod c s).supply = s.supply ∧ (State.openPeriod c s).line = s.line
    ∧ (State.openPeriod c s).mon = s.mon ∧ (State.openPeriod c s).store = s.store
    ∧ (State.openPeriod c s).stored = s.stored ∧ (State.openPeriod c s).service = s.service
    ∧ (State.openPeriod c s).pwr = s.pwr ∧ (State.openPeriod c s).freeDraws = s.freeDraws := by
  simp [State.openPeriod]

@[simp] theorem State.closeTrip_frame (s : State) (c : Cam) :
    (State.closeTrip s c).pending = s.pending ∧ (State.closeTrip s c).now = s.now
    ∧ (State.closeTrip s c).straps = s.straps ∧ (State.closeTrip s c).settings = s.settings
    ∧ (State.closeTrip s c).cap = s.cap ∧ (State.closeTrip s c).scan = s.scan ∧ (State.closeTrip s c).trk = s.trk
    ∧ (State.closeTrip s c).supply = s.supply ∧ (State.closeTrip s c).store = s.store
    ∧ (State.closeTrip s c).stored = s.stored ∧ (State.closeTrip s c).service = s.service
    ∧ (State.closeTrip s c).pwr = s.pwr ∧ (State.closeTrip s c).freeDraws = s.freeDraws
    ∧ (State.closeTrip s c).line.receiver = s.line.receiver ∧ (State.closeTrip s c).line.sending = s.line.sending
    ∧ (State.closeTrip s c).line.life = s.line.life ∧ (State.closeTrip s c).line.seq = s.line.seq
    ∧ (State.closeTrip s c).line.txEnabled = s.line.txEnabled ∧ (State.closeTrip s c).line.bufferX = s.line.bufferX
    ∧ (State.closeTrip s c).line.bufferY = s.line.bufferY ∧ (State.closeTrip s c).line.lastBuffer = s.line.lastBuffer
    ∧ (State.closeTrip s c).line.dataBits = s.line.dataBits ∧ (State.closeTrip s c).line.lastFall = s.line.lastFall
    ∧ (State.closeTrip s c).line.lastRise = s.line.lastRise
    ∧ (State.closeTrip s c).line.othersLow = s.line.othersLow ∧ (State.closeTrip s c).line.drive = s.line.drive
    ∧ (State.closeTrip s c).line.aborting = s.line.aborting
    ∧ (State.closeTrip s c).line.sampled = s.line.sampled := by
  simp only [State.closeTrip]
  (repeat' split) <;> simp

@[simp] theorem State.closeOpenLoad_frame (s : State) (c : Cam) :
    (State.closeOpenLoad s c).pending = s.pending ∧ (State.closeOpenLoad s c).now = s.now
    ∧ (State.closeOpenLoad s c).straps = s.straps ∧ (State.closeOpenLoad s c).settings = s.settings
    ∧ (State.closeOpenLoad s c).cap = s.cap ∧ (State.closeOpenLoad s c).scan = s.scan
    ∧ (State.closeOpenLoad s c).trk = s.trk ∧ (State.closeOpenLoad s c).supply = s.supply
    ∧ (State.closeOpenLoad s c).store = s.store ∧ (State.closeOpenLoad s c).stored = s.stored
    ∧ (State.closeOpenLoad s c).service = s.service ∧ (State.closeOpenLoad s c).pwr = s.pwr
    ∧ (State.closeOpenLoad s c).freeDraws = s.freeDraws ∧ (State.closeOpenLoad s c).line.receiver = s.line.receiver
    ∧ (State.closeOpenLoad s c).line.sending = s.line.sending ∧ (State.closeOpenLoad s c).line.life = s.line.life
    ∧ (State.closeOpenLoad s c).line.seq = s.line.seq ∧ (State.closeOpenLoad s c).line.txEnabled = s.line.txEnabled
    ∧ (State.closeOpenLoad s c).line.bufferX = s.line.bufferX
    ∧ (State.closeOpenLoad s c).line.bufferY = s.line.bufferY
    ∧ (State.closeOpenLoad s c).line.lastBuffer = s.line.lastBuffer
    ∧ (State.closeOpenLoad s c).line.dataBits = s.line.dataBits
    ∧ (State.closeOpenLoad s c).line.lastFall = s.line.lastFall
    ∧ (State.closeOpenLoad s c).line.lastRise = s.line.lastRise
    ∧ (State.closeOpenLoad s c).line.othersLow = s.line.othersLow ∧ (State.closeOpenLoad s c).line.drive = s.line.drive
    ∧ (State.closeOpenLoad s c).line.aborting = s.line.aborting
    ∧ (State.closeOpenLoad s c).line.sampled = s.line.sampled := by
  simp only [State.closeOpenLoad]
  (repeat' split) <;> simp

@[simp] theorem State.closePeriod_frame (s : State) (c : Cam) :
    (State.closePeriod s c).pending = s.pending ∧ (State.closePeriod s c).now = s.now
    ∧ (State.closePeriod s c).straps = s.straps ∧ (State.closePeriod s c).settings = s.settings
    ∧ (State.closePeriod s c).cap = s.cap ∧ (State.closePeriod s c).scan = s.scan
    ∧ (State.closePeriod s c).trk = s.trk ∧ (State.closePeriod s c).supply = s.supply
    ∧ (State.closePeriod s c).store = s.store ∧ (State.closePeriod s c).stored = s.stored
    ∧ (State.closePeriod s c).service = s.service ∧ (State.closePeriod s c).pwr = s.pwr
    ∧ (State.closePeriod s c).freeDraws = s.freeDraws ∧ (State.closePeriod s c).line.receiver = s.line.receiver
    ∧ (State.closePeriod s c).line.sending = s.line.sending ∧ (State.closePeriod s c).line.life = s.line.life
    ∧ (State.closePeriod s c).line.seq = s.line.seq ∧ (State.closePeriod s c).line.txEnabled = s.line.txEnabled
    ∧ (State.closePeriod s c).line.bufferX = s.line.bufferX ∧ (State.closePeriod s c).line.bufferY = s.line.bufferY
    ∧ (State.closePeriod s c).line.lastBuffer = s.line.lastBuffer
    ∧ (State.closePeriod s c).line.dataBits = s.line.dataBits
    ∧ (State.closePeriod s c).line.lastFall = s.line.lastFall
    ∧ (State.closePeriod s c).line.lastRise = s.line.lastRise
    ∧ (State.closePeriod s c).line.othersLow = s.line.othersLow ∧ (State.closePeriod s c).line.drive = s.line.drive
    ∧ (State.closePeriod s c).line.aborting = s.line.aborting
    ∧ (State.closePeriod s c).line.sampled = s.line.sampled := by
  simp [State.closePeriod]

@[simp] theorem State.handSupply_frame (s : State) :
    (State.handSupply s).pending = s.pending ∧ (State.handSupply s).now = s.now
    ∧ (State.handSupply s).straps = s.straps ∧ (State.handSupply s).settings = s.settings
    ∧ (State.handSupply s).cap = s.cap ∧ (State.handSupply s).scan = s.scan ∧ (State.handSupply s).trk = s.trk
    ∧ (State.handSupply s).phm = s.phm ∧ (State.handSupply s).camc = s.camc ∧ (State.handSupply s).loop = s.loop
    ∧ (State.handSupply s).shr = s.shr ∧ (State.handSupply s).drv = s.drv ∧ (State.handSupply s).line = s.line
    ∧ (State.handSupply s).mon = s.mon ∧ (State.handSupply s).store = s.store ∧ (State.handSupply s).stored = s.stored
    ∧ (State.handSupply s).service = s.service ∧ (State.handSupply s).pwr = s.pwr
    ∧ (State.handSupply s).freeDraws = s.freeDraws := by
  simp only [State.handSupply]
  (repeat' split) <;> simp

@[simp] theorem State.supplyLowExpiry_frame (s : State) :
    (State.supplyLowExpiry s).pending = s.pending ∧ (State.supplyLowExpiry s).now = s.now
    ∧ (State.supplyLowExpiry s).straps = s.straps ∧ (State.supplyLowExpiry s).settings = s.settings
    ∧ (State.supplyLowExpiry s).cap = s.cap ∧ (State.supplyLowExpiry s).scan = s.scan
    ∧ (State.supplyLowExpiry s).trk = s.trk ∧ (State.supplyLowExpiry s).store = s.store
    ∧ (State.supplyLowExpiry s).stored = s.stored ∧ (State.supplyLowExpiry s).service = s.service
    ∧ (State.supplyLowExpiry s).pwr = s.pwr ∧ (State.supplyLowExpiry s).freeDraws = s.freeDraws
    ∧ (State.supplyLowExpiry s).line.receiver = s.line.receiver
    ∧ (State.supplyLowExpiry s).line.sending = s.line.sending ∧ (State.supplyLowExpiry s).line.life = s.line.life
    ∧ (State.supplyLowExpiry s).line.seq = s.line.seq ∧ (State.supplyLowExpiry s).line.txEnabled = s.line.txEnabled
    ∧ (State.supplyLowExpiry s).line.bufferX = s.line.bufferX
    ∧ (State.supplyLowExpiry s).line.bufferY = s.line.bufferY
    ∧ (State.supplyLowExpiry s).line.lastBuffer = s.line.lastBuffer
    ∧ (State.supplyLowExpiry s).line.dataBits = s.line.dataBits
    ∧ (State.supplyLowExpiry s).line.lastFall = s.line.lastFall
    ∧ (State.supplyLowExpiry s).line.lastRise = s.line.lastRise
    ∧ (State.supplyLowExpiry s).line.othersLow = s.line.othersLow ∧ (State.supplyLowExpiry s).line.drive = s.line.drive
    ∧ (State.supplyLowExpiry s).line.aborting = s.line.aborting
    ∧ (State.supplyLowExpiry s).line.sampled = s.line.sampled := by
  simp [State.supplyLowExpiry, State.bothCams]

@[simp] theorem State.nextConversion_frame (s : State) (ch : Channel) :
    (State.nextConversion s ch).pending = s.pending ∧ (State.nextConversion s ch).now = s.now
    ∧ (State.nextConversion s ch).straps = s.straps ∧ (State.nextConversion s ch).settings = s.settings
    ∧ (State.nextConversion s ch).cap = s.cap ∧ (State.nextConversion s ch).trk = s.trk
    ∧ (State.nextConversion s ch).phm = s.phm ∧ (State.nextConversion s ch).camc = s.camc
    ∧ (State.nextConversion s ch).loop = s.loop ∧ (State.nextConversion s ch).shr = s.shr
    ∧ (State.nextConversion s ch).drv = s.drv ∧ (State.nextConversion s ch).supply = s.supply
    ∧ (State.nextConversion s ch).line = s.line ∧ (State.nextConversion s ch).mon = s.mon
    ∧ (State.nextConversion s ch).store = s.store ∧ (State.nextConversion s ch).stored = s.stored
    ∧ (State.nextConversion s ch).service = s.service ∧ (State.nextConversion s ch).pwr = s.pwr
    ∧ (State.nextConversion s ch).freeDraws = s.freeDraws := by
  simp [State.nextConversion]

@[simp] theorem State.endPass_frame (s : State) :
    (State.endPass s).pending = s.pending ∧ (State.endPass s).now = s.now ∧ (State.endPass s).straps = s.straps
    ∧ (State.endPass s).settings = s.settings ∧ (State.endPass s).cap = s.cap ∧ (State.endPass s).trk = s.trk
    ∧ (State.endPass s).phm = s.phm ∧ (State.endPass s).camc = s.camc ∧ (State.endPass s).loop = s.loop
    ∧ (State.endPass s).shr = s.shr ∧ (State.endPass s).drv = s.drv ∧ (State.endPass s).supply = s.supply
    ∧ (State.endPass s).line = s.line ∧ (State.endPass s).mon = s.mon ∧ (State.endPass s).store = s.store
    ∧ (State.endPass s).stored = s.stored ∧ (State.endPass s).service = s.service ∧ (State.endPass s).pwr = s.pwr
    ∧ (State.endPass s).freeDraws = s.freeDraws := by
  simp only [State.endPass]
  (repeat' split) <;> simp

@[simp] theorem State.addCoil_frame (s : State) (c : Cam) (count : Nat) :
    (State.addCoil s c count).pending = s.pending ∧ (State.addCoil s c count).now = s.now
    ∧ (State.addCoil s c count).straps = s.straps ∧ (State.addCoil s c count).settings = s.settings
    ∧ (State.addCoil s c count).cap = s.cap ∧ (State.addCoil s c count).trk = s.trk
    ∧ (State.addCoil s c count).phm = s.phm ∧ (State.addCoil s c count).camc = s.camc
    ∧ (State.addCoil s c count).loop = s.loop ∧ (State.addCoil s c count).shr = s.shr
    ∧ (State.addCoil s c count).drv = s.drv ∧ (State.addCoil s c count).supply = s.supply
    ∧ (State.addCoil s c count).line = s.line ∧ (State.addCoil s c count).mon = s.mon
    ∧ (State.addCoil s c count).store = s.store ∧ (State.addCoil s c count).stored = s.stored
    ∧ (State.addCoil s c count).service = s.service ∧ (State.addCoil s c count).pwr = s.pwr
    ∧ (State.addCoil s c count).freeDraws = s.freeDraws := by
  simp only [State.addCoil]
  (repeat' split) <;> simp

@[simp] theorem State.pressureCount_frame (s : State) (count : Nat) :
    (State.pressureCount s count).pending = s.pending ∧ (State.pressureCount s count).now = s.now
    ∧ (State.pressureCount s count).straps = s.straps ∧ (State.pressureCount s count).settings = s.settings
    ∧ (State.pressureCount s count).cap = s.cap ∧ (State.pressureCount s count).trk = s.trk
    ∧ (State.pressureCount s count).phm = s.phm ∧ (State.pressureCount s count).camc = s.camc
    ∧ (State.pressureCount s count).loop = s.loop ∧ (State.pressureCount s count).drv = s.drv
    ∧ (State.pressureCount s count).supply = s.supply ∧ (State.pressureCount s count).store = s.store
    ∧ (State.pressureCount s count).stored = s.stored ∧ (State.pressureCount s count).service = s.service
    ∧ (State.pressureCount s count).pwr = s.pwr ∧ (State.pressureCount s count).freeDraws = s.freeDraws
    ∧ (State.pressureCount s count).line.receiver = s.line.receiver
    ∧ (State.pressureCount s count).line.sending = s.line.sending
    ∧ (State.pressureCount s count).line.life = s.line.life ∧ (State.pressureCount s count).line.seq = s.line.seq
    ∧ (State.pressureCount s count).line.txEnabled = s.line.txEnabled
    ∧ (State.pressureCount s count).line.bufferX = s.line.bufferX
    ∧ (State.pressureCount s count).line.bufferY = s.line.bufferY
    ∧ (State.pressureCount s count).line.lastBuffer = s.line.lastBuffer
    ∧ (State.pressureCount s count).line.dataBits = s.line.dataBits
    ∧ (State.pressureCount s count).line.lastFall = s.line.lastFall
    ∧ (State.pressureCount s count).line.lastRise = s.line.lastRise
    ∧ (State.pressureCount s count).line.othersLow = s.line.othersLow ∧ (State.pressureCount s count).line.drive = s.line.drive
    ∧ (State.pressureCount s count).line.aborting = s.line.aborting
    ∧ (State.pressureCount s count).line.sampled = s.line.sampled := by
  simp only [State.pressureCount]
  (repeat' split) <;> simp

@[simp] theorem State.temperatureCount_frame (s : State) (count : Nat) :
    (State.temperatureCount s count).pending = s.pending ∧ (State.temperatureCount s count).now = s.now
    ∧ (State.temperatureCount s count).straps = s.straps ∧ (State.temperatureCount s count).settings = s.settings
    ∧ (State.temperatureCount s count).cap = s.cap ∧ (State.temperatureCount s count).trk = s.trk
    ∧ (State.temperatureCount s count).phm = s.phm ∧ (State.temperatureCount s count).camc = s.camc
    ∧ (State.temperatureCount s count).loop = s.loop ∧ (State.temperatureCount s count).shr = s.shr
    ∧ (State.temperatureCount s count).drv = s.drv ∧ (State.temperatureCount s count).supply = s.supply
    ∧ (State.temperatureCount s count).store = s.store ∧ (State.temperatureCount s count).stored = s.stored
    ∧ (State.temperatureCount s count).service = s.service ∧ (State.temperatureCount s count).pwr = s.pwr
    ∧ (State.temperatureCount s count).freeDraws = s.freeDraws
    ∧ (State.temperatureCount s count).line.receiver = s.line.receiver
    ∧ (State.temperatureCount s count).line.sending = s.line.sending
    ∧ (State.temperatureCount s count).line.life = s.line.life
    ∧ (State.temperatureCount s count).line.seq = s.line.seq
    ∧ (State.temperatureCount s count).line.txEnabled = s.line.txEnabled
    ∧ (State.temperatureCount s count).line.bufferX = s.line.bufferX
    ∧ (State.temperatureCount s count).line.bufferY = s.line.bufferY
    ∧ (State.temperatureCount s count).line.lastBuffer = s.line.lastBuffer
    ∧ (State.temperatureCount s count).line.dataBits = s.line.dataBits
    ∧ (State.temperatureCount s count).line.lastFall = s.line.lastFall
    ∧ (State.temperatureCount s count).line.lastRise = s.line.lastRise
    ∧ (State.temperatureCount s count).line.othersLow = s.line.othersLow
    ∧ (State.temperatureCount s count).line.drive = s.line.drive
    ∧ (State.temperatureCount s count).line.aborting = s.line.aborting
    ∧ (State.temperatureCount s count).line.sampled = s.line.sampled := by
  simp only [State.temperatureCount]
  (repeat' split) <;> simp

@[simp] theorem State.enterRun_frame (s : State) :
    (State.enterRun s).pending = s.pending ∧ (State.enterRun s).now = s.now ∧ (State.enterRun s).straps = s.straps
    ∧ (State.enterRun s).settings = s.settings ∧ (State.enterRun s).cap = s.cap ∧ (State.enterRun s).trk = s.trk
    ∧ (State.enterRun s).phm = s.phm ∧ (State.enterRun s).camc = s.camc ∧ (State.enterRun s).loop = s.loop
    ∧ (State.enterRun s).supply = s.supply ∧ (State.enterRun s).line = s.line ∧ (State.enterRun s).store = s.store
    ∧ (State.enterRun s).stored = s.stored ∧ (State.enterRun s).service = s.service
    ∧ (State.enterRun s).freeDraws = s.freeDraws := by
  simp only [State.enterRun]
  (repeat' split) <;> simp [State.bothCams]

@[simp] theorem State.stopDrivers_frame (s : State) :
    (State.stopDrivers s).pending = s.pending ∧ (State.stopDrivers s).now = s.now
    ∧ (State.stopDrivers s).straps = s.straps ∧ (State.stopDrivers s).settings = s.settings
    ∧ (State.stopDrivers s).cap = s.cap ∧ (State.stopDrivers s).scan = s.scan ∧ (State.stopDrivers s).trk = s.trk
    ∧ (State.stopDrivers s).phm = s.phm ∧ (State.stopDrivers s).camc = s.camc ∧ (State.stopDrivers s).loop = s.loop
    ∧ (State.stopDrivers s).shr = s.shr ∧ (State.stopDrivers s).supply = s.supply
    ∧ (State.stopDrivers s).line = s.line ∧ (State.stopDrivers s).mon = s.mon ∧ (State.stopDrivers s).store = s.store
    ∧ (State.stopDrivers s).stored = s.stored ∧ (State.stopDrivers s).service = s.service
    ∧ (State.stopDrivers s).pwr = s.pwr ∧ (State.stopDrivers s).freeDraws = s.freeDraws := by
  simp [State.stopDrivers]

@[simp] theorem State.enterStandby_frame (s : State) :
    (State.enterStandby s).pending = s.pending ∧ (State.enterStandby s).now = s.now
    ∧ (State.enterStandby s).straps = s.straps ∧ (State.enterStandby s).settings = s.settings
    ∧ (State.enterStandby s).cap = s.cap ∧ (State.enterStandby s).scan = s.scan ∧ (State.enterStandby s).trk = s.trk
    ∧ (State.enterStandby s).phm = s.phm ∧ (State.enterStandby s).camc = s.camc ∧ (State.enterStandby s).loop = s.loop
    ∧ (State.enterStandby s).supply = s.supply ∧ (State.enterStandby s).store = s.store
    ∧ (State.enterStandby s).stored = s.stored ∧ (State.enterStandby s).service = s.service
    ∧ (State.enterStandby s).freeDraws = s.freeDraws ∧ (State.enterStandby s).line.receiver = s.line.receiver
    ∧ (State.enterStandby s).line.sending = s.line.sending ∧ (State.enterStandby s).line.life = s.line.life
    ∧ (State.enterStandby s).line.seq = s.line.seq ∧ (State.enterStandby s).line.txEnabled = s.line.txEnabled
    ∧ (State.enterStandby s).line.bufferX = s.line.bufferX ∧ (State.enterStandby s).line.bufferY = s.line.bufferY
    ∧ (State.enterStandby s).line.lastBuffer = s.line.lastBuffer
    ∧ (State.enterStandby s).line.dataBits = s.line.dataBits ∧ (State.enterStandby s).line.lastFall = s.line.lastFall
    ∧ (State.enterStandby s).line.lastRise = s.line.lastRise
    ∧ (State.enterStandby s).line.othersLow = s.line.othersLow ∧ (State.enterStandby s).line.drive = s.line.drive
    ∧ (State.enterStandby s).line.aborting = s.line.aborting
    ∧ (State.enterStandby s).line.sampled = s.line.sampled := by
  simp [State.enterStandby]

@[simp] theorem State.enterDoze_frame (s : State) :
    (State.enterDoze s).pending = s.pending ∧ (State.enterDoze s).now = s.now ∧ (State.enterDoze s).straps = s.straps
    ∧ (State.enterDoze s).settings = s.settings ∧ (State.enterDoze s).trk = s.trk ∧ (State.enterDoze s).loop = s.loop
    ∧ (State.enterDoze s).store = s.store ∧ (State.enterDoze s).stored = s.stored
    ∧ (State.enterDoze s).freeDraws = s.freeDraws := by
  simp [State.enterDoze]

@[simp] theorem State.dozeCheck_frame (s : State) :
    (State.dozeCheck s).pending = s.pending ∧ (State.dozeCheck s).now = s.now ∧ (State.dozeCheck s).straps = s.straps
    ∧ (State.dozeCheck s).settings = s.settings ∧ (State.dozeCheck s).trk = s.trk ∧ (State.dozeCheck s).loop = s.loop
    ∧ (State.dozeCheck s).store = s.store ∧ (State.dozeCheck s).stored = s.stored
    ∧ (State.dozeCheck s).freeDraws = s.freeDraws := by
  simp only [State.dozeCheck]
  (repeat' split) <;> simp

@[simp] theorem State.wakeUp_frame (s : State) :
    (State.wakeUp s).pending = s.pending ∧ (State.wakeUp s).straps = s.straps ∧ (State.wakeUp s).settings = s.settings
    ∧ (State.wakeUp s).cap = s.cap ∧ (State.wakeUp s).trk = s.trk ∧ (State.wakeUp s).phm = s.phm
    ∧ (State.wakeUp s).loop = s.loop ∧ (State.wakeUp s).supply = s.supply ∧ (State.wakeUp s).store = s.store
    ∧ (State.wakeUp s).stored = s.stored ∧ (State.wakeUp s).service = s.service
    ∧ (State.wakeUp s).freeDraws = s.freeDraws := by
  simp [State.wakeUp]

@[simp] theorem State.assertReset_frame (s : State) (cause : ResetCause) :
    (State.assertReset s cause).pending = s.pending ∧ (State.assertReset s cause).freeDraws = s.freeDraws := by
  exact ⟨rfl, rfl⟩

@[simp] theorem State.releaseReset_frame (s : State) :
    (State.releaseReset s).pending = s.pending ∧ (State.releaseReset s).straps = s.straps
    ∧ (State.releaseReset s).settings = s.settings ∧ (State.releaseReset s).cap = s.cap
    ∧ (State.releaseReset s).scan = s.scan ∧ (State.releaseReset s).trk = s.trk ∧ (State.releaseReset s).phm = s.phm
    ∧ (State.releaseReset s).camc = s.camc ∧ (State.releaseReset s).loop = s.loop ∧ (State.releaseReset s).shr = s.shr
    ∧ (State.releaseReset s).drv = s.drv ∧ (State.releaseReset s).supply = s.supply
    ∧ (State.releaseReset s).line = s.line ∧ (State.releaseReset s).mon = s.mon
    ∧ (State.releaseReset s).store = s.store ∧ (State.releaseReset s).stored = s.stored
    ∧ (State.releaseReset s).service = s.service ∧ (State.releaseReset s).freeDraws = s.freeDraws := by
  simp [State.releaseReset]

@[simp] theorem State.startUp_frame (s : State) (pins : Straps) :
    (State.startUp s pins).pending = s.pending ∧ (State.startUp s pins).now = s.now
    ∧ (State.startUp s pins).settings = s.settings ∧ (State.startUp s pins).cap = s.cap
    ∧ (State.startUp s pins).trk = s.trk ∧ (State.startUp s pins).phm = s.phm ∧ (State.startUp s pins).camc = s.camc
    ∧ (State.startUp s pins).loop = s.loop ∧ (State.startUp s pins).shr = s.shr ∧ (State.startUp s pins).drv = s.drv
    ∧ (State.startUp s pins).supply = s.supply ∧ (State.startUp s pins).mon = s.mon
    ∧ (State.startUp s pins).store = s.store ∧ (State.startUp s pins).stored = s.stored
    ∧ (State.startUp s pins).service = s.service ∧ (State.startUp s pins).freeDraws = s.freeDraws := by
  simp [State.startUp]

@[simp] theorem State.signalCrank_frame (s : State) :
    (State.signalCrank s).pending = s.pending ∧ (State.signalCrank s).now = s.now
    ∧ (State.signalCrank s).straps = s.straps ∧ (State.signalCrank s).settings = s.settings
    ∧ (State.signalCrank s).cap = s.cap ∧ (State.signalCrank s).trk = s.trk ∧ (State.signalCrank s).phm = s.phm
    ∧ (State.signalCrank s).camc = s.camc ∧ (State.signalCrank s).loop = s.loop
    ∧ (State.signalCrank s).supply = s.supply ∧ (State.signalCrank s).line = s.line
    ∧ (State.signalCrank s).store = s.store ∧ (State.signalCrank s).stored = s.stored
    ∧ (State.signalCrank s).service = s.service ∧ (State.signalCrank s).freeDraws = s.freeDraws := by
  simp only [State.signalCrank]
  (repeat' split) <;> simp

@[simp] theorem State.crankEdge_frame (s : State) :
    (State.crankEdge s).pending = s.pending ∧ (State.crankEdge s).now = s.now ∧ (State.crankEdge s).straps = s.straps
    ∧ (State.crankEdge s).settings = s.settings ∧ (State.crankEdge s).trk = s.trk ∧ (State.crankEdge s).phm = s.phm
    ∧ (State.crankEdge s).camc = s.camc ∧ (State.crankEdge s).loop = s.loop ∧ (State.crankEdge s).supply = s.supply
    ∧ (State.crankEdge s).line = s.line ∧ (State.crankEdge s).store = s.store ∧ (State.crankEdge s).stored = s.stored
    ∧ (State.crankEdge s).service = s.service ∧ (State.crankEdge s).freeDraws = s.freeDraws := by
  simp only [State.crankEdge]
  (repeat' split) <;> simp

@[simp] theorem State.camEdge_frame (s : State) (c : Cam) :
    (State.camEdge s c).pending = s.pending ∧ (State.camEdge s c).now = s.now ∧ (State.camEdge s c).straps = s.straps
    ∧ (State.camEdge s c).settings = s.settings ∧ (State.camEdge s c).scan = s.scan ∧ (State.camEdge s c).trk = s.trk
    ∧ (State.camEdge s c).phm = s.phm ∧ (State.camEdge s c).camc = s.camc ∧ (State.camEdge s c).loop = s.loop
    ∧ (State.camEdge s c).shr = s.shr ∧ (State.camEdge s c).drv = s.drv ∧ (State.camEdge s c).supply = s.supply
    ∧ (State.camEdge s c).line = s.line ∧ (State.camEdge s c).mon = s.mon ∧ (State.camEdge s c).store = s.store
    ∧ (State.camEdge s c).stored = s.stored ∧ (State.camEdge s c).service = s.service
    ∧ (State.camEdge s c).pwr = s.pwr ∧ (State.camEdge s c).freeDraws = s.freeDraws := by
  simp only [State.camEdge]
  (repeat' split) <;> simp

@[simp] theorem State.dropOwnFrame_frame (s : State) :
    (State.dropOwnFrame s).pending = s.pending ∧ (State.dropOwnFrame s).now = s.now
    ∧ (State.dropOwnFrame s).straps = s.straps ∧ (State.dropOwnFrame s).settings = s.settings
    ∧ (State.dropOwnFrame s).cap = s.cap ∧ (State.dropOwnFrame s).scan = s.scan ∧ (State.dropOwnFrame s).trk = s.trk
    ∧ (State.dropOwnFrame s).phm = s.phm ∧ (State.dropOwnFrame s).camc = s.camc ∧ (State.dropOwnFrame s).loop = s.loop
    ∧ (State.dropOwnFrame s).shr = s.shr ∧ (State.dropOwnFrame s).drv = s.drv
    ∧ (State.dropOwnFrame s).supply = s.supply ∧ (State.dropOwnFrame s).store = s.store
    ∧ (State.dropOwnFrame s).stored = s.stored ∧ (State.dropOwnFrame s).pwr = s.pwr
    ∧ (State.dropOwnFrame s).freeDraws = s.freeDraws := by
  simp only [State.dropOwnFrame]
  (repeat' split) <;> simp

@[simp] theorem State.framingError_frame (s : State) :
    (State.framingError s).pending = s.pending ∧ (State.framingError s).now = s.now
    ∧ (State.framingError s).straps = s.straps ∧ (State.framingError s).settings = s.settings
    ∧ (State.framingError s).cap = s.cap ∧ (State.framingError s).scan = s.scan ∧ (State.framingError s).trk = s.trk
    ∧ (State.framingError s).phm = s.phm ∧ (State.framingError s).camc = s.camc ∧ (State.framingError s).loop = s.loop
    ∧ (State.framingError s).shr = s.shr ∧ (State.framingError s).drv = s.drv
    ∧ (State.framingError s).supply = s.supply ∧ (State.framingError s).store = s.store
    ∧ (State.framingError s).stored = s.stored ∧ (State.framingError s).pwr = s.pwr
    ∧ (State.framingError s).freeDraws = s.freeDraws := by
  simp [State.framingError]

@[simp] theorem State.lineIdle_frame (s : State) :
    (State.lineIdle s).pending = s.pending ∧ (State.lineIdle s).now = s.now ∧ (State.lineIdle s).straps = s.straps
    ∧ (State.lineIdle s).settings = s.settings ∧ (State.lineIdle s).cap = s.cap ∧ (State.lineIdle s).scan = s.scan
    ∧ (State.lineIdle s).trk = s.trk ∧ (State.lineIdle s).phm = s.phm ∧ (State.lineIdle s).camc = s.camc
    ∧ (State.lineIdle s).loop = s.loop ∧ (State.lineIdle s).shr = s.shr ∧ (State.lineIdle s).drv = s.drv
    ∧ (State.lineIdle s).supply = s.supply ∧ (State.lineIdle s).store = s.store ∧ (State.lineIdle s).stored = s.stored
    ∧ (State.lineIdle s).service = s.service ∧ (State.lineIdle s).pwr = s.pwr
    ∧ (State.lineIdle s).freeDraws = s.freeDraws := by
  simp [State.lineIdle]

@[simp] theorem State.lineHeld_frame (s : State) :
    (State.lineHeld s).pending = s.pending ∧ (State.lineHeld s).now = s.now ∧ (State.lineHeld s).straps = s.straps
    ∧ (State.lineHeld s).settings = s.settings ∧ (State.lineHeld s).cap = s.cap ∧ (State.lineHeld s).scan = s.scan
    ∧ (State.lineHeld s).trk = s.trk ∧ (State.lineHeld s).phm = s.phm ∧ (State.lineHeld s).camc = s.camc
    ∧ (State.lineHeld s).loop = s.loop ∧ (State.lineHeld s).shr = s.shr ∧ (State.lineHeld s).drv = s.drv
    ∧ (State.lineHeld s).supply = s.supply ∧ (State.lineHeld s).store = s.store ∧ (State.lineHeld s).stored = s.stored
    ∧ (State.lineHeld s).service = s.service ∧ (State.lineHeld s).pwr = s.pwr
    ∧ (State.lineHeld s).freeDraws = s.freeDraws := by
  simp [State.lineHeld]

@[simp] theorem State.quietRestart_frame (s : State) :
    (State.quietRestart s).pending = s.pending ∧ (State.quietRestart s).now = s.now
    ∧ (State.quietRestart s).straps = s.straps ∧ (State.quietRestart s).settings = s.settings
    ∧ (State.quietRestart s).cap = s.cap ∧ (State.quietRestart s).scan = s.scan ∧ (State.quietRestart s).trk = s.trk
    ∧ (State.quietRestart s).phm = s.phm ∧ (State.quietRestart s).camc = s.camc ∧ (State.quietRestart s).loop = s.loop
    ∧ (State.quietRestart s).shr = s.shr ∧ (State.quietRestart s).drv = s.drv
    ∧ (State.quietRestart s).supply = s.supply ∧ (State.quietRestart s).line = s.line
    ∧ (State.quietRestart s).mon = s.mon ∧ (State.quietRestart s).store = s.store
    ∧ (State.quietRestart s).stored = s.stored ∧ (State.quietRestart s).service = s.service
    ∧ (State.quietRestart s).freeDraws = s.freeDraws := by
  simp only [State.quietRestart]
  (repeat' split) <;> simp

@[simp] theorem State.fallingEdge_frame (s : State) :
    (State.fallingEdge s).pending = s.pending ∧ (State.fallingEdge s).now = s.now
    ∧ (State.fallingEdge s).straps = s.straps ∧ (State.fallingEdge s).settings = s.settings
    ∧ (State.fallingEdge s).cap = s.cap ∧ (State.fallingEdge s).scan = s.scan ∧ (State.fallingEdge s).trk = s.trk
    ∧ (State.fallingEdge s).phm = s.phm ∧ (State.fallingEdge s).camc = s.camc ∧ (State.fallingEdge s).loop = s.loop
    ∧ (State.fallingEdge s).shr = s.shr ∧ (State.fallingEdge s).drv = s.drv ∧ (State.fallingEdge s).supply = s.supply
    ∧ (State.fallingEdge s).store = s.store ∧ (State.fallingEdge s).stored = s.stored
    ∧ (State.fallingEdge s).pwr = s.pwr ∧ (State.fallingEdge s).freeDraws = s.freeDraws := by
  simp only [State.fallingEdge]
  (repeat' split) <;> simp

@[simp] theorem State.idleSettled_frame (s : State) :
    (State.idleSettled s).pending = s.pending ∧ (State.idleSettled s).now = s.now
    ∧ (State.idleSettled s).straps = s.straps ∧ (State.idleSettled s).settings = s.settings
    ∧ (State.idleSettled s).cap = s.cap ∧ (State.idleSettled s).scan = s.scan
    ∧ (State.idleSettled s).trk = s.trk ∧ (State.idleSettled s).phm = s.phm
    ∧ (State.idleSettled s).camc = s.camc ∧ (State.idleSettled s).loop = s.loop
    ∧ (State.idleSettled s).shr = s.shr ∧ (State.idleSettled s).drv = s.drv
    ∧ (State.idleSettled s).supply = s.supply ∧ (State.idleSettled s).store = s.store
    ∧ (State.idleSettled s).stored = s.stored ∧ (State.idleSettled s).pwr = s.pwr
    ∧ (State.idleSettled s).freeDraws = s.freeDraws ∧ (State.idleSettled s).service = s.service := by
  simp only [State.idleSettled]
  split <;> simp

@[simp] theorem State.holdSettled_frame (s : State) :
    (State.holdSettled s).pending = s.pending ∧ (State.holdSettled s).now = s.now
    ∧ (State.holdSettled s).straps = s.straps ∧ (State.holdSettled s).settings = s.settings
    ∧ (State.holdSettled s).cap = s.cap ∧ (State.holdSettled s).scan = s.scan
    ∧ (State.holdSettled s).trk = s.trk ∧ (State.holdSettled s).phm = s.phm
    ∧ (State.holdSettled s).camc = s.camc ∧ (State.holdSettled s).loop = s.loop
    ∧ (State.holdSettled s).shr = s.shr ∧ (State.holdSettled s).drv = s.drv
    ∧ (State.holdSettled s).supply = s.supply ∧ (State.holdSettled s).store = s.store
    ∧ (State.holdSettled s).stored = s.stored ∧ (State.holdSettled s).pwr = s.pwr
    ∧ (State.holdSettled s).freeDraws = s.freeDraws ∧ (State.holdSettled s).service = s.service := by
  simp only [State.holdSettled]
  split <;> simp

@[simp] theorem State.pulledLow_frame (s : State) :
    (State.pulledLow s).pending = s.pending ∧ (State.pulledLow s).now = s.now
    ∧ (State.pulledLow s).straps = s.straps ∧ (State.pulledLow s).settings = s.settings
    ∧ (State.pulledLow s).cap = s.cap ∧ (State.pulledLow s).scan = s.scan ∧ (State.pulledLow s).trk = s.trk
    ∧ (State.pulledLow s).phm = s.phm ∧ (State.pulledLow s).camc = s.camc ∧ (State.pulledLow s).loop = s.loop
    ∧ (State.pulledLow s).shr = s.shr ∧ (State.pulledLow s).drv = s.drv ∧ (State.pulledLow s).supply = s.supply
    ∧ (State.pulledLow s).store = s.store ∧ (State.pulledLow s).stored = s.stored
    ∧ (State.pulledLow s).freeDraws = s.freeDraws := by
  simp only [State.pulledLow]
  (repeat' split) <;> simp

@[simp] theorem State.judgeLow_frame (s : State) :
    (State.judgeLow s).pending = s.pending ∧ (State.judgeLow s).now = s.now ∧ (State.judgeLow s).straps = s.straps
    ∧ (State.judgeLow s).settings = s.settings ∧ (State.judgeLow s).cap = s.cap ∧ (State.judgeLow s).scan = s.scan
    ∧ (State.judgeLow s).trk = s.trk ∧ (State.judgeLow s).phm = s.phm ∧ (State.judgeLow s).camc = s.camc
    ∧ (State.judgeLow s).loop = s.loop ∧ (State.judgeLow s).shr = s.shr ∧ (State.judgeLow s).drv = s.drv
    ∧ (State.judgeLow s).supply = s.supply ∧ (State.judgeLow s).store = s.store ∧ (State.judgeLow s).stored = s.stored
    ∧ (State.judgeLow s).pwr = s.pwr ∧ (State.judgeLow s).freeDraws = s.freeDraws := by
  simp only [State.judgeLow]
  (repeat' split) <;> simp

@[simp] theorem State.riseJudged_frame (s : State) :
    (State.riseJudged s).pending = s.pending ∧ (State.riseJudged s).now = s.now
    ∧ (State.riseJudged s).straps = s.straps ∧ (State.riseJudged s).settings = s.settings
    ∧ (State.riseJudged s).cap = s.cap ∧ (State.riseJudged s).scan = s.scan
    ∧ (State.riseJudged s).trk = s.trk ∧ (State.riseJudged s).phm = s.phm
    ∧ (State.riseJudged s).camc = s.camc ∧ (State.riseJudged s).loop = s.loop
    ∧ (State.riseJudged s).shr = s.shr ∧ (State.riseJudged s).drv = s.drv
    ∧ (State.riseJudged s).supply = s.supply ∧ (State.riseJudged s).store = s.store
    ∧ (State.riseJudged s).stored = s.stored ∧ (State.riseJudged s).pwr = s.pwr
    ∧ (State.riseJudged s).freeDraws = s.freeDraws := by
  simp only [State.riseJudged]
  (repeat' split) <;> simp

@[simp] theorem State.letGo_frame (s : State) :
    (State.letGo s).pending = s.pending ∧ (State.letGo s).now = s.now ∧ (State.letGo s).straps = s.straps
    ∧ (State.letGo s).settings = s.settings ∧ (State.letGo s).cap = s.cap ∧ (State.letGo s).scan = s.scan
    ∧ (State.letGo s).trk = s.trk ∧ (State.letGo s).phm = s.phm ∧ (State.letGo s).camc = s.camc
    ∧ (State.letGo s).loop = s.loop ∧ (State.letGo s).shr = s.shr ∧ (State.letGo s).drv = s.drv
    ∧ (State.letGo s).supply = s.supply ∧ (State.letGo s).store = s.store ∧ (State.letGo s).stored = s.stored
    ∧ (State.letGo s).pwr = s.pwr ∧ (State.letGo s).freeDraws = s.freeDraws := by
  simp only [State.letGo]
  (repeat' split) <;> simp

@[simp] theorem State.freeOldest_frame (s : State) :
    (State.freeOldest s).pending = s.pending ∧ (State.freeOldest s).now = s.now
    ∧ (State.freeOldest s).straps = s.straps ∧ (State.freeOldest s).settings = s.settings
    ∧ (State.freeOldest s).cap = s.cap ∧ (State.freeOldest s).scan = s.scan ∧ (State.freeOldest s).trk = s.trk
    ∧ (State.freeOldest s).phm = s.phm ∧ (State.freeOldest s).camc = s.camc ∧ (State.freeOldest s).loop = s.loop
    ∧ (State.freeOldest s).shr = s.shr ∧ (State.freeOldest s).drv = s.drv ∧ (State.freeOldest s).supply = s.supply
    ∧ (State.freeOldest s).mon = s.mon ∧ (State.freeOldest s).store = s.store ∧ (State.freeOldest s).stored = s.stored
    ∧ (State.freeOldest s).service = s.service ∧ (State.freeOldest s).pwr = s.pwr
    ∧ (State.freeOldest s).freeDraws = s.freeDraws := by
  simp [State.freeOldest]

@[simp] theorem State.takeValid_frame (s : State) (f : Frame) :
    (State.takeValid s f).pending = s.pending ∧ (State.takeValid s f).now = s.now
    ∧ (State.takeValid s f).straps = s.straps ∧ (State.takeValid s f).settings = s.settings
    ∧ (State.takeValid s f).cap = s.cap ∧ (State.takeValid s f).scan = s.scan ∧ (State.takeValid s f).trk = s.trk
    ∧ (State.takeValid s f).phm = s.phm ∧ (State.takeValid s f).camc = s.camc ∧ (State.takeValid s f).loop = s.loop
    ∧ (State.takeValid s f).drv = s.drv ∧ (State.takeValid s f).supply = s.supply ∧ (State.takeValid s f).mon = s.mon
    ∧ (State.takeValid s f).store = s.store ∧ (State.takeValid s f).stored = s.stored
    ∧ (State.takeValid s f).service = s.service ∧ (State.takeValid s f).pwr = s.pwr
    ∧ (State.takeValid s f).freeDraws = s.freeDraws := by
  simp only [State.takeValid]
  (repeat' split) <;> simp

@[simp] theorem State.received_frame (s : State) (v : Verdict) :
    (State.received s v).pending = s.pending ∧ (State.received s v).now = s.now
    ∧ (State.received s v).straps = s.straps ∧ (State.received s v).settings = s.settings
    ∧ (State.received s v).cap = s.cap ∧ (State.received s v).scan = s.scan ∧ (State.received s v).trk = s.trk
    ∧ (State.received s v).phm = s.phm ∧ (State.received s v).camc = s.camc ∧ (State.received s v).loop = s.loop
    ∧ (State.received s v).drv = s.drv ∧ (State.received s v).supply = s.supply ∧ (State.received s v).store = s.store
    ∧ (State.received s v).stored = s.stored ∧ (State.received s v).service = s.service
    ∧ (State.received s v).pwr = s.pwr ∧ (State.received s v).freeDraws = s.freeDraws := by
  simp only [State.received]
  (repeat' split) <;> simp

@[simp] theorem State.completeFrame_frame (s : State) (bytes : List Byte) :
    (State.completeFrame s bytes).pending = s.pending ∧ (State.completeFrame s bytes).now = s.now
    ∧ (State.completeFrame s bytes).straps = s.straps ∧ (State.completeFrame s bytes).settings = s.settings
    ∧ (State.completeFrame s bytes).cap = s.cap ∧ (State.completeFrame s bytes).scan = s.scan
    ∧ (State.completeFrame s bytes).trk = s.trk ∧ (State.completeFrame s bytes).phm = s.phm
    ∧ (State.completeFrame s bytes).camc = s.camc ∧ (State.completeFrame s bytes).loop = s.loop
    ∧ (State.completeFrame s bytes).drv = s.drv ∧ (State.completeFrame s bytes).supply = s.supply
    ∧ (State.completeFrame s bytes).store = s.store ∧ (State.completeFrame s bytes).stored = s.stored
    ∧ (State.completeFrame s bytes).service = s.service ∧ (State.completeFrame s bytes).pwr = s.pwr
    ∧ (State.completeFrame s bytes).freeDraws = s.freeDraws := by
  simp [State.completeFrame]

@[simp] theorem State.noteComposed_frame (s : State) (k : Slot) :
    (State.noteComposed s k).pending = s.pending ∧ (State.noteComposed s k).now = s.now
    ∧ (State.noteComposed s k).straps = s.straps ∧ (State.noteComposed s k).settings = s.settings
    ∧ (State.noteComposed s k).cap = s.cap ∧ (State.noteComposed s k).scan = s.scan
    ∧ (State.noteComposed s k).trk = s.trk ∧ (State.noteComposed s k).phm = s.phm
    ∧ (State.noteComposed s k).camc = s.camc ∧ (State.noteComposed s k).loop = s.loop
    ∧ (State.noteComposed s k).shr = s.shr ∧ (State.noteComposed s k).drv = s.drv
    ∧ (State.noteComposed s k).supply = s.supply ∧ (State.noteComposed s k).line = s.line
    ∧ (State.noteComposed s k).store = s.store ∧ (State.noteComposed s k).stored = s.stored
    ∧ (State.noteComposed s k).pwr = s.pwr := by
  simp only [State.noteComposed]
  (repeat' split) <;> simp

@[simp] theorem State.startTransmission_frame (s : State) (k : Slot) :
    (State.startTransmission s k).pending = s.pending ∧ (State.startTransmission s k).now = s.now
    ∧ (State.startTransmission s k).straps = s.straps ∧ (State.startTransmission s k).settings = s.settings
    ∧ (State.startTransmission s k).cap = s.cap ∧ (State.startTransmission s k).scan = s.scan
    ∧ (State.startTransmission s k).trk = s.trk ∧ (State.startTransmission s k).phm = s.phm
    ∧ (State.startTransmission s k).camc = s.camc ∧ (State.startTransmission s k).loop = s.loop
    ∧ (State.startTransmission s k).shr = s.shr ∧ (State.startTransmission s k).drv = s.drv
    ∧ (State.startTransmission s k).supply = s.supply ∧ (State.startTransmission s k).store = s.store
    ∧ (State.startTransmission s k).stored = s.stored ∧ (State.startTransmission s k).pwr = s.pwr := by
  simp [State.startTransmission]

@[simp] theorem State.loseArbitration_frame (s : State) (x : Transmission) :
    (State.loseArbitration s x).pending = s.pending ∧ (State.loseArbitration s x).now = s.now
    ∧ (State.loseArbitration s x).straps = s.straps ∧ (State.loseArbitration s x).settings = s.settings
    ∧ (State.loseArbitration s x).cap = s.cap ∧ (State.loseArbitration s x).scan = s.scan
    ∧ (State.loseArbitration s x).trk = s.trk ∧ (State.loseArbitration s x).phm = s.phm
    ∧ (State.loseArbitration s x).camc = s.camc ∧ (State.loseArbitration s x).loop = s.loop
    ∧ (State.loseArbitration s x).shr = s.shr ∧ (State.loseArbitration s x).drv = s.drv
    ∧ (State.loseArbitration s x).supply = s.supply ∧ (State.loseArbitration s x).store = s.store
    ∧ (State.loseArbitration s x).stored = s.stored ∧ (State.loseArbitration s x).pwr = s.pwr
    ∧ (State.loseArbitration s x).freeDraws = s.freeDraws := by
  simp only [State.loseArbitration]
  (repeat' split) <;> simp

@[simp] theorem State.bitError_frame (s : State) :
    (State.bitError s).pending = s.pending ∧ (State.bitError s).now = s.now ∧ (State.bitError s).straps = s.straps
    ∧ (State.bitError s).settings = s.settings ∧ (State.bitError s).cap = s.cap ∧ (State.bitError s).scan = s.scan
    ∧ (State.bitError s).trk = s.trk ∧ (State.bitError s).phm = s.phm ∧ (State.bitError s).camc = s.camc
    ∧ (State.bitError s).loop = s.loop ∧ (State.bitError s).shr = s.shr ∧ (State.bitError s).drv = s.drv
    ∧ (State.bitError s).supply = s.supply ∧ (State.bitError s).store = s.store ∧ (State.bitError s).stored = s.stored
    ∧ (State.bitError s).pwr = s.pwr ∧ (State.bitError s).freeDraws = s.freeDraws := by
  simp [State.bitError]

@[simp] theorem State.statusCompleted_frame (s : State) :
    (State.statusCompleted s).pending = s.pending ∧ (State.statusCompleted s).now = s.now
    ∧ (State.statusCompleted s).straps = s.straps ∧ (State.statusCompleted s).settings = s.settings
    ∧ (State.statusCompleted s).cap = s.cap ∧ (State.statusCompleted s).scan = s.scan
    ∧ (State.statusCompleted s).trk = s.trk ∧ (State.statusCompleted s).phm = s.phm
    ∧ (State.statusCompleted s).camc = s.camc ∧ (State.statusCompleted s).loop = s.loop
    ∧ (State.statusCompleted s).shr = s.shr ∧ (State.statusCompleted s).drv = s.drv
    ∧ (State.statusCompleted s).supply = s.supply ∧ (State.statusCompleted s).store = s.store
    ∧ (State.statusCompleted s).stored = s.stored ∧ (State.statusCompleted s).service = s.service
    ∧ (State.statusCompleted s).pwr = s.pwr ∧ (State.statusCompleted s).freeDraws = s.freeDraws
    ∧ (State.statusCompleted s).line.receiver = s.line.receiver
    ∧ (State.statusCompleted s).line.sending = s.line.sending ∧ (State.statusCompleted s).line.life = s.line.life
    ∧ (State.statusCompleted s).line.seq = s.line.seq ∧ (State.statusCompleted s).line.txEnabled = s.line.txEnabled
    ∧ (State.statusCompleted s).line.bufferX = s.line.bufferX
    ∧ (State.statusCompleted s).line.bufferY = s.line.bufferY
    ∧ (State.statusCompleted s).line.lastBuffer = s.line.lastBuffer
    ∧ (State.statusCompleted s).line.dataBits = s.line.dataBits
    ∧ (State.statusCompleted s).line.lastFall = s.line.lastFall
    ∧ (State.statusCompleted s).line.lastRise = s.line.lastRise
    ∧ (State.statusCompleted s).line.othersLow = s.line.othersLow ∧ (State.statusCompleted s).line.drive = s.line.drive
    ∧ (State.statusCompleted s).line.aborting = s.line.aborting
    ∧ (State.statusCompleted s).line.sampled = s.line.sampled := by
  simp only [State.statusCompleted]
  (repeat' split) <;> simp

@[simp] theorem State.ownerTold_frame (s : State) (k : Slot) :
    (State.ownerTold s k).pending = s.pending ∧ (State.ownerTold s k).now = s.now
    ∧ (State.ownerTold s k).straps = s.straps ∧ (State.ownerTold s k).settings = s.settings
    ∧ (State.ownerTold s k).cap = s.cap ∧ (State.ownerTold s k).scan = s.scan ∧ (State.ownerTold s k).trk = s.trk
    ∧ (State.ownerTold s k).phm = s.phm ∧ (State.ownerTold s k).camc = s.camc ∧ (State.ownerTold s k).loop = s.loop
    ∧ (State.ownerTold s k).shr = s.shr ∧ (State.ownerTold s k).drv = s.drv ∧ (State.ownerTold s k).supply = s.supply
    ∧ (State.ownerTold s k).store = s.store ∧ (State.ownerTold s k).stored = s.stored
    ∧ (State.ownerTold s k).pwr = s.pwr ∧ (State.ownerTold s k).freeDraws = s.freeDraws
    ∧ (State.ownerTold s k).line.receiver = s.line.receiver ∧ (State.ownerTold s k).line.sending = s.line.sending
    ∧ (State.ownerTold s k).line.life = s.line.life ∧ (State.ownerTold s k).line.seq = s.line.seq
    ∧ (State.ownerTold s k).line.txEnabled = s.line.txEnabled ∧ (State.ownerTold s k).line.bufferX = s.line.bufferX
    ∧ (State.ownerTold s k).line.bufferY = s.line.bufferY ∧ (State.ownerTold s k).line.lastBuffer = s.line.lastBuffer
    ∧ (State.ownerTold s k).line.dataBits = s.line.dataBits ∧ (State.ownerTold s k).line.lastFall = s.line.lastFall
    ∧ (State.ownerTold s k).line.lastRise = s.line.lastRise
    ∧ (State.ownerTold s k).line.othersLow = s.line.othersLow ∧ (State.ownerTold s k).line.drive = s.line.drive
    ∧ (State.ownerTold s k).line.aborting = s.line.aborting
    ∧ (State.ownerTold s k).line.sampled = s.line.sampled := by
  simp only [State.ownerTold]
  (repeat' split) <;> simp

@[simp] theorem State.completeTransmission_frame (s : State) (x : Transmission) :
    (State.completeTransmission s x).pending = s.pending ∧ (State.completeTransmission s x).now = s.now
    ∧ (State.completeTransmission s x).straps = s.straps ∧ (State.completeTransmission s x).settings = s.settings
    ∧ (State.completeTransmission s x).cap = s.cap ∧ (State.completeTransmission s x).scan = s.scan
    ∧ (State.completeTransmission s x).trk = s.trk ∧ (State.completeTransmission s x).phm = s.phm
    ∧ (State.completeTransmission s x).camc = s.camc ∧ (State.completeTransmission s x).loop = s.loop
    ∧ (State.completeTransmission s x).shr = s.shr ∧ (State.completeTransmission s x).drv = s.drv
    ∧ (State.completeTransmission s x).supply = s.supply ∧ (State.completeTransmission s x).store = s.store
    ∧ (State.completeTransmission s x).stored = s.stored ∧ (State.completeTransmission s x).pwr = s.pwr
    ∧ (State.completeTransmission s x).freeDraws = s.freeDraws := by
  simp [State.completeTransmission]

@[simp] theorem State.takeDemand_frame (s : State) (w : Received) :
    (State.takeDemand s w).pending = s.pending ∧ (State.takeDemand s w).now = s.now
    ∧ (State.takeDemand s w).straps = s.straps ∧ (State.takeDemand s w).settings = s.settings
    ∧ (State.takeDemand s w).cap = s.cap ∧ (State.takeDemand s w).scan = s.scan ∧ (State.takeDemand s w).trk = s.trk
    ∧ (State.takeDemand s w).supply = s.supply ∧ (State.takeDemand s w).store = s.store
    ∧ (State.takeDemand s w).stored = s.stored ∧ (State.takeDemand s w).service = s.service
    ∧ (State.takeDemand s w).pwr = s.pwr ∧ (State.takeDemand s w).freeDraws = s.freeDraws
    ∧ (State.takeDemand s w).line.receiver = s.line.receiver ∧ (State.takeDemand s w).line.sending = s.line.sending
    ∧ (State.takeDemand s w).line.life = s.line.life ∧ (State.takeDemand s w).line.seq = s.line.seq
    ∧ (State.takeDemand s w).line.txEnabled = s.line.txEnabled ∧ (State.takeDemand s w).line.bufferX = s.line.bufferX
    ∧ (State.takeDemand s w).line.bufferY = s.line.bufferY
    ∧ (State.takeDemand s w).line.lastBuffer = s.line.lastBuffer
    ∧ (State.takeDemand s w).line.dataBits = s.line.dataBits ∧ (State.takeDemand s w).line.lastFall = s.line.lastFall
    ∧ (State.takeDemand s w).line.lastRise = s.line.lastRise
    ∧ (State.takeDemand s w).line.othersLow = s.line.othersLow ∧ (State.takeDemand s w).line.drive = s.line.drive
    ∧ (State.takeDemand s w).line.aborting = s.line.aborting
    ∧ (State.takeDemand s w).line.sampled = s.line.sampled := by
  simp only [State.takeDemand]
  (repeat' split) <;> simp

@[simp] theorem State.tellStoreFault_frame (s : State) :
    (State.tellStoreFault s).pending = s.pending ∧ (State.tellStoreFault s).now = s.now
    ∧ (State.tellStoreFault s).straps = s.straps ∧ (State.tellStoreFault s).settings = s.settings
    ∧ (State.tellStoreFault s).cap = s.cap ∧ (State.tellStoreFault s).scan = s.scan
    ∧ (State.tellStoreFault s).trk = s.trk ∧ (State.tellStoreFault s).phm = s.phm
    ∧ (State.tellStoreFault s).camc = s.camc ∧ (State.tellStoreFault s).loop = s.loop
    ∧ (State.tellStoreFault s).shr = s.shr ∧ (State.tellStoreFault s).drv = s.drv
    ∧ (State.tellStoreFault s).supply = s.supply ∧ (State.tellStoreFault s).store = s.store
    ∧ (State.tellStoreFault s).stored = s.stored ∧ (State.tellStoreFault s).service = s.service
    ∧ (State.tellStoreFault s).pwr = s.pwr ∧ (State.tellStoreFault s).freeDraws = s.freeDraws
    ∧ (State.tellStoreFault s).line.receiver = s.line.receiver
    ∧ (State.tellStoreFault s).line.sending = s.line.sending ∧ (State.tellStoreFault s).line.life = s.line.life
    ∧ (State.tellStoreFault s).line.seq = s.line.seq ∧ (State.tellStoreFault s).line.txEnabled = s.line.txEnabled
    ∧ (State.tellStoreFault s).line.bufferX = s.line.bufferX ∧ (State.tellStoreFault s).line.bufferY = s.line.bufferY
    ∧ (State.tellStoreFault s).line.lastBuffer = s.line.lastBuffer
    ∧ (State.tellStoreFault s).line.dataBits = s.line.dataBits
    ∧ (State.tellStoreFault s).line.lastFall = s.line.lastFall
    ∧ (State.tellStoreFault s).line.lastRise = s.line.lastRise
    ∧ (State.tellStoreFault s).line.othersLow = s.line.othersLow ∧ (State.tellStoreFault s).line.drive = s.line.drive
    ∧ (State.tellStoreFault s).line.aborting = s.line.aborting
    ∧ (State.tellStoreFault s).line.sampled = s.line.sampled := by
  simp only [State.tellStoreFault]
  (repeat' split) <;> simp

@[simp] theorem State.startWrite_frame (s : State) (r : Rec) :
    (State.startWrite s r).pending = s.pending ∧ (State.startWrite s r).now = s.now
    ∧ (State.startWrite s r).straps = s.straps ∧ (State.startWrite s r).settings = s.settings
    ∧ (State.startWrite s r).cap = s.cap ∧ (State.startWrite s r).scan = s.scan ∧ (State.startWrite s r).trk = s.trk
    ∧ (State.startWrite s r).phm = s.phm ∧ (State.startWrite s r).camc = s.camc ∧ (State.startWrite s r).loop = s.loop
    ∧ (State.startWrite s r).shr = s.shr ∧ (State.startWrite s r).drv = s.drv
    ∧ (State.startWrite s r).supply = s.supply ∧ (State.startWrite s r).line = s.line
    ∧ (State.startWrite s r).mon = s.mon ∧ (State.startWrite s r).stored = s.stored
    ∧ (State.startWrite s r).service = s.service ∧ (State.startWrite s r).pwr = s.pwr
    ∧ (State.startWrite s r).freeDraws = s.freeDraws := by
  simp [State.startWrite]

@[simp] theorem State.endWrite_frame (s : State) (w : Write) (readBack : List Byte) :
    (State.endWrite s w readBack).pending = s.pending ∧ (State.endWrite s w readBack).now = s.now
    ∧ (State.endWrite s w readBack).straps = s.straps ∧ (State.endWrite s w readBack).settings = s.settings
    ∧ (State.endWrite s w readBack).cap = s.cap ∧ (State.endWrite s w readBack).scan = s.scan
    ∧ (State.endWrite s w readBack).trk = s.trk ∧ (State.endWrite s w readBack).phm = s.phm
    ∧ (State.endWrite s w readBack).camc = s.camc ∧ (State.endWrite s w readBack).loop = s.loop
    ∧ (State.endWrite s w readBack).shr = s.shr ∧ (State.endWrite s w readBack).drv = s.drv
    ∧ (State.endWrite s w readBack).supply = s.supply ∧ (State.endWrite s w readBack).service = s.service
    ∧ (State.endWrite s w readBack).pwr = s.pwr ∧ (State.endWrite s w readBack).freeDraws = s.freeDraws
    ∧ (State.endWrite s w readBack).line.receiver = s.line.receiver
    ∧ (State.endWrite s w readBack).line.sending = s.line.sending
    ∧ (State.endWrite s w readBack).line.life = s.line.life ∧ (State.endWrite s w readBack).line.seq = s.line.seq
    ∧ (State.endWrite s w readBack).line.txEnabled = s.line.txEnabled
    ∧ (State.endWrite s w readBack).line.bufferX = s.line.bufferX
    ∧ (State.endWrite s w readBack).line.bufferY = s.line.bufferY
    ∧ (State.endWrite s w readBack).line.lastBuffer = s.line.lastBuffer
    ∧ (State.endWrite s w readBack).line.dataBits = s.line.dataBits
    ∧ (State.endWrite s w readBack).line.lastFall = s.line.lastFall
    ∧ (State.endWrite s w readBack).line.lastRise = s.line.lastRise
    ∧ (State.endWrite s w readBack).line.othersLow = s.line.othersLow ∧ (State.endWrite s w readBack).line.drive = s.line.drive
    ∧ (State.endWrite s w readBack).line.aborting = s.line.aborting
    ∧ (State.endWrite s w readBack).line.sampled = s.line.sampled := by
  simp only [State.endWrite]
  (repeat' split) <;> simp

@[simp] theorem State.loadRecords_frame (s : State) :
    (State.loadRecords s).pending = s.pending ∧ (State.loadRecords s).now = s.now
    ∧ (State.loadRecords s).straps = s.straps ∧ (State.loadRecords s).cap = s.cap
    ∧ (State.loadRecords s).scan = s.scan ∧ (State.loadRecords s).trk = s.trk ∧ (State.loadRecords s).camc = s.camc
    ∧ (State.loadRecords s).shr = s.shr ∧ (State.loadRecords s).drv = s.drv ∧ (State.loadRecords s).supply = s.supply
    ∧ (State.loadRecords s).stored = s.stored ∧ (State.loadRecords s).service = s.service
    ∧ (State.loadRecords s).pwr = s.pwr ∧ (State.loadRecords s).freeDraws = s.freeDraws
    ∧ (State.loadRecords s).line.receiver = s.line.receiver ∧ (State.loadRecords s).line.sending = s.line.sending
    ∧ (State.loadRecords s).line.life = s.line.life ∧ (State.loadRecords s).line.seq = s.line.seq
    ∧ (State.loadRecords s).line.txEnabled = s.line.txEnabled ∧ (State.loadRecords s).line.bufferX = s.line.bufferX
    ∧ (State.loadRecords s).line.bufferY = s.line.bufferY ∧ (State.loadRecords s).line.lastBuffer = s.line.lastBuffer
    ∧ (State.loadRecords s).line.dataBits = s.line.dataBits ∧ (State.loadRecords s).line.lastFall = s.line.lastFall
    ∧ (State.loadRecords s).line.lastRise = s.line.lastRise
    ∧ (State.loadRecords s).line.othersLow = s.line.othersLow ∧ (State.loadRecords s).line.drive = s.line.drive
    ∧ (State.loadRecords s).line.aborting = s.line.aborting
    ∧ (State.loadRecords s).line.sampled = s.line.sampled := by
  simp [State.loadRecords]

@[simp] theorem State.finishStart_frame (s : State) :
    (State.finishStart s).pending = s.pending ∧ (State.finishStart s).now = s.now
    ∧ (State.finishStart s).straps = s.straps ∧ (State.finishStart s).settings = s.settings
    ∧ (State.finishStart s).cap = s.cap ∧ (State.finishStart s).trk = s.trk ∧ (State.finishStart s).phm = s.phm
    ∧ (State.finishStart s).loop = s.loop ∧ (State.finishStart s).supply = s.supply
    ∧ (State.finishStart s).store = s.store ∧ (State.finishStart s).stored = s.stored
    ∧ (State.finishStart s).service = s.service ∧ (State.finishStart s).freeDraws = s.freeDraws := by
  simp only [State.finishStart]
  (repeat' split) <;> simp

@[simp] theorem State.answer_frame (s : State) (f : Frame) (result : Result) (data : List Byte) :
    (State.answer s f result data).pending = s.pending ∧ (State.answer s f result data).now = s.now
    ∧ (State.answer s f result data).straps = s.straps ∧ (State.answer s f result data).settings = s.settings
    ∧ (State.answer s f result data).cap = s.cap ∧ (State.answer s f result data).scan = s.scan
    ∧ (State.answer s f result data).trk = s.trk ∧ (State.answer s f result data).phm = s.phm
    ∧ (State.answer s f result data).camc = s.camc ∧ (State.answer s f result data).loop = s.loop
    ∧ (State.answer s f result data).shr = s.shr ∧ (State.answer s f result data).drv = s.drv
    ∧ (State.answer s f result data).supply = s.supply ∧ (State.answer s f result data).mon = s.mon
    ∧ (State.answer s f result data).store = s.store ∧ (State.answer s f result data).stored = s.stored
    ∧ (State.answer s f result data).pwr = s.pwr ∧ (State.answer s f result data).freeDraws = s.freeDraws
    ∧ (State.answer s f result data).line.receiver = s.line.receiver
    ∧ (State.answer s f result data).line.sending = s.line.sending
    ∧ (State.answer s f result data).line.life = s.line.life ∧ (State.answer s f result data).line.seq = s.line.seq
    ∧ (State.answer s f result data).line.txEnabled = s.line.txEnabled
    ∧ (State.answer s f result data).line.bufferX = s.line.bufferX
    ∧ (State.answer s f result data).line.bufferY = s.line.bufferY
    ∧ (State.answer s f result data).line.lastBuffer = s.line.lastBuffer
    ∧ (State.answer s f result data).line.dataBits = s.line.dataBits
    ∧ (State.answer s f result data).line.lastFall = s.line.lastFall
    ∧ (State.answer s f result data).line.lastRise = s.line.lastRise
    ∧ (State.answer s f result data).line.othersLow = s.line.othersLow
    ∧ (State.answer s f result data).line.drive = s.line.drive
    ∧ (State.answer s f result data).line.aborting = s.line.aborting
    ∧ (State.answer s f result data).line.sampled = s.line.sampled := by
  simp [State.answer]

@[simp] theorem State.readCam_frame (f : Frame) (s : State) :
    (State.readCam f s).pending = s.pending ∧ (State.readCam f s).now = s.now ∧ (State.readCam f s).straps = s.straps
    ∧ (State.readCam f s).settings = s.settings ∧ (State.readCam f s).cap = s.cap ∧ (State.readCam f s).scan = s.scan
    ∧ (State.readCam f s).trk = s.trk ∧ (State.readCam f s).phm = s.phm ∧ (State.readCam f s).camc = s.camc
    ∧ (State.readCam f s).loop = s.loop ∧ (State.readCam f s).shr = s.shr ∧ (State.readCam f s).drv = s.drv
    ∧ (State.readCam f s).supply = s.supply ∧ (State.readCam f s).mon = s.mon ∧ (State.readCam f s).store = s.store
    ∧ (State.readCam f s).stored = s.stored ∧ (State.readCam f s).pwr = s.pwr
    ∧ (State.readCam f s).freeDraws = s.freeDraws ∧ (State.readCam f s).line.receiver = s.line.receiver
    ∧ (State.readCam f s).line.sending = s.line.sending ∧ (State.readCam f s).line.life = s.line.life
    ∧ (State.readCam f s).line.seq = s.line.seq ∧ (State.readCam f s).line.txEnabled = s.line.txEnabled
    ∧ (State.readCam f s).line.bufferX = s.line.bufferX ∧ (State.readCam f s).line.bufferY = s.line.bufferY
    ∧ (State.readCam f s).line.lastBuffer = s.line.lastBuffer ∧ (State.readCam f s).line.dataBits = s.line.dataBits
    ∧ (State.readCam f s).line.lastFall = s.line.lastFall ∧ (State.readCam f s).line.lastRise = s.line.lastRise
    ∧ (State.readCam f s).line.othersLow = s.line.othersLow ∧ (State.readCam f s).line.drive = s.line.drive
    ∧ (State.readCam f s).line.aborting = s.line.aborting
    ∧ (State.readCam f s).line.sampled = s.line.sampled := by
  simp only [State.readCam]
  (repeat' split) <;> simp

@[simp] theorem State.readTracker_frame (f : Frame) (s : State) :
    (State.readTracker f s).pending = s.pending ∧ (State.readTracker f s).now = s.now
    ∧ (State.readTracker f s).straps = s.straps ∧ (State.readTracker f s).settings = s.settings
    ∧ (State.readTracker f s).cap = s.cap ∧ (State.readTracker f s).scan = s.scan
    ∧ (State.readTracker f s).trk = s.trk ∧ (State.readTracker f s).phm = s.phm
    ∧ (State.readTracker f s).camc = s.camc ∧ (State.readTracker f s).loop = s.loop
    ∧ (State.readTracker f s).shr = s.shr ∧ (State.readTracker f s).drv = s.drv
    ∧ (State.readTracker f s).supply = s.supply ∧ (State.readTracker f s).mon = s.mon
    ∧ (State.readTracker f s).store = s.store ∧ (State.readTracker f s).stored = s.stored
    ∧ (State.readTracker f s).pwr = s.pwr ∧ (State.readTracker f s).freeDraws = s.freeDraws
    ∧ (State.readTracker f s).line.receiver = s.line.receiver ∧ (State.readTracker f s).line.sending = s.line.sending
    ∧ (State.readTracker f s).line.life = s.line.life ∧ (State.readTracker f s).line.seq = s.line.seq
    ∧ (State.readTracker f s).line.txEnabled = s.line.txEnabled
    ∧ (State.readTracker f s).line.bufferX = s.line.bufferX ∧ (State.readTracker f s).line.bufferY = s.line.bufferY
    ∧ (State.readTracker f s).line.lastBuffer = s.line.lastBuffer
    ∧ (State.readTracker f s).line.dataBits = s.line.dataBits
    ∧ (State.readTracker f s).line.lastFall = s.line.lastFall
    ∧ (State.readTracker f s).line.lastRise = s.line.lastRise
    ∧ (State.readTracker f s).line.othersLow = s.line.othersLow ∧ (State.readTracker f s).line.drive = s.line.drive
    ∧ (State.readTracker f s).line.aborting = s.line.aborting
    ∧ (State.readTracker f s).line.sampled = s.line.sampled := by
  simp only [State.readTracker]
  (repeat' split) <;> simp

@[simp] theorem State.readPeer_frame (f : Frame) (s : State) :
    (State.readPeer f s).pending = s.pending ∧ (State.readPeer f s).now = s.now
    ∧ (State.readPeer f s).straps = s.straps ∧ (State.readPeer f s).settings = s.settings
    ∧ (State.readPeer f s).cap = s.cap ∧ (State.readPeer f s).scan = s.scan ∧ (State.readPeer f s).trk = s.trk
    ∧ (State.readPeer f s).phm = s.phm ∧ (State.readPeer f s).camc = s.camc ∧ (State.readPeer f s).loop = s.loop
    ∧ (State.readPeer f s).shr = s.shr ∧ (State.readPeer f s).drv = s.drv ∧ (State.readPeer f s).supply = s.supply
    ∧ (State.readPeer f s).mon = s.mon ∧ (State.readPeer f s).store = s.store ∧ (State.readPeer f s).stored = s.stored
    ∧ (State.readPeer f s).pwr = s.pwr ∧ (State.readPeer f s).line.receiver = s.line.receiver
    ∧ (State.readPeer f s).line.sending = s.line.sending ∧ (State.readPeer f s).line.life = s.line.life
    ∧ (State.readPeer f s).line.seq = s.line.seq ∧ (State.readPeer f s).line.txEnabled = s.line.txEnabled
    ∧ (State.readPeer f s).line.bufferX = s.line.bufferX ∧ (State.readPeer f s).line.bufferY = s.line.bufferY
    ∧ (State.readPeer f s).line.lastBuffer = s.line.lastBuffer ∧ (State.readPeer f s).line.dataBits = s.line.dataBits
    ∧ (State.readPeer f s).line.lastFall = s.line.lastFall ∧ (State.readPeer f s).line.lastRise = s.line.lastRise
    ∧ (State.readPeer f s).line.othersLow = s.line.othersLow ∧ (State.readPeer f s).line.drive = s.line.drive
    ∧ (State.readPeer f s).line.aborting = s.line.aborting
    ∧ (State.readPeer f s).line.sampled = s.line.sampled := by
  simp only [State.readPeer]
  (repeat' split) <;> simp

@[simp] theorem State.readCondition_frame (f : Frame) (s : State) :
    (State.readCondition f s).pending = s.pending ∧ (State.readCondition f s).now = s.now
    ∧ (State.readCondition f s).straps = s.straps ∧ (State.readCondition f s).settings = s.settings
    ∧ (State.readCondition f s).cap = s.cap ∧ (State.readCondition f s).scan = s.scan
    ∧ (State.readCondition f s).trk = s.trk ∧ (State.readCondition f s).phm = s.phm
    ∧ (State.readCondition f s).camc = s.camc ∧ (State.readCondition f s).loop = s.loop
    ∧ (State.readCondition f s).shr = s.shr ∧ (State.readCondition f s).drv = s.drv
    ∧ (State.readCondition f s).supply = s.supply ∧ (State.readCondition f s).mon = s.mon
    ∧ (State.readCondition f s).store = s.store ∧ (State.readCondition f s).stored = s.stored
    ∧ (State.readCondition f s).pwr = s.pwr ∧ (State.readCondition f s).freeDraws = s.freeDraws
    ∧ (State.readCondition f s).line.receiver = s.line.receiver
    ∧ (State.readCondition f s).line.sending = s.line.sending ∧ (State.readCondition f s).line.life = s.line.life
    ∧ (State.readCondition f s).line.seq = s.line.seq ∧ (State.readCondition f s).line.txEnabled = s.line.txEnabled
    ∧ (State.readCondition f s).line.bufferX = s.line.bufferX
    ∧ (State.readCondition f s).line.bufferY = s.line.bufferY
    ∧ (State.readCondition f s).line.lastBuffer = s.line.lastBuffer
    ∧ (State.readCondition f s).line.dataBits = s.line.dataBits
    ∧ (State.readCondition f s).line.lastFall = s.line.lastFall
    ∧ (State.readCondition f s).line.lastRise = s.line.lastRise
    ∧ (State.readCondition f s).line.othersLow = s.line.othersLow ∧ (State.readCondition f s).line.drive = s.line.drive
    ∧ (State.readCondition f s).line.aborting = s.line.aborting
    ∧ (State.readCondition f s).line.sampled = s.line.sampled := by
  simp only [State.readCondition]
  (repeat' split) <;> simp

@[simp] theorem State.readCounters_frame (f : Frame) (s : State) :
    (State.readCounters f s).pending = s.pending ∧ (State.readCounters f s).now = s.now
    ∧ (State.readCounters f s).straps = s.straps ∧ (State.readCounters f s).settings = s.settings
    ∧ (State.readCounters f s).cap = s.cap ∧ (State.readCounters f s).scan = s.scan
    ∧ (State.readCounters f s).trk = s.trk ∧ (State.readCounters f s).phm = s.phm
    ∧ (State.readCounters f s).camc = s.camc ∧ (State.readCounters f s).loop = s.loop
    ∧ (State.readCounters f s).shr = s.shr ∧ (State.readCounters f s).drv = s.drv
    ∧ (State.readCounters f s).supply = s.supply ∧ (State.readCounters f s).mon = s.mon
    ∧ (State.readCounters f s).store = s.store ∧ (State.readCounters f s).stored = s.stored
    ∧ (State.readCounters f s).pwr = s.pwr ∧ (State.readCounters f s).freeDraws = s.freeDraws
    ∧ (State.readCounters f s).line.receiver = s.line.receiver
    ∧ (State.readCounters f s).line.sending = s.line.sending ∧ (State.readCounters f s).line.life = s.line.life
    ∧ (State.readCounters f s).line.seq = s.line.seq ∧ (State.readCounters f s).line.txEnabled = s.line.txEnabled
    ∧ (State.readCounters f s).line.bufferX = s.line.bufferX ∧ (State.readCounters f s).line.bufferY = s.line.bufferY
    ∧ (State.readCounters f s).line.lastBuffer = s.line.lastBuffer
    ∧ (State.readCounters f s).line.dataBits = s.line.dataBits
    ∧ (State.readCounters f s).line.lastFall = s.line.lastFall
    ∧ (State.readCounters f s).line.lastRise = s.line.lastRise
    ∧ (State.readCounters f s).line.othersLow = s.line.othersLow ∧ (State.readCounters f s).line.drive = s.line.drive
    ∧ (State.readCounters f s).line.aborting = s.line.aborting
    ∧ (State.readCounters f s).line.sampled = s.line.sampled := by
  simp only [State.readCounters]
  (repeat' split) <;> simp

@[simp] theorem State.readSetting_frame (f : Frame) (s : State) :
    (State.readSetting f s).pending = s.pending ∧ (State.readSetting f s).now = s.now
    ∧ (State.readSetting f s).straps = s.straps ∧ (State.readSetting f s).settings = s.settings
    ∧ (State.readSetting f s).cap = s.cap ∧ (State.readSetting f s).scan = s.scan
    ∧ (State.readSetting f s).trk = s.trk ∧ (State.readSetting f s).phm = s.phm
    ∧ (State.readSetting f s).camc = s.camc ∧ (State.readSetting f s).loop = s.loop
    ∧ (State.readSetting f s).shr = s.shr ∧ (State.readSetting f s).drv = s.drv
    ∧ (State.readSetting f s).supply = s.supply ∧ (State.readSetting f s).mon = s.mon
    ∧ (State.readSetting f s).store = s.store ∧ (State.readSetting f s).stored = s.stored
    ∧ (State.readSetting f s).pwr = s.pwr ∧ (State.readSetting f s).freeDraws = s.freeDraws
    ∧ (State.readSetting f s).line.receiver = s.line.receiver ∧ (State.readSetting f s).line.sending = s.line.sending
    ∧ (State.readSetting f s).line.life = s.line.life ∧ (State.readSetting f s).line.seq = s.line.seq
    ∧ (State.readSetting f s).line.txEnabled = s.line.txEnabled
    ∧ (State.readSetting f s).line.bufferX = s.line.bufferX ∧ (State.readSetting f s).line.bufferY = s.line.bufferY
    ∧ (State.readSetting f s).line.lastBuffer = s.line.lastBuffer
    ∧ (State.readSetting f s).line.dataBits = s.line.dataBits
    ∧ (State.readSetting f s).line.lastFall = s.line.lastFall
    ∧ (State.readSetting f s).line.lastRise = s.line.lastRise
    ∧ (State.readSetting f s).line.othersLow = s.line.othersLow ∧ (State.readSetting f s).line.drive = s.line.drive
    ∧ (State.readSetting f s).line.aborting = s.line.aborting
    ∧ (State.readSetting f s).line.sampled = s.line.sampled := by
  simp only [State.readSetting]
  (repeat' split) <;> simp

@[simp] theorem State.editImage_frame (s : State) (group : Nat) (bytes : List Byte) :
    (State.editImage s group bytes).pending = s.pending ∧ (State.editImage s group bytes).now = s.now
    ∧ (State.editImage s group bytes).straps = s.straps ∧ (State.editImage s group bytes).settings = s.settings
    ∧ (State.editImage s group bytes).cap = s.cap ∧ (State.editImage s group bytes).scan = s.scan
    ∧ (State.editImage s group bytes).trk = s.trk ∧ (State.editImage s group bytes).phm = s.phm
    ∧ (State.editImage s group bytes).camc = s.camc ∧ (State.editImage s group bytes).loop = s.loop
    ∧ (State.editImage s group bytes).shr = s.shr ∧ (State.editImage s group bytes).drv = s.drv
    ∧ (State.editImage s group bytes).supply = s.supply ∧ (State.editImage s group bytes).line = s.line
    ∧ (State.editImage s group bytes).mon = s.mon ∧ (State.editImage s group bytes).stored = s.stored
    ∧ (State.editImage s group bytes).service = s.service ∧ (State.editImage s group bytes).pwr = s.pwr
    ∧ (State.editImage s group bytes).freeDraws = s.freeDraws := by
  simp [State.editImage]

@[simp] theorem State.writeSetting_frame (f : Frame) (s : State) :
    (State.writeSetting f s).pending = s.pending ∧ (State.writeSetting f s).now = s.now
    ∧ (State.writeSetting f s).straps = s.straps ∧ (State.writeSetting f s).settings = s.settings
    ∧ (State.writeSetting f s).cap = s.cap ∧ (State.writeSetting f s).scan = s.scan
    ∧ (State.writeSetting f s).trk = s.trk ∧ (State.writeSetting f s).phm = s.phm
    ∧ (State.writeSetting f s).camc = s.camc ∧ (State.writeSetting f s).loop = s.loop
    ∧ (State.writeSetting f s).shr = s.shr ∧ (State.writeSetting f s).drv = s.drv
    ∧ (State.writeSetting f s).supply = s.supply ∧ (State.writeSetting f s).mon = s.mon
    ∧ (State.writeSetting f s).stored = s.stored ∧ (State.writeSetting f s).pwr = s.pwr
    ∧ (State.writeSetting f s).freeDraws = s.freeDraws ∧ (State.writeSetting f s).line.receiver = s.line.receiver
    ∧ (State.writeSetting f s).line.sending = s.line.sending ∧ (State.writeSetting f s).line.life = s.line.life
    ∧ (State.writeSetting f s).line.seq = s.line.seq ∧ (State.writeSetting f s).line.txEnabled = s.line.txEnabled
    ∧ (State.writeSetting f s).line.bufferX = s.line.bufferX ∧ (State.writeSetting f s).line.bufferY = s.line.bufferY
    ∧ (State.writeSetting f s).line.lastBuffer = s.line.lastBuffer
    ∧ (State.writeSetting f s).line.dataBits = s.line.dataBits
    ∧ (State.writeSetting f s).line.lastFall = s.line.lastFall
    ∧ (State.writeSetting f s).line.lastRise = s.line.lastRise
    ∧ (State.writeSetting f s).line.othersLow = s.line.othersLow ∧ (State.writeSetting f s).line.drive = s.line.drive
    ∧ (State.writeSetting f s).line.aborting = s.line.aborting
    ∧ (State.writeSetting f s).line.sampled = s.line.sampled := by
  simp only [State.writeSetting]
  (repeat' split) <;> simp

@[simp] theorem State.learnPark_frame (f : Frame) (s : State) :
    (State.learnPark f s).pending = s.pending ∧ (State.learnPark f s).now = s.now
    ∧ (State.learnPark f s).straps = s.straps ∧ (State.learnPark f s).settings = s.settings
    ∧ (State.learnPark f s).cap = s.cap ∧ (State.learnPark f s).scan = s.scan ∧ (State.learnPark f s).trk = s.trk
    ∧ (State.learnPark f s).camc = s.camc ∧ (State.learnPark f s).loop = s.loop ∧ (State.learnPark f s).shr = s.shr
    ∧ (State.learnPark f s).drv = s.drv ∧ (State.learnPark f s).supply = s.supply ∧ (State.learnPark f s).mon = s.mon
    ∧ (State.learnPark f s).store = s.store ∧ (State.learnPark f s).stored = s.stored
    ∧ (State.learnPark f s).pwr = s.pwr ∧ (State.learnPark f s).freeDraws = s.freeDraws
    ∧ (State.learnPark f s).line.receiver = s.line.receiver ∧ (State.learnPark f s).line.sending = s.line.sending
    ∧ (State.learnPark f s).line.life = s.line.life ∧ (State.learnPark f s).line.seq = s.line.seq
    ∧ (State.learnPark f s).line.txEnabled = s.line.txEnabled ∧ (State.learnPark f s).line.bufferX = s.line.bufferX
    ∧ (State.learnPark f s).line.bufferY = s.line.bufferY ∧ (State.learnPark f s).line.lastBuffer = s.line.lastBuffer
    ∧ (State.learnPark f s).line.dataBits = s.line.dataBits ∧ (State.learnPark f s).line.lastFall = s.line.lastFall
    ∧ (State.learnPark f s).line.lastRise = s.line.lastRise
    ∧ (State.learnPark f s).line.othersLow = s.line.othersLow ∧ (State.learnPark f s).line.drive = s.line.drive
    ∧ (State.learnPark f s).line.aborting = s.line.aborting
    ∧ (State.learnPark f s).line.sampled = s.line.sampled := by
  simp only [State.learnPark]
  (repeat' split) <;> simp

@[simp] theorem State.releaseFaulted_frame (c : Cam) (s : State) :
    (State.releaseFaulted c s).pending = s.pending ∧ (State.releaseFaulted c s).now = s.now
    ∧ (State.releaseFaulted c s).straps = s.straps ∧ (State.releaseFaulted c s).settings = s.settings
    ∧ (State.releaseFaulted c s).cap = s.cap ∧ (State.releaseFaulted c s).scan = s.scan
    ∧ (State.releaseFaulted c s).trk = s.trk ∧ (State.releaseFaulted c s).supply = s.supply
    ∧ (State.releaseFaulted c s).line = s.line ∧ (State.releaseFaulted c s).mon = s.mon
    ∧ (State.releaseFaulted c s).store = s.store ∧ (State.releaseFaulted c s).stored = s.stored
    ∧ (State.releaseFaulted c s).service = s.service ∧ (State.releaseFaulted c s).pwr = s.pwr
    ∧ (State.releaseFaulted c s).freeDraws = s.freeDraws := by
  simp only [State.releaseFaulted]
  (repeat' split) <;> simp

@[simp] theorem State.clearConditions_frame (s : State) :
    (State.clearConditions s).pending = s.pending ∧ (State.clearConditions s).now = s.now
    ∧ (State.clearConditions s).straps = s.straps ∧ (State.clearConditions s).settings = s.settings
    ∧ (State.clearConditions s).cap = s.cap ∧ (State.clearConditions s).scan = s.scan
    ∧ (State.clearConditions s).trk = s.trk ∧ (State.clearConditions s).supply = s.supply
    ∧ (State.clearConditions s).store = s.store ∧ (State.clearConditions s).stored = s.stored
    ∧ (State.clearConditions s).service = s.service ∧ (State.clearConditions s).pwr = s.pwr
    ∧ (State.clearConditions s).freeDraws = s.freeDraws ∧ (State.clearConditions s).line.receiver = s.line.receiver
    ∧ (State.clearConditions s).line.sending = s.line.sending ∧ (State.clearConditions s).line.life = s.line.life
    ∧ (State.clearConditions s).line.seq = s.line.seq ∧ (State.clearConditions s).line.txEnabled = s.line.txEnabled
    ∧ (State.clearConditions s).line.bufferX = s.line.bufferX
    ∧ (State.clearConditions s).line.bufferY = s.line.bufferY
    ∧ (State.clearConditions s).line.lastBuffer = s.line.lastBuffer
    ∧ (State.clearConditions s).line.dataBits = s.line.dataBits
    ∧ (State.clearConditions s).line.lastFall = s.line.lastFall
    ∧ (State.clearConditions s).line.lastRise = s.line.lastRise
    ∧ (State.clearConditions s).line.othersLow = s.line.othersLow ∧ (State.clearConditions s).line.drive = s.line.drive
    ∧ (State.clearConditions s).line.aborting = s.line.aborting
    ∧ (State.clearConditions s).line.sampled = s.line.sampled := by
  simp [State.clearConditions, State.bothCams]

@[simp] theorem State.clockTick_frame (s : State) :
    (State.clockTick s).pending = s.pending ∧ (State.clockTick s).straps = s.straps ∧ (State.clockTick s).settings = s.settings
    ∧ (State.clockTick s).cap = s.cap ∧ (State.clockTick s).scan = s.scan ∧ (State.clockTick s).trk = s.trk
    ∧ (State.clockTick s).phm = s.phm ∧ (State.clockTick s).camc = s.camc ∧ (State.clockTick s).loop = s.loop
    ∧ (State.clockTick s).shr = s.shr ∧ (State.clockTick s).drv = s.drv ∧ (State.clockTick s).supply = s.supply
    ∧ (State.clockTick s).mon = s.mon ∧ (State.clockTick s).store = s.store ∧ (State.clockTick s).stored = s.stored
    ∧ (State.clockTick s).service = s.service ∧ (State.clockTick s).freeDraws = s.freeDraws := by
  simp only [State.clockTick]
  (repeat' split) <;> simp

/-- A tick is one of the clock, but for the entry to DOZE at the end of the 2Tb low of a bit error (R170, R190). -/
theorem State.tick_cases (s : State) :
    s.tick = s.clockTick
    ∨ (s.line.aborting = true ∧ s.clockTick.line.aborting = false ∧ s.clockTick.dozeReady = true
      ∧ s.tick = s.clockTick.enterDoze) := by
  simp only [State.tick, State.dozeCheck]
  split
  · split
    · simp_all
    · exact .inl rfl
  · exact .inl rfl

/-- Where no 2Tb low is driven, a tick is one of the clock. -/
theorem State.tick_eq_clockTick (s : State) (h : s.line.aborting = false) : s.tick = s.clockTick := by simp [State.tick, h]

@[simp] theorem State.tick_frame (s : State) :
    (State.tick s).pending = s.pending ∧ (State.tick s).straps = s.straps ∧ (State.tick s).settings = s.settings
    ∧ (State.tick s).trk = s.trk ∧ (State.tick s).loop = s.loop ∧ (State.tick s).store = s.store
    ∧ (State.tick s).stored = s.stored ∧ (State.tick s).freeDraws = s.freeDraws := by
  obtain h | ⟨-, -, -, h⟩ := s.tick_cases <;> simp [h]

/-- What the part does on an empty queue: the steps due are queued, or one tick passes. -/
theorem State.idle_cases (s : State) :
    s.idle = s.tick ∨ ∃ i rest, s.ownEvents = i :: rest ∧ s.idle = { s with pending := i :: rest } := by
  unfold State.idle
  split <;> simp_all

@[simp] theorem State.idle_frame (s : State) :
    (State.idle s).straps = s.straps ∧ (State.idle s).settings = s.settings ∧ (State.idle s).trk = s.trk
    ∧ (State.idle s).loop = s.loop ∧ (State.idle s).store = s.store ∧ (State.idle s).stored = s.stored
    ∧ (State.idle s).freeDraws = s.freeDraws := by
  obtain h | ⟨i, rest, -, h⟩ := s.idle_cases <;> simp [h]

end Sys2Proof.Machine
end

