-- ==== Sys2Proof/Laws/Operations.lean ====
section
/-! SUPPORT. What each shared operation does, said once: the changes of MON's records, the entry of a cam to a state, the cam demand
handed to SHR, and the edge FIFO. Proofs cite these instead of unfolding the operations. -/

namespace Sys2Proof.Machine

/-! ## Conditions (R174, R175) -/

@[simp] theorem State.changeMon_mon (s : State) (f : Mon → Mon) : (s.changeMon f).mon = f s.mon := by
  unfold State.changeMon
  split <;> rfl

/-- A change of the records queues STATUS where the presented code changes, and touches nothing else of the line. -/
theorem State.changeMon_line (s : State) (f : Mon → Mon) :
    (s.changeMon f).line = if (f s.mon).presented = s.mon.presented then s.line
      else { s.line with slots := { s.line.slots with status := true } } := by
  unfold State.changeMon
  split <;> rfl

theorem State.activate_mon (s : State) (k : Cond) :
    (s.activate k).mon = if s.active k then s.mon
      else s.mon.put k { active := true, pending := true, count := satInc 255 (s.mon.get k).count } := by
  unfold State.activate
  split <;> simp_all

theorem State.deactivate_mon (s : State) (k : Cond) :
    (s.deactivate k).mon = if s.active k then s.mon.put k { s.mon.get k with active := false } else s.mon := by
  unfold State.deactivate
  split <;> simp_all

@[simp] theorem State.raiseEvent_mon (s : State) (k : Cond) :
    (s.raiseEvent k).mon = s.mon.put k { s.mon.get k with pending := true, count := satInc 255 (s.mon.get k).count } := by
  simp [State.raiseEvent]

@[simp] theorem State.activate_active (s : State) (k : Cond) : (s.activate k).active k = true := by
  cases h : s.active k
  · rw [State.active, State.activate_mon, h]
    simp
  · rw [State.active, State.activate_mon, h]
    exact h

@[simp] theorem State.deactivate_active (s : State) (k : Cond) : (s.deactivate k).active k = false := by
  cases h : s.active k
  · rw [State.active, State.deactivate_mon, h]
    exact h
  · rw [State.active, State.deactivate_mon, h]
    simp

theorem State.activate_get_ne (s : State) (j k : Cond) (h : j ≠ k) : (s.activate k).mon.get j = s.mon.get j := by
  simp only [State.activate_mon]
  split
  · rfl
  · exact Mon.get_put_ne _ _ _ _ h

theorem State.deactivate_get_ne (s : State) (j k : Cond) (h : j ≠ k) : (s.deactivate k).mon.get j = s.mon.get j := by
  simp only [State.deactivate_mon]
  split
  · exact Mon.get_put_ne _ _ _ _ h
  · rfl

theorem State.raiseEvent_get_ne (s : State) (j k : Cond) (h : j ≠ k) : (s.raiseEvent k).mon.get j = s.mon.get j := by
  simp [Mon.get_put_ne _ _ _ _ h]

theorem State.activate_active_ne (s : State) (j k : Cond) (h : j ≠ k) : (s.activate k).active j = s.active j := by
  simp [State.active, State.activate_get_ne _ _ _ h]

theorem State.deactivate_active_ne (s : State) (j k : Cond) (h : j ≠ k) : (s.deactivate k).active j = s.active j := by
  simp [State.active, State.deactivate_get_ne _ _ _ h]

/-- A deactivated condition keeps its pending flag and count (R174). -/
theorem State.deactivate_get (s : State) (k : Cond) :
    (s.deactivate k).mon.get k = { s.mon.get k with active := false } := by
  simp only [State.deactivate_mon]
  split
  · simp
  · rename_i h
    have : (s.mon.get k).active = false := by simpa [State.active] using h
    cases hg : s.mon.get k
    simp_all

theorem State.activate_line (s : State) (k : Cond) :
    (s.activate k).line = s.line ∨ (s.activate k).line = { s.line with slots := { s.line.slots with status := true } } := by
  unfold State.activate
  split
  · exact .inl rfl
  · rw [State.changeMon_line]; split
    · exact .inl rfl
    · exact .inr rfl

theorem State.deactivate_line (s : State) (k : Cond) :
    (s.deactivate k).line = s.line ∨ (s.deactivate k).line = { s.line with slots := { s.line.slots with status := true } } := by
  unfold State.deactivate
  split
  · rw [State.changeMon_line]; split
    · exact .inl rfl
    · exact .inr rfl
  · exact .inl rfl

/-! ## Cam demand (R123, R128) -/

@[simp] theorem State.setDemand_shr (s : State) (c : Cam) (d : Nat) :
    (s.setDemand c d).shr = { s.shr with demand := s.shr.demand.set c d } := by
  simp only [State.setDemand]
  split <;> rfl

/-- A new cam demand queues SHARE where D_s changes from 0 to a non-zero value, and touches nothing else of the line. -/
theorem State.setDemand_line (s : State) (c : Cam) (d : Nat) :
    (s.setDemand c d).line = if s.shr.stationDemand = 0 ∧ (s.setDemand c d).shr.stationDemand ≠ 0
      then { s.line with slots := { s.line.slots with share := true } } else s.line := by
  rw [State.setDemand_shr]
  simp only [State.setDemand]
  split <;> simp_all [State.queue, State.withLine, Slots.set]

/-! ## Entry of a cam to a state (R82) -/

@[simp] theorem Phm.abandon_measurement (p : Phm) : p.abandon.measurement = p.measurement := by
  unfold Phm.abandon
  split <;> rfl

set_option linter.unusedSimpArgs false in
/-- The entry of a cam to a state: its own four records change as R82 says, the other cam's stand, and SHR's cam demand becomes 0
where the new state drops it. -/
theorem State.enterCam_spec (s : State) (c : Cam) (new : CamState) (parkTime : Time) :
    (s.enterCam c new parkTime).camOf c = s.enterCtl c new parkTime (s.camOf c)
    ∧ (s.enterCam c new parkTime).phmOf c
        = (if (s.camOf c).state = .parked ∧ new ≠ .parked then (s.phmOf c).abandon else s.phmOf c)
    ∧ (s.enterCam c new parkTime).loopOf c = s.enterLoop (s.camOf c).state new (s.loopOf c)
    ∧ (s.enterCam c new parkTime).drvOf c = s.enterDrv c new (s.drvOf c)
    ∧ (s.enterCam c new parkTime).camOf c.other = s.camOf c.other
    ∧ (s.enterCam c new parkTime).phmOf c.other = s.phmOf c.other
    ∧ (s.enterCam c new parkTime).loopOf c.other = s.loopOf c.other
    ∧ (s.enterCam c new parkTime).drvOf c.other = s.drvOf c.other
    ∧ (s.enterCam c new parkTime).camc = { s.camc with cams := (s.enterCam c new parkTime).camc.cams }
    ∧ (s.enterCam c new parkTime).shr
        = (if new.dropsDemand then { s.shr with demand := s.shr.demand.set c 0 } else s.shr) := by
  cases c <;> cases new <;> by_cases h : (s.camOf .i).state = .parked <;> by_cases h' : (s.camOf .e).state = .parked <;>
    simp [State.enterCam, h, h', CamState.dropsDemand, State.enterCtl, State.enterLoop, State.enterDrv, State.camOf, State.phmOf,
      State.loopOf, State.drvOf, PerCam.modify, PerCam.set, PerCam.get, Cam.other, State.rampAtFollow,
      State.camSettings, State.onPhm, State.onCam, State.onLoop, State.onDrv] <;>
    simp_all [State.camOf, PerCam.get]

/-! ## Edge FIFO (R5, R7, R8) -/

/-- An edge is written behind `front` and ahead of the edges that follow it in the order of R6. -/
theorem writeBehind_split (e : Entry) (later front : List Entry) (hl : ∀ x ∈ later, x.follows e = true)
    (hf : ∀ x, front.head? = some x → x.follows e = false) : writeBehind e (later ++ front) = later ++ e :: front := by
  induction later with
  | nil =>
    cases front with
    | nil => rfl
    | cons x rest => simp [writeBehind, hf x rfl]
  | cons x rest ih =>
    have hx := hl x (by simp)
    simp [writeBehind, hx, ih (fun y hy => hl y (by simp [hy]))]

theorem writeBehind_length (e : Entry) (l : List Entry) : (writeBehind e l).length = l.length + 1 := by
  induction l with
  | nil => rfl
  | cons x rest ih => unfold writeBehind; split <;> simp [ih]

/-- A write with no loss pending: the entry in its place, and on a full FIFO the newest dropped, counted and left pending. -/
theorem Cap.write_split (k : Cap) (e : Entry) (front later : List Entry) (h : k.overflowPending = false)
    (hk : k.fifo = front ++ later) (hl : ∀ x ∈ later, x.follows e = true)
    (hf : ∀ x, front.getLast? = some x → x.follows e = false) :
    k.write e = if k.fifo.length < 16 then { k with fifo := front ++ e :: later }
      else { k with
        fifo := (front ++ e :: later).take 16, overflows := satInc 65535 k.overflows, overflowPending := true } := by
  have hw : (writeBehind e k.fifo.reverse).reverse = front ++ e :: later := by
    rw [hk, List.reverse_append, writeBehind_split e later.reverse front.reverse (by simpa using hl)
      (by simpa [List.head?_reverse] using hf)]
    simp
  simp [Cap.write, Cap.flushMarker, h, hw]

/-- A write never leaves more than 16 entries in the FIFO. -/
theorem Cap.write_length (k : Cap) (e : Entry) : (k.write e).fifo.length ≤ 16 := by
  simp only [Cap.write]
  split
  · simp only [List.length_reverse, writeBehind_length]
    omega
  · simp

/-- A take with no loss pending removes the head. -/
theorem Cap.take_plain (k : Cap) (now : Time) (h : k.overflowPending = false) : k.take now = { k with fifo := k.fifo.tail } := by
  simp [Cap.take, Cap.flushMarker, h]

/-! ## RAM images (R183) -/

@[simp] theorem State.refreshImage_store (s : State) (c : Cam) :
    (s.refreshImage c).store = { s.store with camImages := s.store.camImages.set c (s.camRecord c).encode } := rfl

@[simp] theorem State.markDirty_store (s : State) (r : Rec) :
    (s.markDirty r).store = { s.store with dirty := s.store.dirty.set r true } := rfl

/-! ## The line's drive and samples (R158, R159) -/

@[simp] theorem Line.release_receiver (l : Line) (now : Time) : (l.release now).receiver = l.receiver := rfl
@[simp] theorem Line.release_sending (l : Line) (now : Time) : (l.release now).sending = l.sending := rfl
@[simp] theorem Line.release_aborting (l : Line) (now : Time) : (l.release now).aborting = false := rfl
@[simp] theorem Line.release_drive (l : Line) (now : Time) : (l.release now).drive = none := rfl
@[simp] theorem Line.release_othersLow (l : Line) (now : Time) : (l.release now).othersLow = l.othersLow := rfl
@[simp] theorem Line.release_lastFall (l : Line) (now : Time) : (l.release now).lastFall = l.lastFall := rfl
@[simp] theorem Line.release_life (l : Line) (now : Time) : (l.release now).life = l.life := rfl
@[simp] theorem Line.release_seq (l : Line) (now : Time) : (l.release now).seq = l.seq := rfl

/-- The line after the part has let go of it is low only where another station holds it. -/
@[simp] theorem Line.release_low (l : Line) (now : Time) : (l.release now).low = l.othersLow := by simp [Line.low, Line.release]

@[simp] theorem Line.releaseDue_frame (l : Line) (now : Time) :
    (l.releaseDue now).receiver = l.receiver ∧ (l.releaseDue now).othersLow = l.othersLow
    ∧ (l.releaseDue now).bufferX = l.bufferX ∧ (l.releaseDue now).bufferY = l.bufferY
    ∧ (l.releaseDue now).lastBuffer = l.lastBuffer ∧ (l.releaseDue now).slots = l.slots
    ∧ (l.releaseDue now).sending = l.sending ∧ (l.releaseDue now).txEnabled = l.txEnabled ∧ (l.releaseDue now).seq = l.seq
    ∧ (l.releaseDue now).life = l.life ∧ (l.releaseDue now).framing = l.framing
    ∧ (l.releaseDue now).crcErrors = l.crcErrors ∧ (l.releaseDue now).malformed = l.malformed
    ∧ (l.releaseDue now).unknownKind = l.unknownKind ∧ (l.releaseDue now).overruns = l.overruns
    ∧ (l.releaseDue now).received = l.received ∧ (l.releaseDue now).arbLosses = l.arbLosses
    ∧ (l.releaseDue now).txFailures = l.txFailures ∧ (l.releaseDue now).sent = l.sent := by
  unfold Line.releaseDue
  (repeat' split) <;> simp [Line.release]

@[simp] theorem Line.driveNext_frame (l : Line) (now : Time) (tb : Nat) :
    (l.driveNext now tb).receiver = l.receiver ∧ (l.driveNext now tb).othersLow = l.othersLow
    ∧ (l.driveNext now tb).bufferX = l.bufferX ∧ (l.driveNext now tb).bufferY = l.bufferY
    ∧ (l.driveNext now tb).lastBuffer = l.lastBuffer ∧ (l.driveNext now tb).slots = l.slots
    ∧ (l.driveNext now tb).sending = l.sending ∧ (l.driveNext now tb).txEnabled = l.txEnabled
    ∧ (l.driveNext now tb).seq = l.seq ∧ (l.driveNext now tb).life = l.life ∧ (l.driveNext now tb).framing = l.framing
    ∧ (l.driveNext now tb).crcErrors = l.crcErrors ∧ (l.driveNext now tb).malformed = l.malformed
    ∧ (l.driveNext now tb).unknownKind = l.unknownKind ∧ (l.driveNext now tb).overruns = l.overruns
    ∧ (l.driveNext now tb).received = l.received ∧ (l.driveNext now tb).arbLosses = l.arbLosses
    ∧ (l.driveNext now tb).txFailures = l.txFailures ∧ (l.driveNext now tb).sent = l.sent
    ∧ (l.driveNext now tb).aborting = l.aborting := by
  unfold Line.driveNext
  (repeat' split) <;> simp [Line.beginBit]

@[simp] theorem Line.sample_frame (l : Line) (now : Time) (tb : Nat) :
    (l.sample now tb).receiver = l.receiver ∧ (l.sample now tb).othersLow = l.othersLow
    ∧ (l.sample now tb).bufferX = l.bufferX ∧ (l.sample now tb).bufferY = l.bufferY
    ∧ (l.sample now tb).lastBuffer = l.lastBuffer ∧ (l.sample now tb).slots = l.slots
    ∧ (l.sample now tb).sending = l.sending ∧ (l.sample now tb).txEnabled = l.txEnabled ∧ (l.sample now tb).seq = l.seq
    ∧ (l.sample now tb).life = l.life ∧ (l.sample now tb).framing = l.framing ∧ (l.sample now tb).crcErrors = l.crcErrors
    ∧ (l.sample now tb).malformed = l.malformed ∧ (l.sample now tb).unknownKind = l.unknownKind
    ∧ (l.sample now tb).overruns = l.overruns ∧ (l.sample now tb).received = l.received
    ∧ (l.sample now tb).arbLosses = l.arbLosses ∧ (l.sample now tb).txFailures = l.txFailures
    ∧ (l.sample now tb).sent = l.sent ∧ (l.sample now tb).aborting = l.aborting := by
  unfold Line.sample
  (repeat' split) <;> simp

/-- A drive ends at its time, and a 2Tb low of the part's with it (R158, R170). -/
theorem Line.releaseDue_cases (l : Line) (now : Time) :
    l.releaseDue now = l ∨ (dueAt l.drive now = true ∧ l.releaseDue now = l.release now) := by
  unfold Line.releaseDue
  split <;> simp_all

/-- A 2Tb low of the part's ends in the tick that ends its drive (R170). -/
theorem Line.tick_aborting (l : Line) (now : Time) (tb : Nat) :
    (l.tick now tb).aborting = (l.aborting && !dueAt l.drive now) := by
  simp only [Line.tick, Line.sample_frame, Line.driveNext_frame, Line.releaseDue]
  split <;> simp_all

/-- A tick touches only the drive, with its 2Tb mark, the latest edges, the bits begun and the samples. -/
@[simp] theorem Line.tick_frame (l : Line) (now : Time) (tb : Nat) :
    (l.tick now tb).receiver = l.receiver ∧ (l.tick now tb).othersLow = l.othersLow ∧ (l.tick now tb).bufferX = l.bufferX
    ∧ (l.tick now tb).bufferY = l.bufferY ∧ (l.tick now tb).lastBuffer = l.lastBuffer ∧ (l.tick now tb).slots = l.slots
    ∧ (l.tick now tb).sending = l.sending ∧ (l.tick now tb).txEnabled = l.txEnabled ∧ (l.tick now tb).seq = l.seq
    ∧ (l.tick now tb).life = l.life ∧ (l.tick now tb).framing = l.framing ∧ (l.tick now tb).crcErrors = l.crcErrors
    ∧ (l.tick now tb).malformed = l.malformed ∧ (l.tick now tb).unknownKind = l.unknownKind
    ∧ (l.tick now tb).overruns = l.overruns ∧ (l.tick now tb).received = l.received
    ∧ (l.tick now tb).arbLosses = l.arbLosses ∧ (l.tick now tb).txFailures = l.txFailures ∧ (l.tick now tb).sent = l.sent := by
  simp [Line.tick]

/-- What the count of 12Tb brings to an edge of its last moment: nothing, or the entry to IDLE where the line has been high for 12Tb
in WAIT_IDLE (R160). -/
theorem State.idleSettled_cases (s : State) :
    s.idleSettled = s
    ∨ (s.line.receiver = .waitIdle ∧ s.line.low = false ∧ 12 * s.tb ≤ elapsed s.now s.line.lastRise
      ∧ s.idleSettled = s.lineIdle) := by
  by_cases h : s.idleReached = true
  · exact .inr (by simp only [State.idleSettled, h, if_true]; simpa [State.idleReached, and_assoc] using h)
  · exact .inl (by simp [State.idleSettled, h])

/-- What the count of 16Tb brings to a rise of its last moment: nothing, or the held line where a low has lasted 16Tb with the
receiver on (R161). -/
theorem State.holdSettled_cases (s : State) :
    s.holdSettled = s
    ∨ (s.line.receiver ≠ .off ∧ s.line.low = true ∧ 16 * s.tb ≤ elapsed s.now s.line.lastFall
      ∧ s.holdSettled = s.lineHeld) := by
  by_cases h : s.holdReached = true
  · exact .inr (by simp only [State.holdSettled, h, if_true]; simpa [State.holdReached, and_assoc] using h)
  · exact .inl (by simp [State.holdSettled, h])

end Sys2Proof.Machine
end

