-- ==== Sys2Proof/Laws/PerInstr.lean ====
section
/-! SUPPORT. A statement about every command as syntax, one lemma per constructor: the only commands that can be ill formed are the
two that carry bytes, and each is well formed exactly where its bytes could come from the hardware. -/

namespace Sys2Proof.Laws.WellFormedIffBytes

/-- A command is well formed exactly where the bytes it carries are a complete frame (R163) or a stored record (R182); a command
that carries no bytes always is. -/
def Statement (i : Instr) : Prop :=
  i.wellFormed = true ↔
    (∀ bytes, i = .frameReceived bytes → frameComplete bytes = true) ∧ (∀ bytes, i = .storeWriteEnd bytes → recordSized bytes = true)

theorem crankEdge : Statement .crankEdge := ⟨fun _ => ⟨nofun, nofun⟩, fun _ => rfl⟩

theorem camEdge (c : Cam) : Statement (.camEdge c) := ⟨fun _ => ⟨nofun, nofun⟩, fun _ => rfl⟩

theorem crankFilterForget : Statement .crankFilterForget := ⟨fun _ => ⟨nofun, nofun⟩, fun _ => rfl⟩

theorem camFilterForget (c : Cam) : Statement (.camFilterForget c) := ⟨fun _ => ⟨nofun, nofun⟩, fun _ => rfl⟩

theorem takeCrankEntry : Statement .takeCrankEntry := ⟨fun _ => ⟨nofun, nofun⟩, fun _ => rfl⟩

theorem takeCamEntry : Statement .takeCamEntry := ⟨fun _ => ⟨nofun, nofun⟩, fun _ => rfl⟩

theorem takeOverflowMarker : Statement .takeOverflowMarker := ⟨fun _ => ⟨nofun, nofun⟩, fun _ => rfl⟩

theorem stallTimeout : Statement .stallTimeout := ⟨fun _ => ⟨nofun, nofun⟩, fun _ => rfl⟩

theorem cycleReport : Statement .cycleReport := ⟨fun _ => ⟨nofun, nofun⟩, fun _ => rfl⟩

theorem coilCurrentConversion (c : Cam) (count : BitVec 12) : Statement (.coilCurrentConversion c count) := ⟨fun _ => ⟨nofun, nofun⟩, fun _ => rfl⟩

theorem supplyConversion (count : BitVec 12) : Statement (.supplyConversion count) := ⟨fun _ => ⟨nofun, nofun⟩, fun _ => rfl⟩

theorem pressureConversion (count : BitVec 12) : Statement (.pressureConversion count) := ⟨fun _ => ⟨nofun, nofun⟩, fun _ => rfl⟩

theorem temperatureConversion (count : BitVec 12) : Statement (.temperatureConversion count) := ⟨fun _ => ⟨nofun, nofun⟩, fun _ => rfl⟩

theorem scanPassStart : Statement .scanPassStart := ⟨fun _ => ⟨nofun, nofun⟩, fun _ => rfl⟩

theorem demandFrame : Statement .demandFrame := ⟨fun _ => ⟨nofun, nofun⟩, fun _ => rfl⟩

theorem demandTimeout : Statement .demandTimeout := ⟨fun _ => ⟨nofun, nofun⟩, fun _ => rfl⟩

theorem holdExpiry : Statement .holdExpiry := ⟨fun _ => ⟨nofun, nofun⟩, fun _ => rfl⟩

theorem releaseExpiry (c : Cam) : Statement (.releaseExpiry c) := ⟨fun _ => ⟨nofun, nofun⟩, fun _ => rfl⟩

theorem restedMark (c : Cam) : Statement (.restedMark c) := ⟨fun _ => ⟨nofun, nofun⟩, fun _ => rfl⟩

theorem shareFrame : Statement .shareFrame := ⟨fun _ => ⟨nofun, nofun⟩, fun _ => rfl⟩

theorem shareTimer : Statement .shareTimer := ⟨fun _ => ⟨nofun, nofun⟩, fun _ => rfl⟩

theorem peerStale (station : Fin 8) : Statement (.peerStale station) := ⟨fun _ => ⟨nofun, nofun⟩, fun _ => rfl⟩

theorem peerDelete (station : Fin 8) : Statement (.peerDelete station) := ⟨fun _ => ⟨nofun, nofun⟩, fun _ => rfl⟩

theorem periodBoundary (c : Cam) : Statement (.periodBoundary c) := ⟨fun _ => ⟨nofun, nofun⟩, fun _ => rfl⟩

theorem onTimeEnd (c : Cam) : Statement (.onTimeEnd c) := ⟨fun _ => ⟨nofun, nofun⟩, fun _ => rfl⟩

theorem currentTrip (c : Cam) (milliamps : Nat) : Statement (.currentTrip c milliamps) := ⟨fun _ => ⟨nofun, nofun⟩, fun _ => rfl⟩

theorem supplyLowExpiry : Statement .supplyLowExpiry := ⟨fun _ => ⟨nofun, nofun⟩, fun _ => rfl⟩

theorem supplyRecoveryExpiry : Statement .supplyRecoveryExpiry := ⟨fun _ => ⟨nofun, nofun⟩, fun _ => rfl⟩

theorem framingError : Statement .framingError := ⟨fun _ => ⟨nofun, nofun⟩, fun _ => rfl⟩

theorem lineIdle : Statement .lineIdle := ⟨fun _ => ⟨nofun, nofun⟩, fun _ => rfl⟩

theorem lineHeld : Statement .lineHeld := ⟨fun _ => ⟨nofun, nofun⟩, fun _ => rfl⟩

theorem frameReceived (bytes : List Byte) : Statement (.frameReceived bytes) := by simp [Statement, Instr.wellFormed]

theorem transmitStart : Statement .transmitStart := ⟨fun _ => ⟨nofun, nofun⟩, fun _ => rfl⟩

theorem arbitrationLoss : Statement .arbitrationLoss := ⟨fun _ => ⟨nofun, nofun⟩, fun _ => rfl⟩

theorem bitError : Statement .bitError := ⟨fun _ => ⟨nofun, nofun⟩, fun _ => rfl⟩

theorem transmitComplete : Statement .transmitComplete := ⟨fun _ => ⟨nofun, nofun⟩, fun _ => rfl⟩

theorem listenExpiry : Statement .listenExpiry := ⟨fun _ => ⟨nofun, nofun⟩, fun _ => rfl⟩

theorem statusTimer : Statement .statusTimer := ⟨fun _ => ⟨nofun, nofun⟩, fun _ => rfl⟩

theorem readCam : Statement .readCam := ⟨fun _ => ⟨nofun, nofun⟩, fun _ => rfl⟩

theorem readTracker : Statement .readTracker := ⟨fun _ => ⟨nofun, nofun⟩, fun _ => rfl⟩

theorem readPeer : Statement .readPeer := ⟨fun _ => ⟨nofun, nofun⟩, fun _ => rfl⟩

theorem readCondition : Statement .readCondition := ⟨fun _ => ⟨nofun, nofun⟩, fun _ => rfl⟩

theorem readCounters : Statement .readCounters := ⟨fun _ => ⟨nofun, nofun⟩, fun _ => rfl⟩

theorem readSetting : Statement .readSetting := ⟨fun _ => ⟨nofun, nofun⟩, fun _ => rfl⟩

theorem writeSetting : Statement .writeSetting := ⟨fun _ => ⟨nofun, nofun⟩, fun _ => rfl⟩

theorem learnPark : Statement .learnPark := ⟨fun _ => ⟨nofun, nofun⟩, fun _ => rfl⟩

theorem clearConditions : Statement .clearConditions := ⟨fun _ => ⟨nofun, nofun⟩, fun _ => rfl⟩

theorem unknownRequest : Statement .unknownRequest := ⟨fun _ => ⟨nofun, nofun⟩, fun _ => rfl⟩

theorem storeWriteStart : Statement .storeWriteStart := ⟨fun _ => ⟨nofun, nofun⟩, fun _ => rfl⟩

theorem storeWriteEnd (readBack : List Byte) : Statement (.storeWriteEnd readBack) := by simp [Statement, Instr.wellFormed]

theorem stopTimer : Statement .stopTimer := ⟨fun _ => ⟨nofun, nofun⟩, fun _ => rfl⟩

theorem quietTimer : Statement .quietTimer := ⟨fun _ => ⟨nofun, nofun⟩, fun _ => rfl⟩

theorem wakeEdge : Statement .wakeEdge := ⟨fun _ => ⟨nofun, nofun⟩, fun _ => rfl⟩

theorem wakeComplete : Statement .wakeComplete := ⟨fun _ => ⟨nofun, nofun⟩, fun _ => rfl⟩

theorem reset (cause : ResetCause) : Statement (.reset cause) := ⟨fun _ => ⟨nofun, nofun⟩, fun _ => rfl⟩

theorem resetRelease : Statement .resetRelease := ⟨fun _ => ⟨nofun, nofun⟩, fun _ => rfl⟩

theorem startDelayEnd (pins : Straps) : Statement (.startDelayEnd pins) := ⟨fun _ => ⟨nofun, nofun⟩, fun _ => rfl⟩

theorem storeLoadComplete : Statement .storeLoadComplete := ⟨fun _ => ⟨nofun, nofun⟩, fun _ => rfl⟩

theorem lineFallingEdge : Statement .lineFallingEdge := ⟨fun _ => ⟨nofun, nofun⟩, fun _ => rfl⟩

theorem startOfFrame : Statement .startOfFrame := ⟨fun _ => ⟨nofun, nofun⟩, fun _ => rfl⟩

end Sys2Proof.Laws.WellFormedIffBytes
end

