-- ==== Sys2Proof/Tests/Slice0.lean ====
section
/-! SUPPORT. Tests: the spec's worked examples, ill-formed commands that WellFormed refuses, small steps of the commands, and for each
statement of Certificates/Slice0/Obligations.lean with hypotheses a concrete state and operands that meet them. Expected results
are the spec's examples or worked by hand from its rules. -/

namespace Sys2Proof.Tests

set_option Elab.async false

open Sys2Proof Sys2Proof.Machine

/-! ## Ill-formed commands are refused by WellFormed -/

theorem test_frame_too_short_refused : Instr.wellFormed (.frameReceived [0x21]) = false := by decide

theorem test_frame_length_disagrees_refused :
    Instr.wellFormed (.frameReceived [0x20, 0x02, 1, 0, 0]) = false ∧ Instr.wellFormed (.frameReceived [0x20, 0x01, 1, 0, 0]) = true := by
  decide

theorem test_record_size_refused :
    Instr.wellFormed (.storeWriteEnd [0, 0, 1, 0xF4, 0, 0, 0]) = false
    ∧ Instr.wellFormed (.storeWriteEnd [0, 0, 1, 0xF4, 0, 0, 0, 0]) = true := by decide

/-! ## Worked examples of the spec -/

/-- R164: the characters 1 to 9 give 29B1 hex. -/
theorem test_crc_of_digits : crc16 [0x31, 0x32, 0x33, 0x34, 0x35, 0x36, 0x37, 0x38, 0x39] = 0x29B1 := by decide +kernel

/-- R12, R153: the mean counts at the supply thresholds. -/
theorem test_supply_values :
    (Scan.millivolts { supply := List.replicate 8 1433 } = 6998) ∧ (Scan.millivolts { supply := List.replicate 8 1434 } = 7003)
    ∧ Scan.millivolts { supply := List.replicate 8 2867 } = 14002 ∧ Scan.millivolts { supply := List.replicate 7 2867 } = 0 := by
  decide

/-- R11, R152: the mean coil currents next to 50 mA. -/
theorem test_coil_currents :
    CoilSum.milliamps ⟨68, 1⟩ = 49 ∧ CoilSum.milliamps ⟨138, 2⟩ = 50 ∧ CoilSum.milliamps ⟨0, 0⟩ = 0 := by decide

/-- R14: pressures of mean counts, with the truncation toward minus infinity and both clamps. -/
theorem test_pressures :
    kpaOfCount 889 = 146 ∧ kpaOfCount 1229 = 250 ∧ kpaOfCount 1393 = 300 ∧ kpaOfCount 205 = 0 ∧ kpaOfCount 3890 = 1000 := by decide

/-- R16: the ends of the table, its points, and between point 4 (2500, 30) and point 5 (1850, 50). -/
theorem test_temperatures :
    tempOfCount .default 3900 = -30 ∧ tempOfCount .default 480 = 110 ∧ tempOfCount .default 2500 = 30
    ∧ tempOfCount .default 1850 = 50 ∧ tempOfCount .default 2175 = 40 ∧ tempOfCount .default 3750 = -20 := by decide

/-- R50, R52, R53: the intake example of chapter 3. -/
theorem test_intake_edge :
    cycleAngle .b 15 300 556 = 9489 ∧ identify .i Settings.default.cams.i 9489 = some (3, 9920) ∧ rawDeviation .i 9920 9489 = 431 := by
  decide

/-- R50, R52, R53: the exhaust example of chapter 3. -/
theorem test_exhaust_edge :
    cycleAngle .b 13 200 556 = 8966 ∧ identify .e Settings.default.cams.e 8966 = some (3, 8960) ∧ rawDeviation .e 8960 8966 = 6 := by
  decide

/-- R51: the fraction stays below the next tooth, three pitches on after tooth 21. -/
theorem test_fraction_limits :
    cycleAngle .a 4 2000 500 = 1199 ∧ cycleAngle .a 21 9000 500 = 5759 ∧ cycleAngle .b 21 500 500 = 11040 := by decide

/-- R62: the mean over 32, halves away from zero. -/
theorem test_rounded_means :
    roundedMean 197 = 6 ∧ roundedMean 16 = 1 ∧ roundedMean 15 = 0 ∧ roundedMean (-16) = -1 ∧ roundedMean (-15) = 0
    ∧ roundedMean (-3072) = -96 := by decide

/-- R103 to R108: the worked updates of chapter 5, from hold duty 500 and integral 5120. -/
theorem test_clamped_update :
    outputStages .default 500 5120 55 26 60
      = { uRaw := 673, u := 580, integral := 5120, duty := 580, clamped := true, windup := true } := by decide +kernel

theorem test_plain_update :
    outputStages .default 500 5120 18 13 60
      = { uRaw := 567, u := 567, integral := 5822, duty := 567, clamped := false, windup := false } := by decide +kernel

/-- R104, R107: the integral bound at both ends. -/
theorem test_integral_bounds :
    (outputStages .default 500 50000 20 26 60).integral = 51200
    ∧ (outputStages .default 300 (-51200) (-500) 20 400).duty = 0 := by decide

/-- R113: a hold step of chapter 5. -/
theorem test_hold_step :
    (Loop.holdStep { hold := 500, integral := 5822 }).hold = 501 ∧ (Loop.holdStep { hold := 500, integral := 5822 }).integral = 5566
    ∧ (Loop.holdStep { hold := 700, integral := 5822 }).integral = 5822 := by decide

/-- R124, R125, R102: the example of chapter 6: flow 300, station demands 400 and 350. -/
def flow300 (i e peer : Nat) : Shr :=
  { fAvail := 300, demand := ⟨i, e⟩,
    peers := [{ station := 2, role := .phase, lastSeq := 0, missed := 0, lastRefresh := 0, fresh := true,
                share := some ⟨peer, 0, 0, .both false, 0, 0⟩, pressure := none, report := none }] }

theorem test_station_grants :
    (flow300 250 150 350).stationGrant = 160 ∧ (flow300 200 150 400).stationGrant = 140
    ∧ (flow300 0 0 350).stationGrant = 0 ∧ (flow300 100 50 100).stationGrant = 150 := by decide

theorem test_cam_grants_and_authority :
    (flow300 250 150 350).camGrant .i = 100 ∧ (flow300 250 150 350).camGrant .e = 60
    ∧ authority .default 250 100 300 = 80 ∧ authority .default 150 60 300 = 60 ∧ authority .default 0 0 300 = 0 := by decide

/-- R146: the compensation examples of chapter 7. -/
theorem test_compensation :
    compensated 580 14400 = 543 ∧ compensated 580 12000 = 652 ∧ compensated 580 8000 = 870 ∧ compensated 1000 0 = 1500 := by decide

/-- R147, R148: dither added and taken away, and the ends of the range. -/
theorem test_dither :
    appliedDuty 543 (ditherOf .default 580 .follow 1) = 583 ∧ appliedDuty 543 (ditherOf .default 580 .follow 3) = 503
    ∧ ditherOf .default 580 .parked 1 = 0 ∧ appliedDuty 20 (-40) = 0 ∧ appliedDuty 1500 40 = 1000 := by decide

/-- R182: the defaults are read back from their own image, and fill its first group most significant bit first. -/
theorem test_default_image :
    decodeSettings (encodeSettings .default) = .default ∧ (encodeSettings .default).take 2 = [0x14, 0x00] := by decide +kernel

/-- R17, R48, R94, R118: the defaults pass the load checks; windows that overlap, and equal counts, do not. -/
theorem test_load_checks :
    loadChecks .default = true ∧ camWindowsOk .i ⟨1280, 2300, 4160, 9920, 3, 1, 800⟩ = false
    ∧ camWindowsOk .i ⟨1280, 2720, 4160, 9920, 2, 2, 800⟩ = false := by decide +kernel

/-! ## Small states -/

/-- A part in RUN, station 1, code 1 (Tb 16 ticks), both cams and the pressure sensor fitted, 2.5 s after its start. -/
def running : State :=
  { State.reset with
    now := 5000000
    straps := ⟨1, 1, true, true⟩
    pwr := { State.reset.pwr with power := .run, sequence := none } }

/-- The same part in another power state. -/
def inPower (p : Power) : State := { running with pwr := { running.pwr with power := p } }

/-- The same part with edges in its FIFO. -/
def queued (l : List Entry) : State := { running with cap := { running.cap with fifo := l } }

/-- The tracker in synchronisation: tooth `tooth` 300 ticks ago, pitch 500, 1,000 rpm. -/
def tracking (st : TrkState) (h : Option Half) (tooth : Nat) : Trk :=
  { state := st, lastCrank := some 4999700, tooth := tooth, toothTime := some 4999700, pitch := 500, half := h
    revStart := 4989700, revComplete := true, rpm := 1000, stallRef := some 4999700 }

/-- The same part, its tracker in synchronisation, with an entry in the FIFO. -/
def synced (st : TrkState) (h : Option Half) (tooth : Nat) (e : Source) : State :=
  { queued [⟨e, 5000000⟩] with trk := tracking st h tooth }

/-- One cam's machine replaced. -/
def withCam (s : State) (c : Cam) (k : CamCtl) : State := { s with camc := { s.camc with cams := s.camc.cams.set c k } }

/-- One channel replaced. -/
def withDrv (s : State) (c : Cam) (d : Drv) : State := { s with drv := s.drv.set c d }

/-- The part with a frame waiting in its first receive buffer. -/
def holding (s : State) (w : Received) : State := { s with line := { s.line with bufferX := some w, lastBuffer := some .x } }

/-- A received frame. -/
def frame (k : Kind) (station : Nat) (payload : List Byte) : Received := ⟨⟨k, station, 3, payload⟩, 4999000, false⟩

/-- A condition made active. -/
def raised (s : State) (k : Cond) : State := { s with mon := s.mon.put k ⟨true, true, 1⟩ }

/-- The command is answered with a next state of which `p` holds. -/
def gives (c : Instr) (s : State) (p : State → Bool) : Bool :=
  match Sys2Proof.Machine.exec c s with
  | .next t => p t
  | .fault _ => false
  | .refused _ => false

/-- The next state of a command. -/
def after (c : Instr) (s : State) : State :=
  match Sys2Proof.Machine.exec c s with
  | .next t => t
  | .fault _ => s
  | .refused _ => s

/-- The next state of a step. -/
def stepped (s : State) : State :=
  match Sys2Proof.Machine.step s with
  | .next t => t
  | .fault _ => s
  | .refused _ => s

/-- Cam I in FAULTED, cam E in OFF. -/
def faultedState : State := withCam running .i { state := .faulted }

/-! ## Witnesses: the machine as a whole -/

theorem witness_IdleStepIsOneTick :
    ∀ p ∈ [Power.standby, .run, .loading, .startDelay, .doze, .held], (inPower p).pending = [] ∧ (inPower p).ownEvents = []
      ∧ (inPower p).line.aborting = false := by
  decide +kernel

/-- A part with a command at the front of its queue and its blocks busy: a cam edge to be handled in CYCLE_SYNC, cam I in FOLLOW
and cam E parked and learning, a frame being sent, a peer, a write in flight. -/
def busy : State :=
  { synced .cycleSync (some .b) 15 (.cam .i) with
    pending := [.takeCamEntry, .crankEdge]
    camc := { running.camc with
      mode := .run, cold := false
      cams := ⟨{ state := .follow, commanded := 400, ramp := 390 }, { state := .parked, parkedAt := some 4000000, rested := true }⟩ }
    phm := ⟨{ status := .learned, offset := 5 }, { status := .learning, statusBefore := some .notLearned, collector := [6, 7] }⟩
    loop := ⟨{ integral := 5120, lastUpdate := 4990000, first := false }, {}⟩
    drv := ⟨{ pending := 580, active := 580, applied := 543, ditherPhase := 2, periodStart := some 4999000, output := true },
      { periodStart := some 4998000 }⟩
    shr := { (flow300 40 0 350) with filings := 1, source := .peer 2, pressure := some 146 }
    line := { running.line with
      receiver := .frame, lastFall := 4999995, dataBits := 3, sampled := [false, true], life := .active, sending := some ⟨.share, [0x41, 0x37]⟩, seq := 3 }
    store := { running.store with
      configImage := List.replicate 64 0, camImages := ⟨[5, 1, 1, 244, 0, 0], [0, 0, 1, 244, 7, 7]⟩
      inFlight := some ⟨.cam .i, [], ⟨4999000, 8000⟩⟩, fault := ⟨true, .both false⟩ }
    mon := (running.mon.put .storeFault ⟨true, true, 1⟩).put .learnFailed ⟨false, true, 4⟩ }

theorem test_busy_steps : Sys2Proof.Machine.step busy = .next (stepped busy) ∧ (stepped busy).pending = [.crankEdge] :=
  ⟨rfl, by decide +kernel⟩

theorem witness_EveryStepKeepsCaptureSound : CaptureSound busy := by constructor <;> decide +kernel

theorem witness_EveryStepKeepsTrackerSound : TrackerSound busy := by constructor <;> decide +kernel

theorem witness_EveryStepKeepsCamsSound : CamsSound busy := by constructor <;> constructor <;> decide +kernel

/-- The same part with no exhaust cam fitted. -/
def oneCam : State := { withCam busy .e {} with straps := ⟨1, 1, true, false⟩ }

theorem witness_EveryStepKeepsFixedCamsOff :
    FixedCamsOff oneCam ∧ oneCam.machineRuns .e = false ∧ Sys2Proof.Machine.step oneCam = .next (stepped oneCam) := by
  refine ⟨⟨fun c h => ?_, fun h => ?_⟩, by decide +kernel, rfl⟩
  · cases c
    · exact absurd h (by decide +kernel)
    · decide +kernel
  · exact absurd h (by decide +kernel)

theorem witness_EveryStepKeepsDrivesSound : DrivesSound busy := by
  constructor <;> first | decide +kernel | (constructor <;> decide +kernel)

theorem witness_EveryStepKeepsPeersSound : PeersSound busy := by constructor <;> decide +kernel

theorem witness_EveryStepKeepsConditionsSound : ConditionsSound busy :=
  ⟨by decide +kernel, fun k h => by rcases h with rfl | rfl | rfl | rfl <;> decide +kernel⟩

theorem witness_EveryStepKeepsOwnersAgree : OwnersAgree busy :=
  ⟨by decide +kernel, by decide +kernel, fun _ _ _ => by decide +kernel, fun _ _ _ c => by cases c <;> decide +kernel⟩

theorem witness_EveryStepKeepsLineSound : LineSound busy := by constructor <;> decide +kernel

theorem witness_EveryStepKeepsLoopSound : LoopSound busy := by
  constructor <;> first | decide +kernel | (intro c; cases c <;> decide +kernel)

theorem witness_EveryStepKeepsLearnSound : LearnSound busy := by
  constructor <;> first | decide +kernel | (intro c; cases c <;> decide +kernel) | skip
  exact fun h => absurd h (by decide +kernel)

theorem witness_StoreStrapsAndSettingsHold :
    Sys2Proof.Machine.exec .takeCamEntry busy = .next (after .takeCamEntry busy)
    ∧ (∀ b, Instr.takeCamEntry ≠ .storeWriteEnd b) ∧ (∀ k, Instr.takeCamEntry ≠ .reset k)
    ∧ (∀ pins, Instr.takeCamEntry ≠ .startDelayEnd pins) ∧ Instr.takeCamEntry ≠ .storeLoadComplete :=
  ⟨rfl, by simp, by simp, by simp, by simp⟩

/-! ## Witnesses: encodings and arithmetic -/

theorem witness_FrameIsReceivedAsSent :
    Frame.sound ⟨.share, 7, 15, [0, 9, 0, 5, 1, 44, 0x83, 0, 200]⟩ = true ∧ Frame.sound ⟨.reply, 0, 0, List.replicate 15 255⟩ = true
    ∧ Frame.sound ⟨.demand, 0, 3, [2]⟩ = true ∧ (7 : Nat) ≠ 1 ∧ (0 : Nat) ≠ 1 := by decide +kernel

theorem test_frame_is_received :
    judgeFrame 1 (Frame.bytes ⟨.share, 7, 15, [0, 9, 0, 5, 1, 44, 0x83, 0, 200]⟩)
      = .valid ⟨.share, 7, 15, [0, 9, 0, 5, 1, 44, 0x83, 0, 200]⟩ := by decide +kernel

theorem witness_StoredRecordsAreReadBackAsEncoded_groups : ∀ g ∈ [0, 7], g < 8 := by decide

/-- The statement's table applied: every field of these groups of the defaults fits its width. -/
theorem witness_StoredRecordsAreReadBackAsEncoded_table (h : Obligations.StoredRecordsAreReadBackAsEncoded) :
    (encodeGroup .default 0).length = 8 ∧ (encodeGroup .default 4).length = 8 ∧ (encodeGroup .default 7).length = 8 :=
  ⟨(h.2.1 .default 0 _ rfl (by decide +kernel)).1, (h.2.1 .default 4 _ rfl (by decide +kernel)).1,
    (h.2.1 .default 7 _ rfl (by decide +kernel)).1⟩

/-- R182: groups 5 and 6 of the defaults, their bits laid end to end by hand from the table. -/
theorem test_mixed_groups :
    encodeGroup .default 5 = [0xC8, 0x32, 0x01, 0xF4, 0x2E, 0xE1, 0x2C, 0x40]
    ∧ encodeGroup .default 6 = [0x32, 0x50, 0x19, 0x02, 0x83, 0x01, 0x19, 0x00] := by decide +kernel

/-- R184: fields of ones are taken to the tops of their ranges, left-over bits or not. -/
theorem test_settings_are_clamped :
    (decodeSettings (List.replicate 64 0xFF)).parkBand = 64 ∧ (decodeSettings (List.replicate 64 0xFF)).tCold = 60
    ∧ (decodeSettings (List.replicate 64 0)).tCold = -40 ∧ (decodeSettings (List.replicate 64 0)).rpmMinPhase = 500 := by
  decide +kernel

theorem witness_StoredRecordsAreReadBackAsEncoded_cams :
    ∀ r ∈ [(⟨-96, true, 300⟩ : CamRecord), ⟨96, false, 700⟩], -96 ≤ r.offset ∧ r.offset ≤ 96 ∧ 300 ≤ r.hold ∧ r.hold ≤ 700 := by
  decide

theorem witness_CamEdgesArePlacedAndIdentified_angle :
    (20 : Nat) ≤ 21 ∧ 499 * 240 / 500 ≤ (if (20 : Nat) = 21 then 719 else 239)
    ∧ 1498 * 240 / 500 ≤ (if (21 : Nat) = 21 then 719 else 239) := by decide

theorem witness_CamEdgesArePlacedAndIdentified_window :
    camWindowsOk .i Settings.default.cams.i = true
    ∧ (∀ a ∈ [8960, 10048], (window .i 9920).1 ≤ (a : Int) ∧ (a : Int) ≤ (window .i 9920).2)
    ∧ Settings.default.cams.i.refs[3]? = some 9920
    ∧ (∀ ref ∈ Settings.default.cams.i.refs, ((10049 : Nat) : Int) < (window .i ref).1 ∨ (window .i ref).2 < ((10049 : Nat) : Int)) := by
  decide +kernel

theorem witness_LearnedOffsetIsTheRoundedMean :
    32 * roundedMean 16 - 16 = 16 ∧ 32 * roundedMean (-16) - (-16) = -16 ∧ (-3072 : Int) ≤ -3072 ∧ (3072 : Int) ≤ 3072 := by decide

theorem witness_TemperatureFollowsTheTable :
    (let s := { running with scan := { running.scan with temperature := List.replicate 8 2500 } };
      s.scan.temperature.length = 8 ∧ s.active .tempSensor = false)
    ∧ tempTableOk .default = true ∧ Settings.default.t1.count ≤ 3900 ∧ 480 ≤ Settings.default.t8.count
    ∧ Settings.default.tempTable[3]? = some ⟨2500, 30⟩ ∧ Settings.default.tempTable[4]? = some ⟨1850, 50⟩
    ∧ (∀ m ∈ [2500, 1851], m < Settings.default.t1.count ∧ Settings.default.t8.count < m ∧ m ≤ 2500 ∧ 1850 < m) := by decide +kernel

theorem witness_StationGrantsStayWithinTheFlow :
    (flow300 0 0 0).totalDemand = 0 ∧ (flow300 100 50 150).totalDemand = (flow300 100 50 150).fAvail ∧ (flow300 100 50 151).fAvail < (flow300 100 50 151).totalDemand
    ∧ (flow300 250 150 350).fAvail = (flow300 200 150 400).fAvail
    ∧ (flow300 250 150 350).totalDemand = (flow300 200 150 400).totalDemand
    ∧ (flow300 250 150 350).stationDemand + (flow300 200 150 400).stationDemand ≤ (flow300 250 150 350).totalDemand := by decide

/-- R124: a record counts while FRESH and of role PHASE. -/
theorem test_demand_that_counts :
    (flow300 100 50 150).totalDemand = 300
    ∧ (∀ f ∈ ([fun p => { p with fresh := false }, fun p => { p with role := .controller }, fun p => { p with role := .other },
        fun p => { p with share := none }] : List (Peer → Peer)),
      ({ flow300 100 50 150 with peers := (flow300 100 50 150).peers.map f } : Shr).totalDemand = 150) := by decide

theorem witness_CamGrantIsTheCamsShare :
    (flow300 250 150 350).stationDemand ≠ 0 ∧ (flow300 0 0 350).stationDemand = 0
    ∧ (flow300 100 50 150).stationGrant = (flow300 100 50 150).stationDemand ∧ (flow300 0 150 350).demand.get .i = 0 := by decide

/-- The settings with the gains and the bound at the top of their ranges. -/
def topGains : Settings := { Settings.default with kp := 255, ki := 255, iLim := 300 }

theorem witness_OutputStagesStayInRange :
    topGains.kp ≤ 255 ∧ topGains.ki ≤ 255 ∧ topGains.iLim ≤ 300 ∧ (76800 : Int) ≤ (topGains.iLim : Int) * 256
    ∧ -((topGains.iLim : Int) * 256) ≤ -76800
    ∧ (outputStages topGains 700 76800 928 160 500).uRaw = 25033 ∧ (outputStages topGains 300 (-76800) (-928) 160 500).uRaw = -24033
    ∧ (outputStages topGains 700 76800 928 160 500).windup = true
    ∧ (outputStages topGains 700 76800 0 160 500).duty = 1000 := by decide +kernel

/-- The two updates of chapter 5: clamped at 580 from 673 with ΔI growing, and within the band; and one clamped against ΔI. -/
theorem witness_OutputStagesStayInRange_clamp :
    (let r := outputStages .default 500 5120 55 26 60; r.u ≠ r.uRaw ∧ r.uRaw - r.u = 93 ∧ 0 < integralStep .default 55 26)
    ∧ (let r := outputStages .default 500 5120 18 13 60; r.u = r.uRaw)
    ∧ (let r := outputStages .default 500 5120 (-55) 26 60; r.u ≠ r.uRaw ∧ r.uRaw - r.u < 0 ∧ integralStep .default (-55) 26 < 0) := by
  decide +kernel

theorem witness_HoldStepKeepsTheHoldPoint :
    (let k : Loop := { integral := 256, hold := 699 }; 256 ≤ k.integral ∧ k.hold < 700)
    ∧ (let k : Loop := { integral := -256, hold := 301 }; k.integral ≤ -256 ∧ 300 < k.hold)
    ∧ (let k : Loop := { integral := 256, hold := 700 }; ¬(256 ≤ k.integral ∧ k.hold < 700) ∧ ¬(k.integral ≤ -256 ∧ 300 < k.hold)) := by
  decide

theorem witness_PresentedCodeIsTheLowest :
    (running.mon.put .supplyLow ⟨true, true, 1⟩).presented ≠ running.mon.presented
    ∧ ((raised running .supplyLow).mon.put .lineStuck ⟨true, true, 1⟩).presented = (raised running .supplyLow).mon.presented
    ∧ (raised running .supplyLow).mon.presented = 5 := by decide +kernel

/-! ## Witnesses and small steps: capture and tracker -/

/-- The crank filter's last accepted edge `d` ticks ago, the crank interval before it 400 ticks. -/
def crankAgo (d : Nat) : State :=
  { running with cap := { running.cap with
      crankLast := some (5000000 - BitVec.ofNat 24 d), pLast := some 400, fifo := List.replicate 15 ⟨.cam .i, 4990000⟩ } }

/-- The same part 100 ticks after its last crank edge, `n` old entries and then both cams' edges of this tick in its FIFO. -/
def crankBehind (n : Nat) : State :=
  { crankAgo 100 with cap := { (crankAgo 100).cap with
      fifo := List.replicate n ⟨.cam .e, 4990000⟩ ++ [⟨.cam .i, 5000000⟩, ⟨.cam .e, 5000000⟩] } }

theorem witness_CrankEdgeIsFilteredAndQueued :
    (∀ d ∈ [99, 100], (crankAgo d).pwr.power = .run ∧ (crankAgo d).cap.overflowPending = false ∧ (crankAgo d).cap.fifo.length < 16
      ∧ (crankAgo d).cap.crankLast = some (5000000 - BitVec.ofNat 24 d)
      ∧ (crankAgo d).cap.fifo.getLast? = some ⟨.cam .i, 4990000⟩)
    ∧ max 40 (((crankAgo 100).cap.pLast.getD 0) / 4) ≤ elapsed (crankAgo 100).now (5000000 - 100)
    ∧ elapsed (crankAgo 99).now (5000000 - 99) < max 40 (((crankAgo 99).cap.pLast.getD 0) / 4)
    ∧ (∀ n ∈ [13, 14], (crankBehind n).pwr.power = .run ∧ (crankBehind n).cap.overflowPending = false
      ∧ (crankBehind n).cap.fifo = List.replicate n ⟨.cam .e, 4990000⟩ ++ [⟨.cam .i, (crankBehind n).now⟩, ⟨.cam .e, (crankBehind n).now⟩]
      ∧ (List.replicate n (⟨.cam .e, 4990000⟩ : Entry)).getLast? = some ⟨.cam .e, 4990000⟩)
    ∧ (crankBehind 13).cap.fifo.length = 15 ∧ (crankBehind 14).cap.fifo.length = 16 := by decide +kernel

/-- The same parts during the store load, in STANDBY and in DOZE. -/
def crankIn (p : Power) (s : State) : State := { s with pwr := { s.pwr with power := p } }

theorem witness_CrankEdgeIsFilteredAndQueued_load :
    (crankIn .loading (crankAgo 100)).pwr.power = .loading ∧ (crankIn .loading (crankAgo 100)).cap.fifo.length = 15
    ∧ (∀ n ∈ [13, 14], (crankIn .loading (crankBehind n)).cap.fifo
      = List.replicate n ⟨.cam .e, 4990000⟩ ++ [⟨.cam .i, (crankBehind n).now⟩, ⟨.cam .e, (crankBehind n).now⟩])
    ∧ (∀ p ∈ [Power.loading, .standby, .run], (crankIn p (crankAgo 99)).pwr.power = p
      ∧ (crankIn p (crankAgo 99)).cap.crankLast = some (5000000 - 99)
      ∧ elapsed (crankIn p (crankAgo 99)).now (5000000 - 99) < max 40 (((crankIn p (crankAgo 99)).cap.pLast.getD 0) / 4))
    ∧ (∀ p ∈ [Power.held, .startDelay, .doze, .waking], (crankIn p (crankAgo 100)).pwr.power ≠ .run
      ∧ (crankIn p (crankAgo 100)).pwr.power ≠ .standby ∧ (crankIn p (crankAgo 100)).pwr.power ≠ .loading) := by decide +kernel

/-- R191: an edge accepted during the load sets the crank mark and waits in the FIFO; R3: noise is noise in any power state. -/
theorem test_crank_edges_outside_run :
    gives .crankEdge (crankIn .loading (crankAgo 100))
      (fun t => t.pwr.crankMark ∧ t.pwr.power = .loading ∧ t.cap.fifo.getLast? = some ⟨.crank, 5000000⟩) = true
    ∧ gives .crankEdge (crankIn .loading (crankAgo 99)) (fun t => !t.pwr.crankMark ∧ t.cap.crankNoise = 1) = true
    ∧ gives .crankEdge (crankIn .standby (crankAgo 99)) (fun t => t.pwr.power = .standby ∧ t.cap.crankNoise = 1) = true
    ∧ gives .crankEdge (crankIn .doze (crankAgo 100)) (fun t => t.cap.fifo.length = 15 ∧ t.cap.crankNoise = 0) = true := by
  decide +kernel

theorem test_crank_edge_at_the_threshold :
    gives .crankEdge (crankAgo 100) (fun t => t.cap.fifo.length = 16 ∧ t.cap.crankNoise = 0 ∧ t.cap.pLast = some 100) = true
    ∧ gives .crankEdge (crankAgo 99) (fun t => t.cap.fifo.length = 15 ∧ t.cap.crankNoise = 1 ∧ t.cap.pLast = some 400) = true := by
  decide +kernel

/-- R6: CRANK first, then CAM_I, then CAM_E, whichever command comes first; a full FIFO loses the last. -/
theorem test_edges_of_one_tick_are_in_order :
    gives .crankEdge (crankBehind 13) (fun t => t.cap.fifo.drop 12
      = [⟨.cam .e, 4990000⟩, ⟨.crank, 5000000⟩, ⟨.cam .i, 5000000⟩, ⟨.cam .e, 5000000⟩] ∧ t.cap.overflows = 0) = true
    ∧ gives .crankEdge (crankBehind 14) (fun t => t.cap.fifo.drop 13 = [⟨.cam .e, 4990000⟩, ⟨.crank, 5000000⟩, ⟨.cam .i, 5000000⟩]
      ∧ t.cap.overflows = 1 ∧ t.cap.overflowPending) = true := by decide +kernel

theorem witness_CrankEdgeInStandbyEntersRun :
    ((inPower .standby).pwr.power = .standby ∧ (inPower .standby).cap.crankLast = none ∧ (inPower .standby).trk.state = .stopped)
    ∧ (∀ n ∈ [13, 14], (crankIn .standby (crankBehind n)).pwr.power = .standby
      ∧ (crankIn .standby (crankBehind n)).cap.crankLast = some (5000000 - 100)
      ∧ max 40 (((crankBehind n).cap.pLast.getD 0) / 4) ≤ elapsed (crankBehind n).now (5000000 - 100)
      ∧ (crankIn .standby (crankBehind n)).cap.overflowPending = false
      ∧ (crankIn .standby (crankBehind n)).cap.fifo
        = List.replicate n ⟨.cam .e, 4990000⟩ ++ [⟨.cam .i, (crankBehind n).now⟩, ⟨.cam .e, (crankBehind n).now⟩]
      ∧ (List.replicate n (⟨.cam .e, 4990000⟩ : Entry)).getLast? = some ⟨.cam .e, 4990000⟩) := by
  decide +kernel

theorem test_standby_edge_enters_run :
    gives .crankEdge (crankIn .standby (crankBehind 14)) (fun t => t.pwr.power = .run ∧ t.cap.overflows = 1
      ∧ t.cap.fifo.length = 16 ∧ t.scan.conversion = some ⟨.coil .i, 5000000⟩ ∧ t.drv.e.periodStart = some 5000000) = true := by
  decide +kernel

/-- Cam I's filter with its last accepted edge `d` ticks ago, and `n` entries in the FIFO. -/
def camAgo (d n : Nat) : State :=
  { running with cap := { running.cap with
      camLast := ⟨some (5000000 - BitVec.ofNat 24 d), none⟩, fifo := List.replicate n ⟨.crank, 4990000⟩ } }

/-- The same with cam E's edge of this tick behind the `n` entries. -/
def camBehind (n : Nat) : State :=
  { camAgo 100 n with cap := { (camAgo 100 n).cap with fifo := (camAgo 100 n).cap.fifo ++ [⟨.cam .e, 5000000⟩] } }

theorem witness_CamEdgesAreQueuedAndFiltersForget_edges :
    (camAgo 99 0).sensing = true ∧ (camAgo 99 0).cap.camLast.get .i = some (5000000 - 99)
    ∧ elapsed (camAgo 99 0).now (5000000 - 99) < 100 ∧ 100 ≤ elapsed (camAgo 100 15).now (5000000 - 100)
    ∧ (camAgo 100 15).cap.overflowPending = false ∧ (camAgo 100 15).cap.fifo.length < 16 ∧ (camAgo 100 16).cap.fifo.length = 16
    ∧ (camAgo 100 16).cap.fifo.getLast? = some ⟨.crank, 4990000⟩
    ∧ (∀ n ∈ [14, 15], (camBehind n).cap.overflowPending = false
      ∧ (camBehind n).cap.fifo = List.replicate n ⟨.crank, 4990000⟩ ++ [⟨.cam .e, (camBehind n).now⟩]
      ∧ (List.replicate n (⟨.crank, 4990000⟩ : Entry)).getLast? = some ⟨.crank, 4990000⟩)
    ∧ (camBehind 14).cap.fifo.length = 15 ∧ (camBehind 15).cap.fifo.length = 16 := by
  decide +kernel

theorem test_cam_edge_on_a_full_fifo_is_dropped :
    gives (.camEdge .i) (camAgo 100 16) (fun t => t.cap.fifo.length = 16 ∧ t.cap.overflows = 1 ∧ t.cap.overflowPending = true) = true := by
  decide +kernel

theorem test_cam_i_goes_ahead_of_cam_e :
    gives (.camEdge .i) (camBehind 14) (fun t => t.cap.fifo.drop 14 = [⟨.cam .i, 5000000⟩, ⟨.cam .e, 5000000⟩]) = true
    ∧ gives (.camEdge .i) (camBehind 15) (fun t => t.cap.fifo.drop 15 = [⟨.cam .i, 5000000⟩] ∧ t.cap.overflows = 1) = true := by
  decide +kernel

theorem witness_CamEdgesAreQueuedAndFiltersForget_expiries :
    (crankAgo 400000).cap.crankLast = some (5000000 - 400000) ∧ 400000 ≤ elapsed (crankAgo 400000).now (5000000 - 400000)
    ∧ (camAgo 400000 0).cap.camLast.get .i = some (5000000 - 400000) ∧ 400000 ≤ elapsed (camAgo 400000 0).now (5000000 - 400000) := by
  decide +kernel

theorem test_filters_forget :
    gives .crankFilterForget (crankAgo 400000) (fun t => t.cap.crankLast = none ∧ t.cap.pLast = none) = true
    ∧ gives (.camFilterForget .i) (camAgo 399999 0) (fun t => t.cap.camLast.i ≠ none) = true := by decide +kernel

/-- The tracker searching: interval `prev`, and the last crank time `d` ticks before the entry in the FIFO. -/
def seeking (prev d : Nat) : State :=
  { queued [⟨.crank, 5000000⟩] with trk :=
      { state := .seek, lastCrank := some (5000000 - BitVec.ofNat 24 d), tPrev := some prev, stallRef := some 4990000 } }

theorem witness_CrankEntryIsHandledByState :
    ((queued [⟨.crank, 5000000⟩]).operating = true ∧ (queued [⟨.crank, 5000000⟩]).cap.overflowPending = false
      ∧ (queued [⟨.crank, 5000000⟩]).trk.state = .stopped ∧ (queued [⟨.crank, 5000000⟩]).trk.lastCrank = none)
    ∧ ((seeking 500 1000).trk.state = .seek ∧ (seeking 500 1000).cap.fifo = ⟨.crank, 5000000⟩ :: []
      ∧ elapsed 5000000 (5000000 - 1000) < 400000 ∧ 2 * 500 ≤ elapsed 5000000 (5000000 - 1000))
    ∧ (let s := synced .crankSync none 9 .crank
      s.operating = true ∧ s.cap.overflowPending = false ∧ s.cap.fifo = ⟨.crank, 5000000⟩ :: [] ∧ s.trk.lastCrank = some 4999700
      ∧ elapsed 5000000 4999700 < 400000 ∧ s.trk.toothTime = some 4999700 ∧ s.trk.tooth < 21 ∧ s.trk.tooth ≠ 10
      ∧ s.trk.state = .crankSync ∧ s.trk.pitch ≤ 2 * elapsed 5000000 4999700 ∧ elapsed 5000000 4999700 < 2 * s.trk.pitch)
    ∧ (let s := { synced .crankSync none 20 .crank with trk := { tracking .crankSync none 20 with pitch := 150 } }
      s.trk.state = .crankSync ∧ s.trk.tooth < 21
      ∧ ¬(s.trk.pitch ≤ 2 * elapsed 5000000 4999700 ∧ elapsed 5000000 4999700 < 2 * s.trk.pitch)) := by decide +kernel

/-- SEEK with no last crank time, and with no previous interval. -/
def seekingFrom (last : Option Time) : State :=
  { queued [⟨.crank, 5000000⟩] with trk := { state := .seek, lastCrank := last, stallRef := some 4990000 } }

/-- Synchronised at this tooth with this pitch, the entry 300 ticks on; cam I parked in a requested run, cam E in FOLLOW. -/
def controlling (st : TrkState) (tooth pitch : Nat) (e : Source) : State :=
  { synced st (if st = .cycleSync then some .a else none) tooth e with
    trk := { tracking st (if st = .cycleSync then some .a else none) tooth with pitch := pitch }
    camc := { running.camc with cams := ⟨{ state := .parked, parkedAt := some 4000000, rested := true }, { state := .follow, ramp := 90 }⟩ }
    phm := ⟨{ status := .learning, statusBefore := some .notLearned, runOrigin := some .requested, collector := [3, 4] }, { tally := 2 }⟩
    loop := ⟨{}, { integral := 700 }⟩
    shr := { running.shr with demand := ⟨0, 40⟩ }
    line := { running.line with slots := ⟨true, false, false, false⟩ } }

/-- The same with its last crank entry `d` ticks ago. -/
def lateBy (d : Nat) (s : State) : State := { s with trk := { s.trk with lastCrank := some (5000000 - BitVec.ofNat 24 d) } }

theorem witness_CrankEntryIsHandledByState_seek :
    (let s := seekingFrom none;
      s.operating = true ∧ s.cap.overflowPending = false ∧ s.cap.fifo = ⟨.crank, 5000000⟩ :: [] ∧ s.trk.state = .seek
      ∧ s.trk.lastCrank = none)
    ∧ (let s := seekingFrom (some 4999000)
      s.operating = true ∧ s.cap.overflowPending = false ∧ s.cap.fifo = ⟨.crank, 5000000⟩ :: [] ∧ s.trk.state = .seek
      ∧ s.trk.lastCrank = some 4999000 ∧ s.trk.tPrev = none ∧ elapsed 5000000 4999000 < 400000) := by decide +kernel

theorem witness_CrankEntryIsHandledByState_below :
    (seeking 500 999).trk.state = .seek ∧ (seeking 500 999).trk.tPrev = some 500
    ∧ (seeking 500 999).trk.lastCrank = some (5000000 - 999) ∧ elapsed 5000000 (5000000 - 999) < 2 * 500 :=
  ⟨rfl, rfl, rfl, by decide⟩

theorem witness_CrankEntryIsHandledByState_checks :
    (∀ st ∈ [TrkState.crankSync, .cycleSync], ∀ x ∈ [(9, 500, true), (10, 500, true), (20, 600, true), (20, 601, false), (20, 150, false),
        (21, 150, true), (21, 151, false), (21, 61, true), (21, 60, false)],
      let s := controlling st x.1 x.2.1 .crank;
      s.operating = true ∧ s.cap.overflowPending = false ∧ s.cap.fifo = ⟨.crank, 5000000⟩ :: [] ∧ s.trk.lastCrank = some 4999700
      ∧ s.trk.toothTime = some 4999700 ∧ s.trk.state = st
      ∧ ((if s.trk.tooth < 21 then s.trk.pitch ≤ 2 * elapsed 5000000 4999700 ∧ elapsed 5000000 4999700 < 2 * s.trk.pitch
        else 2 * s.trk.pitch ≤ elapsed 5000000 4999700 ∧ elapsed 5000000 4999700 < 5 * s.trk.pitch) ↔ x.2.2 = true))
    ∧ ((controlling .cycleSync 10 500 .crank).trk.adopted = false ∧ (controlling .cycleSync 10 500 .crank).trk.revComplete = true
      ∧ (controlling .cycleSync 10 500 .crank).trk.rpm < 4000)
    ∧ (∀ st ∈ [TrkState.crankSync, .cycleSync], (lateBy 400000 (controlling st 3 500 .crank)).trk.lastCrank = some (5000000 - 400000)
      ∧ 400000 ≤ elapsed 5000000 (5000000 - 400000)) := by decide +kernel

/-- The premises of what the loss of CYCLE_SYNC does to a cam (SyncLeft), for a cam under control and learning, and one in FAULTED. -/
theorem witness_SyncLeft :
    (let s := controlling .cycleSync 21 151 .crank;
      (s.phmOf .i).status = .learning ∧ (s.phmOf .i).statusBefore = some .notLearned ∧ (s.phmOf .i).runOrigin = some .requested
      ∧ (s.phmOf .e).status ≠ .learning ∧ (∀ c ∈ [Cam.i, .e], s.machineRuns c = true ∧ (s.camOf c).state ≠ .off
        ∧ (s.camOf c).state ≠ .faulted))
    ∧ (faultedState.camOf .i).state = .faulted ∧ (faultedState.camOf .e).state = .off := by decide +kernel

/-- R25, R35, R64, R88: a failed gap in CYCLE_SYNC; R21: a late entry; R38: rpm 4,000 and more reports nothing. -/
theorem test_synchronisation_lost_with_the_cams :
    gives .takeCrankEntry (controlling .cycleSync 21 151 .crank) (fun t => t.trk.state = .seek ∧ t.trk.tPrev = some 300
      ∧ t.trk.toothErrors = 1 ∧ t.active .syncLoss ∧ !t.line.slots.sync ∧ t.camc.cams.i.state = .off ∧ t.camc.cams.e.state = .off
      ∧ t.loop.e.integral = 0 ∧ t.shr.demand.e = 0 ∧ t.phm.e.tally = 0 ∧ t.phm.i.status = .notLearned
      ∧ t.phm.i.lastResult = some ⟨.aborted, 2, none, none, .requested⟩) = true
    ∧ gives .takeCrankEntry (lateBy 400000 (controlling .cycleSync 3 500 .crank)) (fun t => t.trk.state = .seek
      ∧ t.trk.lastCrank = some 5000000 ∧ t.trk.tPrev = none ∧ t.trk.toothErrors = 0 ∧ !t.active .syncLoss
      ∧ t.camc.cams.e.state = .off) = true := by decide +kernel

theorem test_search_goes_on :
    gives .takeCrankEntry (seekingFrom none) (fun t => t.trk.state = .seek ∧ t.trk.lastCrank = some 5000000 ∧ t.trk.tPrev = none) = true
    ∧ gives .takeCrankEntry (seekingFrom (some 4999000)) (fun t => t.trk.state = .seek ∧ t.trk.tPrev = some 1000) = true := by
  decide +kernel

theorem test_gap_found_in_seek :
    gives .takeCrankEntry (seeking 500 1500) (fun t => t.trk.state = .crankSync ∧ t.trk.pitch = 500 ∧ t.trk.rpm = 10000) = true
    ∧ gives .takeCrankEntry (seeking 500 999) (fun t => t.trk.state = .seek ∧ t.trk.tPrev = some 999) = true := by decide +kernel

theorem test_tooth_11_queues_sync :
    gives .takeCrankEntry (synced .cycleSync (some .a) 10 .crank) (fun t => t.line.slots.sync = true ∧ t.trk.tooth = 11) = true
    ∧ gives .takeCrankEntry (synced .crankSync none 10 .crank) (fun t => t.line.slots.sync = false ∧ t.trk.tooth = 11) = true := by
  decide +kernel

/-- A measured edge of a faulted cam: cam I's mark 3, 300 ticks after tooth 15 of half B. -/
def faultedEdge : State := withCam (synced .cycleSync (some .b) 15 (.cam .i)) .i { state := .faulted }

/-- A full FIFO with cam I's edge at its head and an overflow pending. -/
def overflowing : State :=
  { queued (⟨.cam .i, 4999000⟩ :: List.replicate 15 ⟨.crank, 4999500⟩) with
    cap := { running.cap with fifo := ⟨.cam .i, 4999000⟩ :: List.replicate 15 ⟨.crank, 4999500⟩, overflowPending := true } }

theorem witness_CamEntryIsHandledByState :
    (overflowing.operating = true ∧ overflowing.cap.overflowPending = true
      ∧ overflowing.cap.fifo = ⟨.cam .i, 4999000⟩ :: List.replicate 15 ⟨.crank, 4999500⟩
      ∧ (List.replicate 15 (⟨.crank, 4999500⟩ : Entry)).length = 15 ∧ overflowing.trk.state = .stopped)
    ∧ ((queued [⟨.cam .e, 5000000⟩]).operating = true ∧ (queued [⟨.cam .e, 5000000⟩]).cap.overflowPending = false
      ∧ (queued [⟨.cam .e, 5000000⟩]).cap.fifo = [⟨.cam .e, 5000000⟩] ∧ (queued [⟨.cam .e, 5000000⟩]).trk.state = .stopped)
    ∧ ((synced .crankSync none 15 (.cam .e)).cap.fifo = [⟨.cam .e, 5000000⟩]
      ∧ (synced .crankSync none 15 (.cam .e)).trk.state = .crankSync)
    ∧ faultedEdge.cap.fifo = [⟨.cam .i, 5000000⟩] ∧ faultedEdge.trk.half = some .b ∧ faultedEdge.trk.toothTime = some 4999700
    ∧ faultedEdge.trk.state = .cycleSync
    ∧ (faultedEdge.camOf .i).state = .faulted ∧ (faultedEdge.phmOf .i).status ≠ .learning
    ∧ identify .i (faultedEdge.camSettings .i) (cycleAngle .b 15 (elapsed 5000000 4999700) 500) = some (3, 9920)
    ∧ -128 ≤ rawDeviation .i 9920 (cycleAngle .b 15 (elapsed 5000000 4999700) 500) - (faultedEdge.phmOf .i).offset
    ∧ rawDeviation .i 9920 (cycleAngle .b 15 (elapsed 5000000 4999700) 500) - (faultedEdge.phmOf .i).offset ≤ 928 := by
  decide +kernel

/-- Cam I parked and rested, its target at park, CYCLE_SYNC with its own half B at tooth `tooth`, the edge 300 ticks on; the run before it
done or not, its status and the values collected so far. -/
def parkedEdge (tooth : Nat) (done : Bool) (st : LearnStatus) (offset : Int) (n : Nat) : State :=
  { withCam (synced .cycleSync (some .b) tooth (.cam .i)) .i { state := .parked, parkedAt := some 3000000, rested := true } with
    phm := ⟨{ status := st, learnDone := done, offset := offset, collector := List.replicate n 416
              statusBefore := if st = .learning then some .notLearned else none
              runOrigin := if st = .learning then some .automatic else none }, {}⟩ }

theorem witness_CamEntryIsHandledByState_park :
    (∀ s ∈ [parkedEdge 15 false .notLearned 0 0, parkedEdge 12 false .notLearned 0 0, parkedEdge 15 true .learned 96 0,
        parkedEdge 15 true .learned (-600) 0, parkedEdge 15 false .learning 0 30, parkedEdge 15 false .learning 0 31,
        parkedEdge 15 false .learning (-600) 30],
      s.operating = true ∧ s.cap.overflowPending = false ∧ s.cap.fifo = ⟨.cam .i, 5000000⟩ :: [] ∧ s.trk.half = some .b
      ∧ s.trk.toothTime = some 4999700 ∧ s.trk.state = .cycleSync ∧ (s.camOf .i).state = .parked
      ∧ (s.camOf .i).commanded ≤ s.settings.parkBand ∧ (s.camOf .i).rested = true ∧ s.trk.adopted = false
      ∧ 700 ≤ s.trk.rpm ∧ s.trk.rpm ≤ s.settings.rpmMaxLearn ∧ (s.phmOf .i).collector.length < 32)
    ∧ identify .i (parkedEdge 12 false .notLearned 0 0).settings.cams.i (cycleAngle .b 12 (elapsed 5000000 4999700) 500) = none
    ∧ identify .i (parkedEdge 15 false .notLearned 0 0).settings.cams.i (cycleAngle .b 15 (elapsed 5000000 4999700) 500) = some (3, 9920)
    ∧ rawDeviation .i 9920 (cycleAngle .b 15 (elapsed 5000000 4999700) 500) - 96 = 320
    ∧ 928 < rawDeviation .i 9920 (cycleAngle .b 15 (elapsed 5000000 4999700) 500) - (-600) := by decide +kernel

/-- R59, R61: the first edge starts and feeds a run; R52: a stray edge starts it too and only counts; R54: an implausible one counts and is
collected, and the 32nd value is evaluated. -/
theorem test_parked_edges :
    gives .takeCamEntry (parkedEdge 15 false .notLearned 0 0) (fun t => t.phm.i.status = .learning ∧ t.phm.i.runOrigin = some .automatic
      ∧ t.phm.i.statusBefore = some .notLearned ∧ t.phm.i.collector = [416] ∧ t.phm.i.tally = 1) = true
    ∧ gives .takeCamEntry (parkedEdge 12 false .notLearned 0 0) (fun t => t.phm.i.status = .learning ∧ t.phm.i.stray = 1
      ∧ t.phm.i.collector = [] ∧ t.phm.i.tally = 0 ∧ t.phm.i.measurement = none ∧ t.trk.camCounts.i = 1) = true
    ∧ gives .takeCamEntry (parkedEdge 15 false .learning (-600) 30) (fun t => t.phm.i.implausible = 1 ∧ t.phm.i.collector.length = 31
      ∧ t.phm.i.measurement = none ∧ t.phm.i.tally = 1) = true
    ∧ gives .takeCamEntry (parkedEdge 15 false .learning 0 31) (fun t => t.phm.i.learnDone ∧ t.phm.i.status = .notLearned
      ∧ t.phm.i.lastResult = some ⟨.range, 32, some 0, some 416, .automatic⟩) = true := by decide +kernel

theorem test_take_frees_a_slot_for_the_marker :
    gives .takeCamEntry overflowing (fun t => t.cap.fifo.length = 16 ∧ t.cap.fifo.getLast? = some ⟨.overflow, 5000000⟩) = true := by
  decide +kernel

theorem test_faulted_cam_is_measured :
    gives .takeCamEntry faultedEdge (fun t => t.phm.i.measurement = some ⟨416, 3, 9504, 416, 5000000⟩ ∧ t.phm.i.tally = 1) = true := by
  decide +kernel

theorem test_first_measurement_starts_parking :
    gives .takeCamEntry (synced .cycleSync (some .b) 15 (.cam .i))
      (fun t => t.camc.cams.i.state = .parking ∧ t.loop.i.lastError = -416) = true := by decide +kernel

theorem witness_OverflowAndStallAbandonSync_marker :
    ((queued [⟨.overflow, 5000000⟩]).operating = true ∧ (queued [⟨.overflow, 5000000⟩]).cap.overflowPending = false
      ∧ (queued [⟨.overflow, 5000000⟩]).cap.fifo = [⟨.overflow, 5000000⟩] ∧ (queued [⟨.overflow, 5000000⟩]).trk.state = .stopped)
    ∧ (synced .crankSync none 4 .overflow).operating = true ∧ (synced .crankSync none 4 .overflow).cap.overflowPending = false
    ∧ (synced .crankSync none 4 .overflow).cap.fifo = [⟨.overflow, 5000000⟩]
    ∧ (synced .crankSync none 4 .overflow).trk.state = .crankSync
    ∧ (controlling .cycleSync 4 500 .overflow).operating = true ∧ (controlling .cycleSync 4 500 .overflow).cap.overflowPending = false
    ∧ (controlling .cycleSync 4 500 .overflow).cap.fifo = [⟨.overflow, 5000000⟩]
    ∧ (controlling .cycleSync 4 500 .overflow).trk.state = .cycleSync := by decide +kernel

theorem test_marker_in_cycle_sync :
    gives .takeOverflowMarker (controlling .cycleSync 4 500 .overflow) (fun t => t.trk.state = .seek ∧ t.trk.lastCrank = some 4999700
      ∧ t.trk.tPrev = none ∧ t.active .syncLoss ∧ t.camc.cams.e.state = .off ∧ t.phm.i.status = .notLearned ∧ !t.line.slots.sync) = true := by
  decide +kernel

theorem test_overflow_marker_keeps_the_crank_time :
    gives .takeOverflowMarker (synced .crankSync none 4 .overflow)
      (fun t => t.trk.state = .seek ∧ t.trk.lastCrank = some 4999700 ∧ t.trk.tPrev = none ∧ t.active .syncLoss = true) = true := by
  decide +kernel

/-- The tracker in CYCLE_SYNC with its stall reference 400,000 ticks old, cam I parked in a requested learn run. -/
def stalling : State :=
  { withCam (synced .cycleSync (some .a) 3 .crank) .i { state := .parked, parkedAt := some 4000000 } with
    trk := { tracking .cycleSync (some .a) 3 with stallRef := some 4600000 }
    phm := ⟨{ status := .learning, statusBefore := some .learned, runOrigin := some .requested, collector := [3] }, {}⟩ }

theorem witness_OverflowAndStallAbandonSync_stall :
    stalling.operating = true ∧ stalling.trk.stallRef = some 4600000 ∧ 400000 ≤ elapsed stalling.now 4600000
    ∧ stalling.trk.state = .cycleSync ∧ stalling.machineRuns .i = true ∧ (stalling.phmOf .i).status = .learning
    ∧ (stalling.phmOf .i).statusBefore = some .learned
    ∧ (let s := { stalling with trk := { tracking .crankSync none 3 with stallRef := some 4600000 } }
      s.operating = true ∧ s.trk.stallRef = some 4600000 ∧ s.trk.state ≠ .stopped ∧ s.trk.state ≠ .cycleSync) := by decide +kernel

theorem test_stall_aborts_the_learn_run :
    gives .stallTimeout stalling (fun t => t.trk.state = .stopped ∧ t.camc.cams.i.state = .off ∧ t.phm.i.status = .learned
      ∧ t.phm.i.lastResult = some ⟨.aborted, 1, none, none, .requested⟩) = true := by decide +kernel

/-- CRANK_SYNC at tooth `tooth` with a SYNC frame of station 2 waiting. -/
def reported (tooth : Nat) (payload : List Byte) : State :=
  holding { running with
    trk := tracking .crankSync none tooth
    shr := { running.shr with peers := [.created ⟨.sync, 2, 0, []⟩ 4999000] } } (frame .sync 2 payload)

/-- CYCLE_SYNC of half A at tooth `tooth`, its half decided by the part's own cams, with the same frame waiting. -/
def disputed (tooth : Nat) (payload : List Byte) : State :=
  { reported tooth payload with trk := tracking .cycleSync (some .a) tooth }

theorem witness_CycleReportIsAdopted :
    (reported 12 [2, 0, 3, 232]).waiting .sync = some (frame .sync 2 [2, 0, 3, 232]) ∧ cycleReport [2, 0, 3, 232] = none
    ∧ (∀ tooth ∈ [12, 21], (reported tooth [1, 3, 3, 232]).waiting .sync = some (frame .sync 2 [1, 3, 3, 232])
      ∧ cycleReport [1, 3, 3, 232] = some (.b, .controller) ∧ ReportSource.controller ≠ .adopted
      ∧ (reported tooth [1, 3, 3, 232]).trk.state = .crankSync ∧ (reported tooth [1, 3, 3, 232]).trk.rpm < 4000
      ∧ 12 ≤ (reported tooth [1, 3, 3, 232]).trk.tooth ∧ (reported tooth [1, 3, 3, 232]).trk.tooth ≤ 21
      ∧ (reported tooth [1, 3, 3, 232]).shr.peer 2 ≠ none)
    ∧ (∀ tooth ∈ [12, 21], (disputed tooth [1, 1, 3, 232]).waiting .sync = some (frame .sync 2 [1, 1, 3, 232])
      ∧ cycleReport [1, 1, 3, 232] = some (.b, .camE) ∧ (disputed tooth [1, 1, 3, 232]).trk.state = .cycleSync
      ∧ (disputed tooth [1, 1, 3, 232]).trk.adopted = false ∧ (disputed tooth [1, 1, 3, 232]).trk.half = some .a
      ∧ (disputed tooth [1, 1, 3, 232]).trk.rpm < 4000 ∧ (disputed tooth [1, 1, 3, 232]).shr.peer 2 ≠ none)
    ∧ cycleReport [0, 0, 3, 232] = some (.a, .camI) ∧ cycleReport [1, 2, 3, 232] = some (.b, .adopted)
    ∧ ¬(12 ≤ (disputed 11 [1, 1, 3, 232]).trk.tooth) := by decide +kernel

theorem test_report_outside_the_window_is_filed_only :
    gives .cycleReport (reported 11 [1, 0, 3, 232])
      (fun t => t.trk.state = .crankSync ∧ (t.shr.peer 2).bind Peer.report = some (.b, .camI) ∧ t.line.bufferX = none) = true := by
  decide +kernel

theorem test_opposite_report_raises_cycle_disagree :
    gives .cycleReport (disputed 12 [1, 1, 3, 232])
      (fun t => t.mon.get .cycleDisagree = ⟨false, true, 1⟩ ∧ (t.shr.peer 2).bind Peer.report = some (.b, .camE)) = true
    ∧ gives .cycleReport (disputed 12 [0, 1, 3, 232]) (fun t => t.mon.get .cycleDisagree = ⟨false, false, 0⟩) = true := by
  decide +kernel

/-- The entry of tooth 22's place, three pitches after tooth 21, with the counts and undecided run given. -/
def atGap (st : TrkState) (h : Option Half) (i e undecided errRun : Nat) : State :=
  { queued [⟨.crank, 5000000⟩] with trk :=
      { tracking st h 21 with
        pitch := 100, camCounts := ⟨i, e⟩, undecided := undecided, cycleErrRun := errRun, revStart := 4998000 } }

theorem witness_GapCompletesTheRevolution :
    (∀ s ∈ [atGap .crankSync none 3 3 0 0, atGap .crankSync none 2 2 3 0, atGap .crankSync none 2 2 2 0,
        atGap .cycleSync (some .a) 3 3 0 0, atGap .cycleSync (some .a) 1 3 0 0, atGap .cycleSync (some .a) 1 3 0 1],
      s.operating = true ∧ s.cap.overflowPending = false ∧ s.cap.fifo = ⟨.crank, 5000000⟩ :: [] ∧ s.trk.lastCrank = some 4999700
      ∧ elapsed 5000000 4999700 < 400000 ∧ s.trk.toothTime = some 4999700 ∧ s.trk.tooth = 21
      ∧ 2 * s.trk.pitch ≤ elapsed 5000000 4999700 ∧ elapsed 5000000 4999700 < 5 * s.trk.pitch
      ∧ (s.trk.state = .crankSync ∨ s.trk.state = .cycleSync))
    ∧ (atGap .crankSync none 3 3 0 0).decidedHalf = some .b ∧ (atGap .crankSync none 2 2 3 0).decidedHalf = none
    ∧ (atGap .cycleSync (some .a) 3 3 0 0).trk.camCounts.i = ((atGap .cycleSync (some .a) 3 3 0 0).camSettings .i).nA
    ∧ (atGap .cycleSync (some .a) 1 3 0 0).trk.camCounts.i ≠ ((atGap .cycleSync (some .a) 1 3 0 0).camSettings .i).nA := by
  decide +kernel

/-- The end of half B: both cams seen for a whole cycle, cam I with this tally, the run before it, and cam E's 8 edges of a good one. -/
def cycleEnd (tally badRun goodRun e errRun : Nat) : State :=
  { atGap .cycleSync (some .b) 1 e 0 errRun with
    phm := ⟨{ tally := tally, wholeCycle := true, badRun := badRun, goodRun := goodRun }, { tally := 8, wholeCycle := true }⟩
    camc := { running.camc with cams := ⟨{ state := .follow, commanded := 400, ramp := 390 }, {}⟩ } }

theorem witness_GapCompletesTheRevolution_halfB :
    (∀ s ∈ [cycleEnd 3 1 1 1 0, cycleEnd 2 1 0 1 1, cycleEnd 2 1 0 9 0, cycleEnd 2 1 0 9 1],
      s.operating = true ∧ s.cap.overflowPending = false ∧ s.cap.fifo = ⟨.crank, 5000000⟩ :: [] ∧ s.trk.tooth = 21
      ∧ s.trk.state = .cycleSync ∧ s.trk.half = some .b ∧ (s.phmOf .i).wholeCycle = true)
    ∧ (cycleEnd 3 1 1 1 0).trk.camCounts.i = ((cycleEnd 3 1 1 1 0).camSettings .i).nB
    ∧ (cycleEnd 2 1 0 1 1).trk.camCounts.e = ((cycleEnd 2 1 0 1 1).camSettings .e).nB
    ∧ (cycleEnd 2 1 0 9 0).trk.camCounts.e ≠ ((cycleEnd 2 1 0 9 0).camSettings .e).nB
    ∧ (cycleEnd 2 1 0 1 0).active (.camSignal .i) = false ∧ (cycleEnd 2 1 0 1 0).machineRuns .i = true
    ∧ ((cycleEnd 2 1 0 1 0).camOf .i).state.controlled = true := by decide +kernel

theorem test_cycle_end :
    gives .takeCrankEntry (cycleEnd 2 1 0 1 1) (fun t => t.active (.camSignal .i) ∧ t.camc.cams.i.state = .off
      ∧ t.trk.half = some .a ∧ t.trk.cycleErrRun = 0 ∧ t.phm.i.badRun = 2) = true
    ∧ gives .takeCrankEntry (raised (cycleEnd 3 2 1 1 0) (.camSignal .i)) (fun t => !t.active (.camSignal .i) ∧ t.phm.i.goodRun = 2
      ∧ t.phm.i.badRun = 0) = true := by decide +kernel

theorem test_revolution_ends :
    gives .takeCrankEntry (atGap .crankSync none 3 0 0 0)
      (fun t => t.trk.state = .cycleSync ∧ t.trk.half = some .b ∧ t.trk.rpm = 20000 ∧ t.trk.pitch = 100) = true
    ∧ gives .takeCrankEntry (atGap .cycleSync (some .a) 1 3 0 1)
      (fun t => t.trk.state = .crankSync ∧ t.active .camPattern = true ∧ t.trk.mismatches = 1) = true := by decide +kernel

/-! ## Witnesses and small steps: scan, demand, cams, flow share -/

/-- A conversion begun 16 ticks ago. -/
def converting (s : State) (ch : Channel) : State := { s with scan := { s.scan with conversion := some ⟨ch, 4999984⟩ } }

/-- The supply window holding `n` counts. -/
def supplied (n : Nat) : State := { running with scan := { running.scan with supply := List.replicate n 2867 } }

/-- The part with no pressure sensor. -/
def sensorless : State := { running with straps := ⟨1, 1, false, true⟩ }

/-- The scan waiting in STANDBY, its last pass begun 200,000 ticks ago. -/
def scanWaiting : State := { inPower .standby with scan := { running.scan with passStart := some 4800000 } }

/-- The supply window holding `n` counts, judged already, with the expiries as given and SUPPLY_LOW active or not. -/
def judged (low : Bool) (lowEnd recovery : Option Timer) (count : Nat) : State :=
  let s : State := { running with
    scan := { running.scan with supply := List.replicate 8 count }
    supply := { judging := true, lowExpiry := lowEnd, recoveryExpiry := recovery } }
  converting (if low then raised s .supplyLow else s) .supply

/-- The pressure window, and the temperature window, holding `n` counts. -/
def pressured (n : Nat) : State := converting { running with scan := { running.scan with pressure := List.replicate n 889 } } .pressure

def warmed (n : Nat) : State := converting { running with scan := { running.scan with temperature := List.replicate n 2500 } } .temperature

theorem witness_ConversionsReachTheirWindows :
    (let s := converting (withDrv running .i { periodStart := some 4998000 }) (.coil .i);
      s.scan.conversion = some ⟨.coil .i, 4999984⟩ ∧ 16 ≤ elapsed s.now 4999984 ∧ (s.drvOf .i).periodStart.isSome = true)
    ∧ ((converting (supplied 6) .supply).scan.conversion = some ⟨.supply, 4999984⟩
      ∧ (converting (supplied 6) .supply).supply.judging = false ∧ (converting (supplied 6) .supply).scan.supply.length < 7
      ∧ ((converting (supplied 7) .supply).scan.supply ++ [0]).length = 8
      ∧ (converting (supplied 8) .supply).scan.supply.length = 8 ∧ ((converting (supplied 8) .supply).scan.supply.tail ++ [0]).length = 8)
    ∧ ((converting sensorless .pressure).scan.conversion = some ⟨.pressure, 4999984⟩
      ∧ (converting sensorless .pressure).straps.psf = false ∧ (converting running .pressure).straps.psf = true
      ∧ (204 : BitVec 12).toNat < 205 ∧ 3890 < (3891 : BitVec 12).toNat ∧ 205 ≤ (205 : BitVec 12).toNat ∧ (3890 : BitVec 12).toNat ≤ 3890)
    ∧ ((pressured 14).scan.pressure.length < 15 ∧ ((pressured 15).scan.pressure ++ [205]).length = 16
      ∧ (pressured 16).scan.pressure.length = 16 ∧ ((pressured 16).scan.pressure.tail ++ [3890]).length = 16
      ∧ (pressured 16).operating = true ∧ ({ pressured 16 with pwr := (inPower .loading).pwr } : State).operating = false)
    ∧ ((warmed 6).scan.conversion = some ⟨.temperature, 4999984⟩
      ∧ 100 ≤ (100 : BitVec 12).toNat ∧ (4000 : BitVec 12).toNat ≤ 4000 ∧ (warmed 6).scan.temperature.length < 7
      ∧ ((warmed 7).scan.temperature ++ [100]).length = 8 ∧ ((warmed 8).scan.temperature.tail ++ [4000]).length = 8
      ∧ (99 : BitVec 12).toNat < 100 ∧ 4000 < (4001 : BitVec 12).toNat)
    ∧ (scanWaiting.pwr.power = .standby ∧ scanWaiting.scan.conversion = none ∧ scanWaiting.scan.passStart = some 4800000
      ∧ 200000 ≤ elapsed scanWaiting.now 4800000) := by decide +kernel

theorem test_conversions :
    gives (.coilCurrentConversion .i 70) (converting (withDrv running .i { periodStart := some 4998000 }) (.coil .i))
      (fun t => t.scan.coil.i = ⟨70, 1⟩ ∧ t.scan.conversion = some ⟨.coil .e, 5000000⟩) = true
    ∧ gives (.supplyConversion 1433) (converting (supplied 7) .supply) (fun t => t.supply.judging ∧ t.supply.lowExpiry = none) = true
    ∧ gives (.pressureConversion 205) (converting running .pressure) (fun t => t.scan.pressure = [205]) = true
    ∧ gives (.temperatureConversion 4001) (converting running .temperature) (fun t => t.active .tempSensor) = true := by
  decide +kernel

/-- R153 by its table: 6,998 mV sets the low expiry and cancels recovery, 7,003 mV cancels it; 7,999 mV is no recovery, 8,004 mV is. -/
theorem test_supply_is_judged :
    gives (.supplyConversion 1433) (judged false none none 1433) (fun t => t.supply.lowExpiry = some ⟨5000000, 20000⟩) = true
    ∧ gives (.supplyConversion 1434) (judged false (some ⟨4990000, 20000⟩) none 1434) (fun t => t.supply.lowExpiry = none) = true
    ∧ gives (.supplyConversion 1638) (judged true none none 1638) (fun t => t.supply.recoveryExpiry = some ⟨5000000, 200000⟩) = true
    ∧ gives (.supplyConversion 1637) (judged true none (some ⟨4900000, 200000⟩) 1637) (fun t => t.supply.recoveryExpiry = none) = true := by
  decide +kernel

/-- A peer record of station 2, refreshed `d` ticks ago, with a SHARE filed. -/
def peered (d : Nat) (s : State) : State :=
  { s with shr := { s.shr with peers :=
      [{ station := 2, role := .phase, lastSeq := 4, missed := 1, lastRefresh := 5000000 - BitVec.ofNat 24 d, fresh := true,
         share := some ⟨350, 140, 300, ⟨true, false⟩, 4990000, 0⟩, pressure := some 146, report := some (.a, .camI) }] } }

/-- R13, R119: the sixteenth count makes the window full, and its mean of 889 is 146 kPa. -/
theorem test_pressure_window_fills :
    gives (.pressureConversion 889) (raised (pressured 15) .pressureSensor)
      (fun t => t.ownPressure = some 146 ∧ !t.active .pressureSensor ∧ t.shr.source = .own ∧ t.shr.pressure = some 146) = true
    ∧ gives (.pressureConversion 889) (pressured 14) (fun t => t.ownPressure = none) = true := by decide +kernel

/-- R119, R121: own pressure turned invalid, the source falls to the FRESH peer's pressure, and with none to F_FALLBACK. -/
theorem test_invalid_pressure_count :
    gives (.pressureConversion 204) (peered 5 (pressured 16)) (fun t => t.shr.source = .peer 2 ∧ t.shr.pressure = some 146
      ∧ t.shr.fAvail = 300 ∧ t.active .pressureSensor) = true
    ∧ gives (.pressureConversion 3891) (pressured 16) (fun t => t.shr.source = .none ∧ t.shr.pressure = none ∧ t.shr.fAvail = 250) = true := by
  decide +kernel

/-- R15, R16, R78: eight counts of 2500 are 30 °C; before them the part is cold at -10 °C. -/
theorem test_temperature_window_fills :
    gives (.temperatureConversion 2500) (raised (warmed 7) .tempSensor)
      (fun t => t.temperature = 30 ∧ !t.active .tempSensor ∧ !t.camc.cold) = true
    ∧ gives (.temperatureConversion 2500) (warmed 6) (fun t => t.temperature = -10) = true := by decide +kernel

theorem test_scan_pass_starts : gives .scanPassStart scanWaiting (fun t => t.scan.conversion = some ⟨.coil .i, 5000000⟩) = true := by
  decide +kernel

/-- Entries of a DEMAND frame as `DemandFrameIsAccepted` takes them apart. -/
def entriesOf (l : List (Byte × Byte × Byte)) : List Byte := l.flatMap (fun x => [x.1, x.2.1, x.2.2])

theorem witness_DemandFrameIsAccepted :
    ((holding running (frame .demand 3 [1])).waiting .demand = some (frame .demand 3 [1])
      ∧ (holding running (frame .demand 3 [1])).operating = true ∧ (frame .demand 3 [1]).frame.station ≠ 0)
    ∧ (∀ l ∈ [[], [(0x11, 3, 232)], [(0x10, 2, 88), (0x11, 3, 232), (0x20, 0, 9), (0x10, 0, 40)]], ∀ mode ∈ [(1 : Byte), 2, 3],
      let w := frame .demand 0 (mode :: entriesOf l);
      (holding running w).waiting .demand = some w ∧ w.frame.station = 0 ∧ w.frame.payload = mode :: entriesOf l ∧ w.early = false
      ∧ ((holding running w).camOf .i).state = .off ∧ ((holding running w).camOf .e).state = .off)
    ∧ (let w : Received := { frame .demand 0 [1] with early := true };
      (holding running w).waiting .demand = some w ∧ (holding running w).operating = true ∧ w.early = true)
    ∧ (busy.camOf .i).state ≠ .off := by decide +kernel

theorem test_demand_is_limited :
    gives .demandFrame (holding running (frame .demand 0 [1, 0x11, 3, 232, 0x10, 2, 88, 0x20, 0, 9]))
      (fun t => t.camc.mode = .run ∧ t.camc.cams.i.commanded = 600 ∧ t.camc.cams.e.commanded = 800) = true
    ∧ gives .demandFrame (holding running (frame .demand 3 [1])) (fun t => t.camc.foreign = 1 ∧ t.camc.mode = .park) = true := by
  decide +kernel

theorem test_early_demand_is_dropped :
    gives .demandFrame (holding running { frame .demand 3 [1] with early := true })
      (fun t => t.camc.foreign = 0 ∧ t.line.bufferX = none) = true
    ∧ gives .demandFrame (holding running { frame .demand 0 [1] with early := true }) (fun t => t.camc.mode = .park) = true := by
  decide +kernel

/-- R72: on entry to HOLD each commanded target is its ramp's value. -/
theorem test_hold_freezes_the_targets :
    gives .demandFrame (holding busy (frame .demand 0 [3]))
      (fun t => t.camc.mode = .hold ∧ t.camc.cams.i.commanded = 390 ∧ t.line.bufferX = none) = true := by decide +kernel

/-- The demand age just past DEMAND_TIMEOUT, cam I in FOLLOW and cam E in RELEASE, with this reaction set. -/
def unheard (reaction : Nat) : State :=
  { running with
    settings := { Settings.default with lossReaction := reaction }
    trk := tracking .cycleSync (some .a) 3
    camc := { running.camc with
      mode := .run, ageStart := some 4799999
      cams := ⟨{ state := .follow, commanded := 400, ramp := 390 }, { state := .release, releaseExpiry := some ⟨4990000, 100000⟩ }⟩ } }

/-- LOSS_HOLD at its expiry, 2,000,000 ticks after it began. -/
def heldLong : State :=
  { unheard 1 with camc := { (unheard 1).camc with loss := .lossHold, holdExpiry := some ⟨3000000, 2000000⟩ } }

theorem witness_DemandLossParksTheCams :
    (∀ r ∈ [0, 1], (unheard r).operating = true ∧ (unheard r).camc.ageStart = some 4799999
      ∧ (unheard r).settings.demandTimeout * 2000 < elapsed (unheard r).now 4799999 ∧ (unheard r).camc.loss = .none
      ∧ (unheard r).settings.lossReaction = r ∧ (unheard r).machineRuns .i = true ∧ (unheard r).machineRuns .e = true
      ∧ ((unheard r).camOf .i).state = .follow ∧ ((unheard r).camOf .e).state = .release)
    ∧ heldLong.camc.loss = .lossHold ∧ heldLong.camc.holdExpiry = some ⟨3000000, 2000000⟩
    ∧ 2000000 ≤ elapsed heldLong.now 3000000 ∧ (heldLong.camOf .i).state = .follow := by decide +kernel

theorem test_demand_loss :
    gives .demandTimeout (unheard 1) (fun t => t.camc.loss = .lossHold ∧ t.camc.cams.i.commanded = 390) = true
    ∧ gives .holdExpiry heldLong (fun t => t.camc.loss = .lossPark ∧ t.camc.cams.i.state = .parking ∧ t.camc.cams.e.state = .parked) = true := by
  decide +kernel

/-- Cam E in RELEASE at its expiry, measured at phase 810, above its limit of 800. -/
def released : State :=
  { withCam running .e { state := .release, releaseExpiry := some ⟨4900000, 100000⟩ } with
    phm := ⟨{}, { measurement := some ⟨810, 3, 9770, 810, 4990000⟩ }⟩ }

theorem witness_CamExpiriesAct :
    (released.machineRuns .e = true ∧ (released.camOf .e).state = .release
      ∧ (released.camOf .e).releaseExpiry = some ⟨4900000, 100000⟩ ∧ 100000 ≤ elapsed released.now 4900000
      ∧ (released.phmOf .e).measurement = some ⟨810, 3, 9770, 810, 4990000⟩)
    ∧ (let s := { released with phm := .both {} };
      (s.camOf .e).state = .release ∧ (s.phmOf .e).measurement = none ∧ s.machineRuns .e = true)
    ∧ (let s := withCam running .i { state := .parked, parkedAt := some 4000000 };
      (s.camOf .i).state = .parked ∧ (s.camOf .i).rested = false ∧ (s.camOf .i).parkedAt = some 4000000
      ∧ 1000000 ≤ elapsed s.now 4000000) := by decide +kernel

theorem test_cam_expiries :
    gives (.releaseExpiry .e) released (fun t => t.camc.cams.e.state = .follow ∧ t.camc.cams.e.ramp = 800) = true
    ∧ gives (.restedMark .i) (withCam running .i { state := .parked, parkedAt := some 4000001 }) (fun t => t.camc.cams.i.rested = false) = true := by
  decide +kernel

theorem witness_PeerRecordsAreFiledAndAge_share :
    (let s := holding (peered 5 running) (frame .share 2 [3, 233, 0, 140, 1, 44, 0x82, 3, 232]);
      s.waiting .share = some (frame .share 2 [3, 233, 0, 140, 1, 44, 0x82, 3, 232]) ∧ (s.shr.peer 2).isSome = true) := by
  decide +kernel

theorem test_share_is_filed :
    gives .shareFrame (holding (peered 5 running) (frame .share 2 [3, 233, 0, 140, 1, 44, 0x82, 3, 232]))
      (fun t => (t.shr.peer 2).bind Peer.pressure = some 1000 ∧ t.shr.source = .peer 2 ∧ t.shr.totalDemand = 1000) = true
    ∧ gives .shareFrame (holding (peered 5 running) (frame .share 2 [0, 1, 0, 1, 0, 1, 0x82, 3, 233]))
      (fun t => (t.shr.peer 2).bind Peer.pressure = none) = true := by decide +kernel

/-- Stations 2 and 3 FRESH with a pressure, station 3's SHARE the later one; station 4 without a pressure. -/
def threePeers (s : State) : State :=
  { s with shr := { s.shr with
      filings := 9
      peers := (peered 5 s).shr.peers.map (fun p => { p with lastRefresh := 3999999 })
        ++ [{ station := 3, role := .phase, lastSeq := 0, missed := 0, lastRefresh := 4939999, fresh := true
              share := some ⟨10, 0, 0, .both true, 0, 7⟩, pressure := some 200, report := none },
            { station := 4, role := .phase, lastSeq := 0, missed := 0, lastRefresh := 4999000, fresh := true
              share := some ⟨20, 0, 0, .both false, 0, 8⟩, pressure := none, report := none }] } }

theorem witness_PeerRecordsAreFiledAndAge_source :
    (∀ p ∈ [Power.run, .standby, .loading],
      let s := crankIn p (holding (threePeers running) (frame .share 2 [3, 233, 0, 140, 1, 44, 0x81, 0, 250]));
      s.waiting .share = some (frame .share 2 [3, 233, 0, 140, 1, 44, 0x81, 0, 250]) ∧ (s.shr.peer 2).isSome = true
      ∧ (s.operating = false ↔ p = .loading))
    ∧ (threePeers running).ownPressure = none ∧ (threePeers (pressured 16)).ownPressure = some 146
    ∧ (threePeers running).operating = true ∧ ((threePeers running).shr.peer 3).map Peer.fresh = some true
    ∧ 60000 < elapsed running.now 4939999 ∧ 1000000 < elapsed running.now 3999999
    ∧ (∀ q ∈ (threePeers running).shr.peers, ∀ d ∈ q.share, q.pressure.isSome = true → d.filing ≤ 7)
    ∧ (∀ q ∈ running.shr.peers, q.fresh = false) := by decide +kernel

/-- R119, R122, R130: a SHARE makes its sender the source; one without a pressure, a STALE record and a deleted one leave it to the latest
of the others; during the load nothing is chosen. -/
theorem test_pressure_source_follows_the_filings :
    gives .shareFrame (holding (threePeers running) (frame .share 2 [3, 233, 0, 140, 1, 44, 0x81, 0, 250])) (fun t =>
      t.shr.source = .peer 2 ∧ t.shr.pressure = some 250 ∧ t.shr.fAvail = 772 ∧ t.shr.filings = 10
      ∧ ((t.shr.peer 2).bind Peer.share).map ShareData.moving = some ⟨true, false⟩
      ∧ ((t.shr.peer 2).bind Peer.share).map ShareData.filing = some 9) = true
    ∧ gives .shareFrame (holding (threePeers running) (frame .share 3 [0, 9, 0, 9, 1, 44, 0x02])) (fun t =>
      t.shr.source = .peer 2 ∧ t.shr.pressure = some 146 ∧ t.shr.fAvail = 300) = true
    ∧ gives (.peerStale 3) (threePeers running) (fun t => t.shr.source = .peer 2 ∧ t.shr.fAvail = 300) = true
    ∧ gives (.peerDelete 2) (threePeers running) (fun t => t.shr.source = .peer 3 ∧ t.shr.pressure = some 200 ∧ t.shr.fAvail = 545) = true
    ∧ gives .shareFrame (crankIn .loading (holding (threePeers running) (frame .share 2 [3, 233, 0, 140, 1, 44, 0x81, 0, 250]))) (fun t =>
      t.shr.source = .none ∧ t.shr.fAvail = 0 ∧ t.shr.filings = 10) = true := by decide +kernel

theorem witness_PeerRecordsAreFiledAndAge_age :
    (peered 60001 running).operating = true ∧ ((peered 60001 running).shr.peer 2).isSome = true
    ∧ 60000 < elapsed (peered 60001 running).now (5000000 - 60001) ∧ 1000000 < elapsed (peered 1000001 running).now (5000000 - 1000001)
    ∧ ((peered 60001 running).shr.peer 2).map Peer.fresh = some true
    ∧ ((peered 1000001 running).shr.peer 2).map Peer.lastRefresh = some (5000000 - 1000001) := by decide +kernel

theorem test_peers_age :
    gives (.peerStale 2) (peered 60000 running) (fun t => (t.shr.peer 2).map Peer.fresh = some true) = true
    ∧ gives (.peerDelete 2) (peered 1000001 running) (fun t => t.shr.peers = [] ∧ t.mon.presented = 17 ∧ t.line.slots.status) = true := by
  decide +kernel

/-- The three periodic timers at their expiry. -/
def timed : State :=
  { running with
    shr := { running.shr with shareTimer := some ⟨4980000, 20000⟩ }
    mon := { running.mon with statusTimer := some ⟨4800000, 200000⟩ }
    pwr := { running.pwr with listenTimer := some ⟨4900000, 100000⟩ } }

theorem witness_PeriodicTimersQueueTheirFrames :
    timed.pwr.power = .run ∧ timed.shr.shareTimer = some ⟨4980000, 20000⟩ ∧ 20000 ≤ elapsed timed.now 4980000
    ∧ timed.mon.statusTimer = some ⟨4800000, 200000⟩ ∧ 200000 ≤ elapsed timed.now 4800000
    ∧ timed.pwr.listenTimer = some ⟨4900000, 100000⟩ ∧ 100000 ≤ elapsed timed.now 4900000 ∧ timed.own ≠ 0
    ∧ ({ timed with straps := ⟨0, 1, true, true⟩ } : State).own = 0 := by decide +kernel

theorem test_timers :
    gives .shareTimer timed (fun t => t.line.slots.share ∧ t.shr.shareTimer = some ⟨5000000, 20000⟩) = true
    ∧ gives .statusTimer timed (fun t => t.line.slots.status ∧ t.mon.statusTimer = some ⟨5000000, 200000⟩) = true
    ∧ gives .listenExpiry timed (fun t => t.line.life = .active ∧ t.line.slots.status) = true := by decide +kernel

/-! ## Witnesses and small steps: drivers and supply -/

/-- A channel of cam I one period after its opening. -/
def period (tripped : Bool) (run : Nat) : State :=
  withCam (withDrv (supplied 8) .i
    { pending := 580, active := 580, applied := 199, ditherPhase := 4, periodStart := some 4992000, tripped := tripped, tripRun := run })
    .i { state := .follow }

/-- The same at an applied duty of `duty`, with two coil counts of the sum 136 (49 mA), and this open-load run. -/
def openPeriod (duty run : Nat) : State :=
  let s := withDrv (period false 0) .i { (period false 0).drv.i with applied := duty, openRun := run }
  { s with scan := { s.scan with coil := ⟨⟨136, 2⟩, {}⟩ } }

theorem witness_PeriodBoundaryClosesAndOpens :
    (∀ s ∈ [period false 3, period true 6, period true 7, openPeriod 200 1, openPeriod 199 2, openPeriod 200 2],
      s.pwr.power = .run ∧ (s.drvOf .i).periodStart = some 4992000 ∧ (match s.settings.pwmFreq with | 0 => 10000 | 1 => 8000 | _ => 6667) ≤ elapsed s.now 4992000
      ∧ s.machineRuns .i = true ∧ (s.camOf .i).state ≠ .faulted
      ∧ s.active (.coilShort .i) = false ∧ s.active (.openLoad .i) = false)
    ∧ ((period false 3).drvOf .i).tripped = false ∧ min 8 (((period true 6).drvOf .i).tripRun + 1) ≠ 8
    ∧ ((period true 7).drvOf .i).tripped = true ∧ min 8 (((period true 7).drvOf .i).tripRun + 1) = 8
    ∧ (∀ s ∈ [openPeriod 200 1, openPeriod 200 2], 200 ≤ (s.drvOf .i).applied ∧ (s.scan.coil.get .i).milliamps < 50)
    ∧ ((openPeriod 199 2).drvOf .i).applied < 200
    ∧ min 3 (((openPeriod 200 1).drvOf .i).openRun + 1) ≠ 3 ∧ min 3 (((openPeriod 200 2).drvOf .i).openRun + 1) = 3 := by decide +kernel

theorem test_period_boundary :
    gives (.periodBoundary .i) (period false 3)
      (fun t => t.drv.i.applied = 519 ∧ t.drv.i.ditherPhase = 1 ∧ t.drv.i.tripRun = 0 ∧ t.drv.i.periodStart = some 5000000) = true
    ∧ gives (.periodBoundary .i) (period true 6) (fun t => t.drv.i.tripRun = 7 ∧ t.active (.coilShort .i) = false) = true := by
  decide +kernel

theorem test_open_load :
    gives (.periodBoundary .i) (openPeriod 200 1) (fun t => t.drv.i.openRun = 2 ∧ t.drv.i.openPeriods = 1 ∧ t.drv.i.meanCurrent = 49) = true
    ∧ gives (.periodBoundary .i) (openPeriod 199 2) (fun t => t.drv.i.openRun = 0 ∧ t.drv.i.openPeriods = 0) = true
    ∧ gives (.periodBoundary .i) (openPeriod 200 2) (fun t => t.active (.openLoad .i) ∧ t.camc.cams.i.state = .faulted
      ∧ !t.drv.i.output) = true := by decide +kernel

/-- Cam I's output on, `d` ticks into its period. -/
def driven (applied : Nat) (d : Nat) : State :=
  withDrv running .i { applied := applied, output := true, periodStart := some (5000000 - BitVec.ofNat 24 d) }

theorem witness_OutputIsSwitchedOff :
    ((driven 999 7992).drvOf .i).output = true ∧ ((driven 999 7992).drvOf .i).periodStart = some (5000000 - 7992)
    ∧ ((driven 999 7992).drvOf .i).applied < 1000
    ∧ ((driven 999 7992).drvOf .i).applied * periodLength (driven 999 7992).settings / 1000 ≤ elapsed (driven 999 7992).now (5000000 - 7992)
    ∧ ((driven 1000 7999).drvOf .i).applied = 1000 ∧ ((driven 1000 7999).drvOf .i).output = true
    ∧ 1500 + 500 * running.settings.iTrip < 2501 ∧ 2500 ≤ 1500 + 500 * running.settings.iTrip := by decide +kernel

theorem test_output_off :
    gives (.onTimeEnd .i) (driven 999 7991) (fun t => t.drv.i.output) = true
    ∧ gives (.onTimeEnd .i) (driven 999 7992) (fun t => !t.drv.i.output) = true
    ∧ gives (.currentTrip .i 2501) (driven 500 9) (fun t => !t.drv.i.output ∧ t.drv.i.tripped ∧ t.drv.i.trips = 1) = true := by
  decide +kernel

/-- Both supply expiries reached, cam I in FOLLOW and cam E in FAULTED. -/
def lowSupply : State :=
  { withCam (withCam running .i { state := .follow, ramp := 9 }) .e { state := .faulted } with
    supply := { judging := true, lowExpiry := some ⟨4980000, 20000⟩, recoveryExpiry := some ⟨4800000, 200000⟩ } }

theorem witness_SupplyExpiriesAct :
    lowSupply.supply.lowExpiry = some ⟨4980000, 20000⟩ ∧ 20000 ≤ elapsed lowSupply.now 4980000
    ∧ lowSupply.supply.recoveryExpiry = some ⟨4800000, 200000⟩ ∧ 200000 ≤ elapsed lowSupply.now 4800000
    ∧ lowSupply.machineRuns .i = true ∧ (lowSupply.camOf .i).state.controlled = true ∧ (lowSupply.camOf .e).state = .faulted := by
  decide +kernel

theorem test_supply_expiries :
    gives .supplyLowExpiry lowSupply (fun t => t.active .supplyLow ∧ t.camc.cams.i.state = .off ∧ t.camc.cams.e.state = .faulted) = true
    ∧ gives .supplyRecoveryExpiry (raised lowSupply .supplyLow) (fun t => !t.active .supplyLow ∧ t.mon.presented = 5) = true := by
  decide +kernel

/-! ## Witnesses and small steps: station line -/

/-- The receiver in state `r` on a high line, its latest falling edge and its latest rise `d` ticks ago, `bits` data bits begun. -/
def receiving (r : Receiver) (d bits : Nat) : State :=
  { running with line := { running.line with
      receiver := r, lastFall := 5000000 - BitVec.ofNat 24 d, dataBits := bits, lastRise := 5000000 - BitVec.ofNat 24 d } }

/-- The same with another station holding the line low. -/
def heldLow (r : Receiver) (d bits : Nat) : State :=
  { receiving r d bits with line := { (receiving r d bits).line with othersLow := true } }

/-- The part sending a frame of a slot, at the sample of data bit `bits` of it, the samples as given. -/
def sending (k : Slot) (bytes : List Byte) (bits : Nat) (sampled : List Bool) : State :=
  { receiving .frame 8 bits with line := { (receiving .frame 8 bits).line with
      sending := some ⟨k, bytes⟩, life := .active, seq := 15, sampled := sampled } }

/-- The part 17 ticks after the edge of its last data bit so far: a framing error of a frame of its own is due. -/
def overdue (k : Slot) : State :=
  { sending k [0xA1, 0x33] 12 [] with line := { (sending k [0xA1, 0x33] 12 []).line with lastFall := 5000000 - 19 } }

theorem witness_ReceiverLeavesFramesAndFindsIdle :
    (let s := heldLow .start 29 0;
      s.line.receiver = .start ∧ s.line.low = true ∧ 14 * (s.tb / 8) < elapsed s.now s.line.lastFall ∧ s.line.sending = none
      ∧ s.dozeReady = false ∧ ¬(14 * (s.tb / 8) < elapsed (heldLow .start 28 0).now (heldLow .start 28 0).line.lastFall))
    ∧ (let s := receiving .frame 35 0;
      s.line.receiver = .frame ∧ s.line.dataBits = 0 ∧ 17 * (s.tb / 8) < elapsed s.now s.line.lastFall ∧ s.line.sending = none
      ∧ s.dozeReady = false ∧ ¬(17 * (s.tb / 8) < elapsed (receiving .frame 34 0).now (receiving .frame 34 0).line.lastFall))
    ∧ (let s := receiving .frame 19 9;
      s.line.receiver = .frame ∧ s.line.dataBits ≠ 0 ∧ 9 * (s.tb / 8) < elapsed s.now s.line.lastFall ∧ s.dozeReady = false
      ∧ ¬(9 * (s.tb / 8) < elapsed (receiving .frame 18 9).now (receiving .frame 18 9).line.lastFall))
    ∧ (let s := heldLow .frame 15 9;
      s.line.receiver = .frame ∧ s.line.low = true ∧ 7 * (s.tb / 8) < elapsed s.now s.line.lastFall ∧ s.dozeReady = false
      ∧ ¬(7 * (s.tb / 8) < elapsed (heldLow .frame 14 9).now (heldLow .frame 14 9).line.lastFall))
    ∧ (∀ k ∈ [Slot.sync, .share, .reply, .status], (overdue k).line.sending = some ⟨k, [0xA1, 0x33]⟩ ∧ (overdue k).pwr.power = .run
      ∧ (overdue k).line.receiver = .frame ∧ (overdue k).line.dataBits ≠ 0
      ∧ 9 * ((overdue k).tb / 8) < elapsed (overdue k).now (overdue k).line.lastFall)
    ∧ (∀ d ∈ [191, 192], (receiving .waitIdle d 0).line.receiver = .waitIdle ∧ (receiving .waitIdle d 0).line.low = false
      ∧ (receiving .waitIdle d 0).active .lineStuck = false)
    ∧ 12 * (receiving .waitIdle 192 0).tb ≤ elapsed (5000000 : Time) (5000000 - 192)
    ∧ elapsed (5000000 : Time) (5000000 - 191) < 12 * (receiving .waitIdle 191 0).tb
    ∧ (∀ d ∈ [255, 256], (heldLow .waitIdle d 0).line.receiver ≠ .off ∧ (heldLow .waitIdle d 0).line.low = true)
    ∧ 16 * (heldLow .waitIdle 256 0).tb ≤ elapsed (5000000 : Time) (5000000 - 256)
    ∧ elapsed (5000000 : Time) (5000000 - 255) < 16 * (heldLow .waitIdle 255 0).tb
    ∧ (raised (heldLow .waitIdle 256 0) .lineStuck).active .lineStuck = true
    ∧ (heldLow .waitIdle 256 0).active .lineStuck = false := by decide +kernel

theorem test_receiver :
    gives .framingError (overdue .reply) (fun t => t.line.framing = 1 ∧ t.line.txFailures = 1 ∧ t.line.sending = none) = true
    ∧ gives .framingError (heldLow .start 28 0) (fun t => t.line.framing = 0 ∧ t.line.receiver = .start) = true
    ∧ gives .lineIdle (receiving .waitIdle 191 0) (fun t => t.line.receiver = .waitIdle) = true
    ∧ gives .lineIdle (raised (receiving .waitIdle 192 0) .lineStuck) (fun t => t.line.receiver = .idle ∧ !t.active .lineStuck) = true
    ∧ gives .lineHeld (heldLow .waitIdle 256 0) (fun t => !t.line.txEnabled ∧ t.mon.presented = 15 ∧ t.line.slots.status) = true
    ∧ gives .lineHeld (heldLow .waitIdle 255 0) (fun t => t.line.txEnabled) = true
    ∧ gives .lineHeld (receiving .idle 9 0) (fun t => t.line.txEnabled) = true := by
  decide +kernel

/-- The part sending byte 41 hex, a 0 and then a 1, with the next tick `d` ticks after its latest falling edge, this drive and
these data bits. -/
def transmitting (d bits : Nat) (drive : Option Nat) : State :=
  { sending .share [0x41, 0x37] bits [] with line := { (sending .share [0x41, 0x37] bits []).line with
      lastFall := 5000001 - BitVec.ofNat 24 d
      drive := drive.map (fun len => ⟨5000001 - BitVec.ofNat 24 d, len⟩) } }

theorem witness_LineEdgesAreJudgedByTheirTimes :
    ((receiving .idle 9 0).pwr.power = .run ∧ (receiving .idle 9 0).line.receiver = .idle ∧ (receiving .idle 9 0).line.low = false)
    ∧ (receiving .waitIdle 9 0).line.low = false
    ∧ (∀ d ∈ [30, 34], (receiving .frame d 0).line.low = false ∧ 15 * ((receiving .frame d 0).tb / 8) ≤ elapsed (5000000 : Time) (5000000 - BitVec.ofNat 24 d)
      ∧ elapsed (5000000 : Time) (5000000 - BitVec.ofNat 24 d) ≤ 17 * ((receiving .frame d 0).tb / 8))
    ∧ (∀ d ∈ [14, 18], 7 * ((receiving .frame d 9).tb / 8) ≤ elapsed (5000000 : Time) (5000000 - BitVec.ofNat 24 d)
      ∧ elapsed (5000000 : Time) (5000000 - BitVec.ofNat 24 d) ≤ 9 * ((receiving .frame d 9).tb / 8))
    ∧ ((receiving .frame 13 9).line.sending = none ∧ elapsed (5000000 : Time) (5000000 - 13) < 7 * ((receiving .frame 13 9).tb / 8)
      ∧ 17 * ((receiving .frame 35 0).tb / 8) < elapsed (5000000 : Time) (5000000 - 35))
    ∧ ((heldLow .frame 9 1).line.low = true ∧ (heldLow .frame 9 1).dozeReady = false)
    ∧ (let s := { inPower .standby with line := (receiving .idle 9 0).line };
      s.pwr.power = .standby ∧ s.line.receiver = .idle ∧ s.line.low = false ∧ s.line.sending = none)
    ∧ ((heldLow .start 19 0).line.receiver = .start ∧ (heldLow .start 19 0).line.othersLow = true
      ∧ (heldLow .start 19 0).line.drive = none ∧ (heldLow .start 19 0).line.sending = none
      ∧ elapsed (5000000 : Time) (5000000 - 19) < 5 * ((heldLow .start 19 0).tb / 4)
      ∧ 5 * ((heldLow .start 20 0).tb / 4) ≤ elapsed (5000000 : Time) (5000000 - 20)
      ∧ elapsed (5000000 : Time) (5000000 - 28) ≤ 7 * ((heldLow .start 28 0).tb / 4)
      ∧ 7 * ((heldLow .start 29 0).tb / 4) < elapsed (5000000 : Time) (5000000 - 29))
    ∧ (∀ d ∈ [191, 192], (receiving .waitIdle d 0).line.receiver = .waitIdle ∧ (receiving .waitIdle d 0).line.low = false
      ∧ (receiving .waitIdle d 0).active .lineStuck = false)
    ∧ elapsed (5000000 : Time) (5000000 - 191) < 12 * (receiving .waitIdle 191 0).tb
    ∧ 12 * (receiving .waitIdle 192 0).tb ≤ elapsed (5000000 : Time) (5000000 - 192) := by
  decide +kernel

/-- The part sending a frame, a bit's low held by another station for `d` ticks. -/
def sendingHeld (k : Slot) (d bits : Nat) : State :=
  { sending k [0xA1, 0x33] bits [] with line := { (sending k [0xA1, 0x33] bits []).line with
      othersLow := true, lastFall := 5000000 - BitVec.ofNat 24 d } }

theorem witness_LineEdgesAreJudgedByTheirTimes_rises :
    (∀ s ∈ [heldLow .frame 14 9, heldLow .frame 15 9, heldLow .frame 34 0, heldLow .frame 35 0, heldLow .waitIdle 255 0,
        heldLow .waitIdle 256 0, heldLow .off 256 0, sendingHeld .reply 14 9, sendingHeld .reply 15 9],
      s.line.othersLow = true ∧ s.line.drive = none ∧ s.pwr.power = .run)
    ∧ (∀ s ∈ [heldLow .frame 14 9, sendingHeld .reply 14 9], s.line.receiver = .frame ∧ s.line.dataBits ≠ 0
      ∧ ¬(7 * (s.tb / 8) < elapsed s.now s.line.lastFall))
    ∧ (∀ s ∈ [heldLow .frame 15 9, sendingHeld .reply 15 9], s.line.receiver = .frame ∧ s.line.dataBits ≠ 0
      ∧ 7 * (s.tb / 8) < elapsed s.now s.line.lastFall ∧ elapsed s.now s.line.lastFall < 16 * s.tb)
    ∧ (heldLow .frame 15 9).line.sending = none ∧ (sendingHeld .reply 15 9).line.sending = some ⟨.reply, [0xA1, 0x33]⟩
    ∧ ((heldLow .frame 34 0).line.dataBits = 0 ∧ ¬(17 * ((heldLow .frame 34 0).tb / 8) < elapsed (5000000 : Time) (5000000 - 34))
      ∧ 17 * ((heldLow .frame 35 0).tb / 8) < elapsed (5000000 : Time) (5000000 - 35))
    ∧ (elapsed (5000000 : Time) (5000000 - 255) < 16 * (heldLow .waitIdle 255 0).tb
      ∧ 16 * (heldLow .waitIdle 256 0).tb ≤ elapsed (5000000 : Time) (5000000 - 256))
    ∧ (let s := { heldLow .frame 3 1 with line := { (heldLow .frame 3 1).line with drive := some ⟨4999997, 12⟩ } };
      s.line.othersLow = true ∧ s.line.drive.isSome = true) := by decide +kernel

theorem witness_LineEdgesAreJudgedByTheirTimes_ticks :
    (∀ s ∈ [transmitting 4 2 (some 4), transmitting 12 1 (some 12), transmitting 24 0 (some 24), transmitting 32 0 none,
        transmitting 16 1 none, transmitting 8 1 (some 12), transmitting 8 2 none],
      s.pending = [] ∧ s.ownEvents = [] ∧ s.pwr.power = .run ∧ s.line.sending = some ⟨.share, [0x41, 0x37]⟩ ∧ s.line.receiver = .frame)
    ∧ (∀ p ∈ [(transmitting 4 2 (some 4), 4), (transmitting 12 1 (some 12), 12), (transmitting 24 0 (some 24), 24)],
      p.1.line.drive.map Timer.len = some p.2 ∧ p.2 ≤ elapsed (p.1.now + 1) p.1.line.lastFall
      ∧ elapsed (p.1.now + 1) p.1.line.lastFall ≠ p.1.tb / 2 ∧ elapsed (p.1.now + 1) p.1.line.lastFall ≠ p.1.tb
      ∧ elapsed (p.1.now + 1) p.1.line.lastFall ≠ 2 * p.1.tb)
    ∧ ((transmitting 32 0 none).line.low = false ∧ (transmitting 32 0 none).line.dataBits < 8 * 2
      ∧ elapsed ((transmitting 32 0 none).now + 1) (transmitting 32 0 none).line.lastFall = 2 * (transmitting 32 0 none).tb)
    ∧ ((transmitting 16 1 none).line.low = false ∧ (transmitting 16 1 none).line.dataBits < 8 * 2
      ∧ elapsed ((transmitting 16 1 none).now + 1) (transmitting 16 1 none).line.lastFall = (transmitting 16 1 none).tb)
    ∧ (∀ s ∈ [transmitting 8 1 (some 12), transmitting 8 2 none], 1 ≤ s.line.dataBits
      ∧ elapsed (s.now + 1) s.line.lastFall = s.tb / 2 ∧ dueAt s.line.drive (s.now + 1) = false) := by decide +kernel

theorem test_line_edges :
    gives .lineFallingEdge (receiving .frame 30 0) (fun t => t.line.dataBits = 1) = true
    ∧ gives .lineFallingEdge (receiving .frame 19 9) (fun t => t.line.framing = 1 ∧ t.line.receiver = .waitIdle) = true
    ∧ gives .startOfFrame (heldLow .start 24 0) (fun t => t.line.receiver = .frame) = true
    ∧ gives .startOfFrame (heldLow .start 19 0) (fun t => t.line.receiver = .waitIdle ∧ t.line.framing = 0) = true
    ∧ gives .startOfFrame (receiving .start 24 0) (fun t => t.line.receiver = .start) = true := by
  decide +kernel

/-- R159: a rise that ends a low of 7Tb/8 is sound, one a tick later ends it as a framing error, an own frame with it (R170). -/
theorem test_rise_in_a_frame :
    gives .startOfFrame (heldLow .frame 14 9) (fun t => t.line.framing = 0 ∧ t.line.receiver = .frame ∧ t.line.lastRise = 5000000) = true
    ∧ gives .startOfFrame (heldLow .frame 15 9) (fun t => t.line.framing = 1 ∧ t.line.receiver = .waitIdle) = true
    ∧ gives .startOfFrame (sendingHeld .reply 15 9) (fun t => t.line.framing = 1 ∧ t.line.txFailures = 1 ∧ t.line.sending = none) = true := by
  decide +kernel

/-- R160, R161: an edge of the moment at which 12Tb or 16Tb are complete finds them complete. -/
theorem test_edges_at_the_ends_of_the_counts :
    gives .lineFallingEdge (receiving .waitIdle 191 0) (fun t => t.line.receiver = .waitIdle) = true
    ∧ gives .lineFallingEdge (receiving .waitIdle 192 0) (fun t => t.line.receiver = .start ∧ t.line.lastFall = 5000000) = true
    ∧ gives .startOfFrame (heldLow .waitIdle 255 0) (fun t => t.line.txEnabled ∧ !t.active .lineStuck) = true
    ∧ gives .startOfFrame (heldLow .waitIdle 256 0) (fun t => !t.line.txEnabled ∧ t.active .lineStuck ∧ !t.line.low) = true := by
  decide +kernel

/-- R158: the first bit of 41 hex is a 0, driven for 3Tb/4 of 16 ticks, its second a 1, for Tb/4; a driven 0 is sampled as 0. -/
theorem test_own_bits_are_driven :
    (stepped (transmitting 32 0 none)).line.drive = some ⟨5000001, 12⟩ ∧ (stepped (transmitting 32 0 none)).line.dataBits = 1
    ∧ (stepped (transmitting 16 1 none)).line.drive = some ⟨5000001, 4⟩ ∧ (stepped (transmitting 4 2 (some 4))).line.drive = none
    ∧ (stepped (transmitting 8 1 (some 12))).line.sampled = [false] ∧ (stepped (transmitting 8 2 none)).line.sampled = [true] := by
  decide +kernel

/-- Byte 1 and byte 2 with the CRC, no payload byte counted beyond those given. -/
def bytesOf (byte1 : Byte) (payload : List Byte) : List Byte := withCrc ([byte1, 0x50 + BitVec.ofNat 8 payload.length] ++ payload)

/-- The receiver at the sample of the last data bit of a frame. -/
def ending (bytes : List Byte) : State :=
  { receiving .frame 8 (8 * bytes.length) with line := { (receiving .frame 8 (8 * bytes.length)).line with sampled := bitsOf bytes } }

/-- The same with buffer X used last, and the buffers as given. -/
def endingIn (bytes : List Byte) (x y : Option Received) : State :=
  { ending bytes with line := { (ending bytes).line with lastBuffer := some .x, bufferX := x, bufferY := y } }

/-- The same with a record of station 2, FRESH or STALE, its latest sequence number 4. -/
def endingKnown (bytes : List Byte) (fresh : Bool) : State :=
  { ending bytes with shr := { running.shr with peers :=
      [{ station := 2, role := .phase, lastSeq := 4, missed := 1, lastRefresh := 4900000, fresh := fresh
         share := some ⟨350, 140, 300, ⟨true, false⟩, 4900000, 0⟩, pressure := some 146, report := none }] } }

theorem witness_FrameReceivedIsJudged :
    (∀ bytes ∈ [[0x20, 0x51, 1, 0, 0], bytesOf 0x28 [1], bytesOf 0x12 [1], bytesOf 0x20 [1, 2], bytesOf 0x21 [1], bytesOf 0x20 [1],
        bytesOf 0xA7 (List.replicate 15 3)],
      4 ≤ bytes.length ∧ bytes.length = 4 + (bytes.getD 1 0).toNat % 16 ∧ (ending bytes).line.receiver = .frame
      ∧ elapsed (ending bytes).now (ending bytes).line.lastFall = (ending bytes).tb / 2
      ∧ (ending bytes).line.dataBits = 8 * bytes.length ∧ (ending bytes).line.sampled = bitsOf bytes ∧ (ending bytes).line.sending = none
      ∧ (ending bytes).line.aborting = false)
    ∧ crcMatches [0x20, 0x51, 1, 0, 0] = false
    ∧ (crcMatches (bytesOf 0x28 [1]) = true ∧ 7 < ((bytesOf 0x28 [1]).getD 0 0).toNat % 16)
    ∧ (crcMatches (bytesOf 0x12 [1]) = true ∧ ((bytesOf 0x12 [1]).getD 0 0).toNat / 16 ∉ [2, 3, 4, 9, 10, 12])
    ∧ (crcMatches (bytesOf 0x20 [1, 2]) = true ∧ ((bytesOf 0x20 [1, 2]).getD 0 0).toNat / 16 = 2 ∧ ((bytesOf 0x20 [1, 2]).drop 2).take 2 = [1, 2])
    ∧ (((bytesOf 0x21 [1]).drop 2).take 1 = [1] ∧ ((bytesOf 0x21 [1]).getD 0 0).toNat % 16 = (ending (bytesOf 0x21 [1])).own)
    ∧ (let s := ending (bytesOf 0x20 [1]);
      ((bytesOf 0x20 [1]).getD 0 0).toNat % 16 ≠ s.own ∧ s.line.lastBuffer = none ∧ s.line.bufferX = none ∧ s.shr.peer 0 = none)
    ∧ (let s := endingIn (bytesOf 0x20 [1]) (some (frame .share 2 [])) none; s.line.lastBuffer = some .x ∧ s.line.bufferY = none)
    ∧ (let s := endingIn (bytesOf 0x20 [1]) none (some (frame .demand 0 [1]));
      s.line.lastBuffer = some .x ∧ s.line.bufferY = some (frame .demand 0 [1]))
    ∧ (∀ b ∈ [true, false], ((endingKnown (bytesOf 0xC2 (List.replicate 8 0)) b).shr.peer 2).map Peer.fresh = some b) := by decide +kernel

theorem test_frames_are_judged :
    gives (.frameReceived (bytesOf 0x20 [1])) (ending (bytesOf 0x20 [1]))
      (fun t => t.line.bufferX = some ⟨⟨.demand, 0, 5, [1]⟩, 5000000, false⟩ ∧ (t.shr.peer 0).map Peer.role = some .controller) = true
    ∧ gives (.frameReceived (bytesOf 0xC3 (List.replicate 8 0))) (ending (bytesOf 0xC3 (List.replicate 8 0)))
      (fun t => t.line.bufferX = none ∧ t.line.received = 1 ∧ (t.shr.peer 3).map Peer.role = some .other) = true
    ∧ gives (.frameReceived (bytesOf 0x20 [1])) (ending (bytesOf 0x20 [2])) (fun t => t.line.receiver = .frame) = true := by decide +kernel

/-- R133: sequence number 5 after 4 misses none, and a STALE record is FRESH again; the second frame goes to buffer Y. -/
theorem test_a_known_peer_is_refreshed :
    gives (.frameReceived (bytesOf 0xC2 (List.replicate 8 0))) (endingKnown (bytesOf 0xC2 (List.replicate 8 0)) false)
      (fun t => (t.shr.peer 2).map (fun p => (p.fresh, p.missed, p.lastSeq, p.lastRefresh)) = some (true, 1, 5, 5000000)
        ∧ t.shr.source = .peer 2) = true
    ∧ gives (.frameReceived (bytesOf 0x20 [1])) (endingIn (bytesOf 0x20 [1]) (some (frame .share 2 [])) none)
      (fun t => t.line.bufferY = some ⟨⟨.demand, 0, 5, [1]⟩, 5000000, false⟩ ∧ t.line.lastBuffer = some .y) = true := by decide +kernel

/-- An ACTIVE station with the line idle, these slots pending, its reply record holding an answer. -/
def ready (slots : Slots) : State :=
  { running with
    trk := tracking .cycleSync (some .b) 11
    line := { running.line with receiver := .idle, life := .active, slots := slots, seq := 5 }
    service := { reply := some ⟨0, 9, .ok, []⟩ } }

theorem witness_TransmitStartComposesTheFrame :
    (∀ q ∈ [(⟨true, true, true, true⟩ : Slots), ⟨false, true, true, true⟩, ⟨false, false, true, true⟩, ⟨false, false, false, true⟩],
      (ready q).line.life = .active ∧ (ready q).line.txEnabled = true ∧ (ready q).line.receiver = .idle)
    ∧ (ready ⟨true, true, true, true⟩).trk.half = some .b ∧ (ready ⟨false, false, true, true⟩).service.reply = some ⟨0, 9, .ok, []⟩ := by
  decide +kernel

theorem test_sync_frame_is_composed :
    gives .transmitStart (ready ⟨true, true, false, true⟩)
      (fun t => t.line.sending = some ⟨.sync, withCrc [0x31, 0x54, 1, 0, 3, 232]⟩ ∧ t.line.slots = ⟨false, true, false, true⟩) = true := by
  decide +kernel

theorem test_status_frame_is_composed :
    gives .transmitStart (ready ⟨false, false, false, true⟩)
      (fun t => t.line.sending = some ⟨.status, withCrc [0xC1, 0x58, 2, 3, 0, 0, 0, 0, 0, 10]⟩ ∧ t.mon.noted = some 0) = true := by
  decide +kernel

/-- The samples of a frame's first `n` bits as sent, but the last one, which differs where `ok` is false. -/
def samples (bytes : List Byte) (n : Nat) (ok : Bool) : List Bool :=
  (bitsOf bytes).take (n - 1) ++ [(bitsOf bytes).getD (n - 1) true == ok]

/-- The part at the sample of bit `n` of a frame it sends. -/
def sampling (k : Slot) (bytes : List Byte) (n : Nat) (ok : Bool) : State := sending k bytes n (samples bytes n ok)

theorem witness_TransmissionsEnd :
    (∀ s ∈ [sampling .status [0xC1, 0x38] 1 false, sampling .status [0xC1, 0x38] 8 false, sampling .status [0xC1, 0x38] 9 false,
        sampling .status [0xC1, 0x38] 16 false, sampling .status [0xC1, 0x38] 16 true, sampling .status [0xC1, 0x38] 15 true],
      s.pwr.power = .run ∧ s.line.sending = some ⟨.status, [0xC1, 0x38]⟩ ∧ s.line.receiver = .frame ∧ 1 ≤ s.line.dataBits
      ∧ elapsed s.now s.line.lastFall = s.tb / 2 ∧ s.line.sampled.length = s.line.dataBits)
    ∧ (∀ n ∈ [1, 8], (bitsOf [0xC1, 0x38])[n - 1]? = some true ∧ (samples [0xC1, 0x38] n false).getLast? = some false)
    ∧ (∀ n ∈ [9, 16], (bitsOf [0xC1, 0x38])[n - 1]? = some false ∧ (samples [0xC1, 0x38] n false).getLast? = some true)
    ∧ (bitsOf [0xC1, 0x38])[15]? = (samples [0xC1, 0x38] 16 true).getLast?
    ∧ (bitsOf [0xC1, 0x38])[2]? = some false := by decide +kernel

/-- The part in this power state `d` ticks after the edge of the bit in error, driving its 2Tb low, the quiet mark as given. -/
def abortingIn (p : Power) (r : Receiver) (d : Nat) (mark : Bool) : State :=
  { inPower p with
    pwr := { (inPower p).pwr with quietMark := mark }
    line := { receiver := r, life := .active, dataBits := if r = .frame then 9 else 0, aborting := true
              lastFall := 5000000 - BitVec.ofNat 24 d, drive := some ⟨5000000 - BitVec.ofNat 24 d, 32⟩ } }

theorem witness_TransmissionsEnd_low :
    (∀ s ∈ [abortingIn .run .frame 14 false, abortingIn .run .frame 15 false, abortingIn .standby .frame 15 true,
        abortingIn .run .waitIdle 31 false, abortingIn .standby .waitIdle 31 true],
      s.line.aborting = true ∧ s.line.sending = none ∧ s.line.drive = some ⟨s.line.lastFall, 2 * s.tb⟩)
    ∧ (let s := abortingIn .run .frame 14 false;
      s.line.receiver = .frame ∧ 1 ≤ s.line.dataBits ∧ elapsed s.now s.line.lastFall ≤ 7 * (s.tb / 8))
    ∧ (∀ s ∈ [abortingIn .run .frame 15 false, abortingIn .standby .frame 15 true],
      s.line.receiver = .frame ∧ 1 ≤ s.line.dataBits ∧ 7 * (s.tb / 8) < elapsed s.now s.line.lastFall)
    ∧ (∀ s ∈ [abortingIn .run .waitIdle 30 false, abortingIn .run .waitIdle 31 false, abortingIn .standby .waitIdle 31 false,
        abortingIn .standby .waitIdle 31 true], s.pending = [] ∧ s.ownEvents = [])
    ∧ (let s := abortingIn .run .waitIdle 30 false; s.pwr.power = .run ∧ elapsed (s.now + 1) s.line.lastFall < 2 * s.tb)
    ∧ (let s := abortingIn .run .waitIdle 31 false; s.pwr.power = .run ∧ 2 * s.tb ≤ elapsed (s.now + 1) s.line.lastFall)
    ∧ (let s := abortingIn .standby .waitIdle 31 false; s.pwr.power = .standby ∧ s.pwr.quietMark = false)
    ∧ (let s := abortingIn .standby .waitIdle 31 true;
      s.pwr.power = .standby ∧ s.pwr.quietMark = true ∧ s.store.clean = true) := by decide +kernel

/-- R170: the own receiver counts its framing error when the 2Tb low passes 7Tb/8, 14 ticks; the low ends at 32. -/
theorem test_low_of_a_bit_error :
    gives .framingError (abortingIn .run .frame 14 false) (fun t => t.line.framing = 0 ∧ t.line.receiver = .frame) = true
    ∧ gives .framingError (abortingIn .standby .frame 15 true) (fun t => t.line.framing = 1 ∧ t.line.receiver = .waitIdle
      ∧ t.line.drive = some ⟨4999985, 32⟩ ∧ t.line.txFailures = 0 ∧ t.pwr.power = .standby) = true
    ∧ (stepped (abortingIn .run .frame 15 false)).pending = [.framingError]
    ∧ (stepped (abortingIn .run .waitIdle 30 false)).line.drive.isSome
    ∧ ((stepped (abortingIn .run .waitIdle 31 false)).line.drive = none
      ∧ (stepped (abortingIn .run .waitIdle 31 false)).line.lastRise = 5000001
      ∧ (stepped (abortingIn .run .waitIdle 31 false)).line.aborting = false)
    ∧ (stepped (abortingIn .standby .waitIdle 31 true)).pwr.power = .doze
    ∧ (stepped (abortingIn .standby .waitIdle 31 false)).pwr.power = .standby := by decide +kernel

theorem test_transmissions_end :
    gives .arbitrationLoss (sampling .status [0xC1, 0x38] 8 false)
      (fun t => t.line.arbLosses = 1 ∧ t.line.slots.status ∧ t.line.receiver = .frame) = true
    ∧ gives .arbitrationLoss (sampling .status [0xC1, 0x38] 8 true) (fun t => t.line.arbLosses = 0) = true
    ∧ gives .arbitrationLoss (sampling .status [0xC1, 0x38] 9 false) (fun t => t.line.arbLosses = 0) = true
    ∧ gives .bitError (sampling .share [0x41, 0x37] 9 false) (fun t => t.line.txFailures = 1 ∧ t.line.framing = 0
      ∧ t.line.drive = some ⟨4999992, 32⟩ ∧ t.line.receiver = .frame ∧ t.line.sending = none ∧ t.line.aborting) = true
    ∧ gives .bitError (sampling .share [0x41, 0x37] 8 false) (fun t => t.line.txFailures = 0) = true
    ∧ gives .transmitComplete (sampling .sync (List.replicate 8 0x31) 64 true) (fun t => t.line.seq = 0 ∧ t.line.sent = 1) = true
    ∧ gives .transmitComplete (sampling .sync (List.replicate 8 0x31) 63 true) (fun t => t.line.sent = 0) = true := by
  decide +kernel

/-! ## Witnesses and small steps: service -/

/-- A request of the controller waiting, its destination station 1. -/
def asking (s : State) (request : List Byte) : State := holding s (frame .request 0 (1 :: request))

theorem asked_of (s : State) (request : List Byte) (r : Option Request)
    (h : (asking s request).waiting .request = some (frame .request 0 (1 :: request)) ∧ requestOf (1 :: request) = r
      ∧ s.operating = true ∧ s.own = 1) : Asked (asking s request) (frame .request 0 (1 :: request)) r :=
  ⟨h.1, h.2.1, h.2.2.1, rfl, by rw [show (asking s request).own = s.own from rfl, h.2.2.2]; decide,
    by rw [show (asking s request).own = s.own from rfl, h.2.2.2]; rfl⟩

theorem witness_CamAndTrackerAreRead :
    Asked (asking busy [1, 0, 0, 3]) (frame .request 0 [1, 1, 0, 0, 3]) (some .readCam)
    ∧ Asked (asking running [1, 1, 1]) (frame .request 0 [1, 1, 1, 1]) (some .readCam)
    ∧ (argument [1, 1, 0, 0, 3] 0 = 0 ∧ argument [1, 1, 0, 0, 3] 2 ≤ 3 ∧ argument [1, 1, 0, 0, 3] 1 = 0)
    ∧ (argument [1, 1, 1, 1] 0 = 1 ∧ argument [1, 1, 1, 1] 2 ≤ 3 ∧ argument [1, 1, 1, 1] 1 = 1 ∧ (running.phmOf .e).lastResult = none)
    ∧ Asked (asking running [1, 2, 0]) (frame .request 0 [1, 1, 2, 0]) (some .readCam) ∧ 1 < argument [1, 1, 2, 0] 0
    ∧ Asked (asking busy [2]) (frame .request 0 [1, 2]) (some .readTracker) ∧ argument [1, 2] 0 = 0
    ∧ Asked (asking busy [2, 1]) (frame .request 0 [1, 2, 1]) (some .readTracker) ∧ 0 < argument [1, 2, 1] 0 :=
  ⟨asked_of _ _ _ (by decide +kernel), asked_of _ _ _ (by decide +kernel), by decide, by decide +kernel,
    asked_of _ _ _ (by decide +kernel), by decide, asked_of _ _ _ (by decide +kernel), by decide,
    asked_of _ _ _ (by decide +kernel), by decide⟩

/-- Cam I with this last learn result. -/
def taught (r : Option LearnResult) : State := { running with phm := ⟨{ lastResult := r }, {}⟩ }

/-- A result of each outcome of R65; ABORTED holds no spread and no mean. -/
def results : List LearnResult :=
  [⟨.ok, 32, some 9, some 6, .automatic⟩, ⟨.spread, 32, some 1088, some (-128), .requested⟩, ⟨.range, 32, some 3, some 97, .automatic⟩,
    ⟨.aborted, 18, none, none, .requested⟩]

theorem witness_CamAndTrackerAreRead_results : ∀ r ∈ results,
    Asked (asking (taught (some r)) [1, 0, 1]) (frame .request 0 [1, 1, 0, 1]) (some .readCam)
    ∧ argument [1, 1, 0, 1] 0 = 0 ∧ argument [1, 1, 0, 1] 1 = 1 ∧ argument [1, 1, 0, 1] 2 ≤ 3
    ∧ ((asking (taught (some r)) [1, 0, 1]).phmOf .i).lastResult = some r := by
  intro r h
  simp only [results, List.mem_cons, List.not_mem_nil, or_false] at h
  rcases h with rfl | rfl | rfl | rfl <;> exact ⟨asked_of _ _ _ (by decide +kernel), by decide, by decide, by decide, rfl⟩

/-- R188, R65: values 5 and 6 end part 0, values 7 to 9 begin part 1. -/
theorem test_learn_results_are_read :
    gives .readCam (asking (taught (some ⟨.aborted, 18, none, none, .requested⟩)) [1, 0, 1])
      (fun t => t.service.reply.map Reply.data = some [0, 0, 0, 0, 0, 0, 0, 0, 0, 3, 0, 18]) = true
    ∧ gives .readCam (asking (taught (some ⟨.aborted, 18, none, none, .requested⟩)) [1, 0, 1, 1])
      (fun t => t.service.reply.map (fun r => r.data.take 6) = some [0, 0, 0, 0, 0, 1]) = true
    ∧ gives .readCam (asking (taught (some ⟨.spread, 32, some 1088, some (-128), .requested⟩)) [1, 0, 1, 1])
      (fun t => t.service.reply.map (fun r => r.data.take 6) = some [4, 64, 255, 128, 0, 1]) = true
    ∧ gives .readCam (asking (taught none) [1, 0, 1])
      (fun t => t.service.reply.map (fun r => r.data.drop 8) = some [0, 255, 0, 0]) = true := by decide +kernel

theorem test_tracker_is_read :
    gives .readTracker (asking busy [2]) (fun t => t.service.reply = some ⟨0, 2, .ok, [0, 3, 3, 232, 0, 15, 0, 1, 0, 0, 0, 0]⟩) = true
    ∧ gives .readCam (asking busy [1, 0, 0, 3]) (fun t => t.service.reply = some ⟨0, 1, .ok, [2, 31]⟩) = true := by decide +kernel

theorem witness_PeersConditionsAndCountersAreRead :
    Asked (asking (peered 4000 running) [3, 2, 2]) (frame .request 0 [1, 3, 2, 2]) (some .readPeer)
    ∧ (argument [1, 3, 2, 2] 0 ≠ running.own ∧ argument [1, 3, 2, 2] 0 ≤ 7 ∧ argument [1, 3, 2, 2] 1 ≤ 2
      ∧ (((peered 4000 running).shr.peer 2).bind Peer.share).isSome = true)
    ∧ Asked (asking running [3, 8]) (frame .request 0 [1, 3, 8]) (some .readPeer) ∧ 7 < argument [1, 3, 8] 0
    ∧ Asked (asking running [4, 20]) (frame .request 0 [1, 4, 20]) (some .readCondition) ∧ argument [1, 4, 20] 0 = (19 : Fin 20).val + 1
    ∧ Asked (asking running [4, 21]) (frame .request 0 [1, 4, 21]) (some .readCondition) ∧ 20 < argument [1, 4, 21] 0
    ∧ Asked (asking running [5, 7]) (frame .request 0 [1, 5, 7]) (some .readCounters) ∧ argument [1, 5, 7] 0 = 7
    ∧ Asked (asking running [5, 8]) (frame .request 0 [1, 5, 8]) (some .readCounters) ∧ 7 < argument [1, 5, 8] 0 :=
  ⟨asked_of _ _ _ (by decide +kernel), by decide +kernel, asked_of _ _ _ (by decide +kernel), by decide,
    asked_of _ _ _ (by decide +kernel), by decide, asked_of _ _ _ (by decide +kernel), by decide,
    asked_of _ _ _ (by decide +kernel), by decide, asked_of _ _ _ (by decide +kernel), by decide⟩

theorem test_peer_and_condition_are_read :
    gives .readPeer (asking (peered 4000 running) [3, 2, 1])
      (fun t => t.service.reply = some ⟨0, 3, .ok, [1, 94, 0, 140, 1, 44, 0, 146, 0, 1, 0, 0]⟩) = true
    ∧ gives .readCondition (asking (raised running .storeFault) [4, 20]) (fun t => t.service.reply = some ⟨0, 4, .ok, [0, 1, 0, 1, 0, 1]⟩) = true
    ∧ gives .readCounters (asking (after .demandFrame (holding running (frame .demand 3 [1]))) [5, 7])
      (fun t => t.service.reply = some ⟨0, 5, .ok, [0, 0, 0, 0, 0, 0, 0, 1, 0, 0, 0, 0]⟩) = true := by decide +kernel

theorem witness_SettingsAreReadAndWritten :
    (∀ g ∈ [0, 7], argument [1, 6, BitVec.ofNat 8 g, 1] 0 = g ∧ argument [1, 6, BitVec.ofNat 8 g, 1] 1 = 1 ∧ g ≤ 7)
    ∧ Asked (asking running [6, 7, 1]) (frame .request 0 [1, 6, 7, 1]) (some .readSetting)
    ∧ Asked (asking running [6, 0]) (frame .request 0 [1, 6, 0]) (some .readSetting) ∧ argument [1, 6, 0] 1 = 0
    ∧ Asked (asking running [6, 8]) (frame .request 0 [1, 6, 8]) (some .readSetting) ∧ 7 < argument [1, 6, 8] 0
    ∧ Asked (asking running [7, 7, 0, 0, 0, 0, 0, 0, 0, 0]) (frame .request 0 [1, 7, 7, 0, 0, 0, 0, 0, 0, 0, 0]) (some .writeSetting)
    ∧ running.trk.state = .stopped ∧ argument [1, 7, 7, 0, 0, 0, 0, 0, 0, 0, 0] 0 ≤ 7
    ∧ Asked (asking busy [7, 7, 0, 0, 0, 0, 0, 0, 0, 0]) (frame .request 0 [1, 7, 7, 0, 0, 0, 0, 0, 0, 0, 0]) (some .writeSetting)
    ∧ busy.trk.state ≠ .stopped
    ∧ Asked (asking running [10]) (frame .request 0 [1, 10]) none
    ∧ (let s := holding running (frame .request 0 [2, 10]);
      s.waiting .request = some (frame .request 0 [2, 10]) ∧ requestOf [2, 10] = none ∧ ((frame .request 0 [2, 10]).frame.payload.getD 0 0).toNat ≠ s.own) :=
  ⟨by decide, asked_of _ _ _ (by decide +kernel), asked_of _ _ _ (by decide +kernel), by decide, asked_of _ _ _ (by decide +kernel),
    by decide, asked_of _ _ _ (by decide +kernel), by decide +kernel, by decide, asked_of _ _ _ (by decide +kernel), by decide +kernel,
    asked_of _ _ _ (by decide +kernel), by decide +kernel⟩

theorem witness_SettingsAreReadAndWritten_images :
    (let s := asking { running with store := { running.store with configImage := List.replicate 64 255 } } [6, 7, 1];
      s.waiting .request = some (frame .request 0 [1, 6, 7, 1]) ∧ argument [1, 6, 7, 1] 0 ≤ 7 ∧ argument [1, 6, 7, 1] 1 = 1
      ∧ (s.store.configImage.drop (8 * argument [1, 6, 7, 1] 0)).take 8 = List.replicate 7 255 ++ [255])
    ∧ (let w : Received := { frame .request 0 [1, 2] with early := true }; (holding running w).waiting .request = some w
      ∧ requestOf w.frame.payload = some .readTracker ∧ w.early = true)
    ∧ (inPower .loading).operating = false ∧ ({ running with straps := ⟨0, 1, true, true⟩ } : State).own = 0 := by decide +kernel

theorem test_settings_requests :
    gives .writeSetting (asking running [7, 7, 1, 2, 3, 4, 5, 6, 7, 8])
      (fun t => t.store.configImage = [1, 2, 3, 4, 5, 6, 7, 8] ∧ t.store.dirty.config) = true
    ∧ gives .readSetting (asking running [6, 5]) (fun t => t.service.reply = some ⟨0, 6, .ok, encodeGroup .default 5⟩) = true
    ∧ gives .unknownRequest (asking running [9, 0]) (fun t => t.service.reply = some ⟨0, 9, .badRequest, []⟩ ∧ t.line.slots.reply) = true := by
  decide +kernel

/-- R182: the three bits left over in group 7 and the one in group 5 are read as 0. -/
theorem test_left_over_bits_are_read_as_zero :
    (let s := { running with store := { running.store with configImage := List.replicate 64 255 } };
      gives .readSetting (asking s [6, 7, 1]) (fun t => t.service.reply = some ⟨0, 6, .ok, List.replicate 7 255 ++ [0xF8]⟩) = true
      ∧ gives .readSetting (asking s [6, 5, 1]) (fun t => t.service.reply = some ⟨0, 6, .ok, List.replicate 7 255 ++ [0xFE]⟩) = true) := by
  decide +kernel

/-- R187: a request delivered before the load had completed gets no reply. -/
theorem test_early_request_is_dropped :
    gives .readTracker (holding running { frame .request 0 [1, 2] with early := true })
      (fun t => t.service.reply = none ∧ t.line.bufferX = none ∧ !t.line.slots.reply) = true := by decide +kernel

/-- CYCLE_SYNC at `rpm`, cam I parked and rested. -/
def rested (rpm : Nat) : State :=
  { withCam running .i { state := .parked, parkedAt := some 4000000, rested := true } with
    trk := { tracking .cycleSync (some .a) 3 with rpm := rpm } }

theorem witness_LearnRunsAreStartedAndEvaluated :
    (∀ rpm ∈ [700, 3000], ((rested rpm).camOf .i).state = .parked ∧ ((rested rpm).camOf .i).rested = true
      ∧ (rested rpm).trk.state = .cycleSync ∧ (rested rpm).trk.adopted = false ∧ 700 ≤ (rested rpm).trk.rpm
      ∧ (rested rpm).trk.rpm ≤ (rested rpm).settings.rpmMaxLearn ∧ ((rested rpm).phmOf .i).status ≠ .learning)
    ∧ Asked (asking (rested 3000) [8, 0]) (frame .request 0 [1, 8, 0]) (some .learnPark)
    ∧ ¬(699 ≥ 700) ∧ Asked (asking (rested 699) [8, 0]) (frame .request 0 [1, 8, 0]) (some .learnPark)
    ∧ Asked (asking busy [8, 1]) (frame .request 0 [1, 8, 1]) (some .learnPark) ∧ (busy.phmOf .e).status = .learning
    ∧ Asked (asking busy [8, 2]) (frame .request 0 [1, 8, 2]) (some .learnPark) ∧ 1 < argument [1, 8, 2] 0
    ∧ ((List.replicate 31 (96 : Int)).length = 31
      ∧ (∀ x ∈ List.replicate 31 (96 : Int) ++ [96], ∀ y ∈ List.replicate 31 (96 : Int) ++ [96], x - y ≤ 16)
      ∧ (List.replicate 31 (96 : Int) ++ [96]).sum = 3072 ∧ 3072 < (List.replicate 31 (96 : Int) ++ [97]).sum) :=
  ⟨by decide +kernel, asked_of _ _ _ (by decide +kernel), by decide, asked_of _ _ _ (by decide +kernel),
    asked_of _ _ _ (by decide +kernel), by decide +kernel, asked_of _ _ _ (by decide +kernel), by decide, by decide +kernel⟩

theorem test_learn_park :
    gives .learnPark (asking (rested 3000) [8, 0]) (fun t => t.phm.i.status = .learning ∧ t.phm.i.runOrigin = some .requested) = true
    ∧ gives .learnPark (asking (rested 699) [8, 0]) (fun t => t.service.reply = some ⟨0, 8, .refused, []⟩) = true := by decide +kernel

/-- Cam I in FAULTED with COIL_SHORT_I and SUPPLY_LOW active. -/
def faulted : State := raised (raised (withCam running .i { state := .faulted }) (.coilShort .i)) .supplyLow

theorem witness_ClearConditionsReleasesFaultedCams :
    Asked (asking faulted [9]) (frame .request 0 [1, 9]) (some .clearConditions)
    ∧ faulted.active .lineStuck = false ∧ faulted.active (.coilShort .i) = true ∧ faulted.active .supplyLow = true
    ∧ (faulted.camOf .i).state = .faulted ∧ (faulted.camOf .e).state ≠ .faulted :=
  ⟨asked_of _ _ _ (by decide +kernel), by decide +kernel⟩

theorem test_clear_conditions :
    gives .clearConditions (asking faulted [9]) (fun t => t.camc.cams.i.state = .off ∧ t.mon.get (.coilShort .i) = ⟨false, true, 1⟩
      ∧ t.mon.get .supplyLow = ⟨true, true, 1⟩) = true := by decide +kernel

/-! ## Witnesses and small steps: store and power -/

/-- The part with these records dirty. -/
def dirtied (config i e : Bool) : State := { running with store := { running.store with configImage := [1], dirty := ⟨config, ⟨i, e⟩⟩ } }

/-- The bytes of a CAM-I record with its check. -/
def camCopy : List Byte := withCrc [5, 1, 1, 244, 0, 0]

/-- A write of CAM-I begun 8,000 ticks ago, with the fault marks as given. -/
def writing (fault : PerRec Bool) : State :=
  let s : State := { running with store := { running.store with inFlight := some ⟨.cam .i, camCopy, ⟨4992000, 8000⟩⟩, fault := fault } }
  if s.store.anyFault then raised s .storeFault else s

theorem witness_StoreWritesAreVerified :
    (∀ s ∈ [dirtied true true true, dirtied false true true, dirtied false false true],
      s.operating = true ∧ s.store.inFlight = none ∧ s.active .supplyLow = false)
    ∧ (dirtied true true true).store.dirty.config = true
    ∧ ((dirtied false true true).store.dirty.config = false ∧ (dirtied false true true).store.dirty.cams.get .i = true)
    ∧ ((dirtied false false true).store.dirty.cams.get .e = true ∧ (dirtied false false true).store.dirty.cams.i = false)
    ∧ (∀ f ∈ [(⟨false, .both false⟩ : PerRec Bool), ⟨false, ⟨true, false⟩⟩, ⟨true, ⟨true, false⟩⟩],
      (writing f).pwr.power = .run ∧ (writing f).store.inFlight = some ⟨.cam .i, camCopy, ⟨4992000, 8000⟩⟩
      ∧ 8000 ≤ elapsed (writing f).now 4992000 ∧ (writing f).active .storeFault = (writing f).store.anyFault)
    ∧ ([5, 1, 1, 244, 0, 0, 7, 6] : List Byte) ≠ camCopy := by decide +kernel

theorem test_store_writes :
    gives .storeWriteStart (dirtied true true true)
      (fun t => t.store.inFlight = some ⟨.config, withCrc [1], ⟨5000000, 40000⟩⟩ ∧ !t.store.dirty.config ∧ t.store.dirty.cams.i) = true
    ∧ gives (.storeWriteEnd [5, 1, 1, 244, 0, 0, 7, 6]) (writing ⟨false, .both false⟩)
      (fun t => t.store.verifyFails = 1 ∧ t.store.dirty.cams.i ∧ t.active .storeFault ∧ t.store.inFlight = none) = true := by
  decide +kernel

/-- R183: a verified write clears the record's fault mark, and STORE_FAULT with the last one. -/
theorem test_verified_write_clears_the_fault :
    gives (.storeWriteEnd camCopy) (writing ⟨false, ⟨true, false⟩⟩)
      (fun t => !t.store.fault.cams.i ∧ !t.active .storeFault ∧ t.store.completed = 1) = true
    ∧ gives (.storeWriteEnd camCopy) (writing ⟨true, ⟨true, false⟩⟩) (fun t => !t.store.fault.cams.i ∧ t.active .storeFault) = true := by
  decide +kernel

/-- R182: a CAM image is written with its spare bytes as 0. -/
theorem test_spare_bytes_are_written_as_zero :
    gives .storeWriteStart { dirtied false true false with
        store := { (dirtied false true false).store with camImages := ⟨[5, 1, 1, 244, 9, 9], []⟩ } }
      (fun t => t.store.inFlight = some ⟨.cam .i, camCopy, ⟨5000000, 8000⟩⟩) = true := by decide +kernel

/-- The store load at its end, with CAM-I as given. -/
def loading (camI : Stored) : State :=
  { inPower .loading with
    now := 6000
    pwr := { running.pwr with power := .loading, sequence := some ⟨4000, 2000⟩, crankMark := true }
    stored := { deliveredStore with cams := ⟨camI, .whole (withCrc (CamRecord.encode ⟨-96, true, 700⟩))⟩ } }

/-- The same with CONFIG as given and CAM-I part-written. -/
def loadingConfig (config : Stored) : State := { loading .torn with stored := { (loading .torn).stored with config := config } }

/-- CAM copies that fail: of another size, with another check, offset 97, a status bit above 1, hold duty 299 and 701. -/
def badCams : List Stored :=
  [.whole (withCrc [5, 1, 1, 244, 0]), .whole [5, 1, 1, 244, 0, 0, 0, 0], .whole (withCrc [97, 1, 1, 244, 0, 0]),
    .whole (withCrc [159, 1, 1, 244, 0, 0]), .whole (withCrc [5, 2, 1, 244, 0, 0]), .whole (withCrc [5, 1, 1, 43, 0, 0]),
    .whole (withCrc [5, 1, 2, 189, 0, 0])]

/-- CONFIG images whose settings fail a check of the load: equal temperature counts (R17), equal cam counts and windows that share
an angle (R48), A_MIN above A_MAX (R94), P_FULL at P_FLOOR (R118). -/
def badConfigs : List Settings :=
  [{ Settings.default with t2 := Settings.default.t1 },
    { Settings.default with cams := { Settings.default.cams with i := ⟨1280, 2720, 4160, 9920, 2, 2, 800⟩ } },
    { Settings.default with cams := { Settings.default.cams with i := ⟨1280, 2300, 4160, 9920, 3, 1, 800⟩ } },
    { Settings.default with aMin := 201, aMax := 200 },
    { Settings.default with pFloor := 200, pFull := 200 }]

theorem witness_StoreLoadTakesTheRecords :
    (∀ s ∈ [loading .torn, loadingConfig .torn], s.pwr.power = .loading ∧ s.pwr.sequence = some ⟨4000, 2000⟩
      ∧ 2000 ≤ elapsed s.now 4000 ∧ s.stored.cams.get .i = .torn)
    ∧ (loadingConfig .torn).stored.config = .torn
    ∧ (loading .torn).stored.config = .whole (withCrc (encodeSettings .default)) ∧ (encodeSettings .default).length = 64
    ∧ loadChecks (decodeSettings (encodeSettings .default)) = true
    ∧ (loading .torn).stored.cams.get .e = .whole (withCrc [160, 1, 2, 188, 0, 0])
    ∧ ((160 : Byte).toInt = -96 ∧ (96 : Byte).toInt = 96 ∧ (2 : Byte).toNat * 256 + (188 : Byte).toNat = 700
      ∧ (1 : Byte).toNat * 256 + (44 : Byte).toNat = 300) :=
  ⟨by decide +kernel, rfl, rfl, by decide +kernel, by rw [test_default_image.1]; exact test_load_checks.1, by decide +kernel,
    by decide⟩

theorem witness_StoreLoadTakesTheRecords_cams :
    (withCrc [5, 1, 1, 244, 0]).length ≠ 8 ∧ crcMatches [5, 1, 1, 244, 0, 0, 0, 0] = false ∧ crcMatches [5, 1, 1, 244, 0, 0, 0, 0, 0] = false
    ∧ (159 : Byte).toInt = -97 ∧ (97 : Byte).toInt = 97 ∧ 1 < (2 : Byte).toNat
    ∧ (1 : Byte).toNat * 256 + (43 : Byte).toNat = 299 ∧ (2 : Byte).toNat * 256 + (189 : Byte).toNat = 701 := by decide +kernel

theorem witness_StoreLoadTakesTheRecords_config :
    (∀ st ∈ badConfigs, (encodeSettings st).length = 64 ∧ decodeSettings (encodeSettings st) = st)
    ∧ (¬((badConfigs.getD 0 .default).tempTable.map TempPoint.count).Pairwise (fun a b => b < a))
    ∧ ((badConfigs.getD 1 .default).cams.get .i).nA = ((badConfigs.getD 1 .default).cams.get .i).nB
    ∧ (let k := (badConfigs.getD 2 .default).cams.get .i; k.refs[0]? = some 1280 ∧ k.refs[1]? = some 2300
      ∧ (window .i 1280).1 ≤ 1408 ∧ (1408 : Int) ≤ (window .i 1280).2 ∧ (window .i 2300).1 ≤ 1408 ∧ (1408 : Int) ≤ (window .i 2300).2)
    ∧ (badConfigs.getD 3 .default).aMax < (badConfigs.getD 3 .default).aMin
    ∧ (badConfigs.getD 4 .default).pFull ≤ (badConfigs.getD 4 .default).pFloor := by decide +kernel

theorem test_store_load :
    gives .storeLoadComplete (loadingConfig .torn) (fun t => t.pwr.power = .run ∧ t.phm.e.offset = -96 ∧ t.phm.e.status = .learned
      ∧ t.loop.e.marked = 700 ∧ t.store.dirty.cams.i ∧ t.active .storeFault ∧ t.settings = .default) = true := by decide +kernel

/-- R184: every failing CAM copy is taken at its defaults, dirty and faulty; one at the ends of its ranges is taken. -/
theorem test_failing_cam_records :
    (∀ b ∈ badCams, loadCam b = (CamRecord.default, [0, 0, 1, 244, 0, 0], true))
    ∧ loadCam (.whole (withCrc [96, 0, 1, 44, 3, 4])) = (⟨96, false, 300⟩, [96, 0, 1, 44, 3, 4], false) := by decide +kernel

/-- R17, R48, R94, R118: every failing CONFIG image fails the checks of the load. -/
theorem test_failing_config_images : ∀ st ∈ badConfigs, loadChecks st = false := by decide +kernel

/-- A timer of power control at its expiry. -/
def quieting (clean : Bool) : State :=
  { inPower .standby with
    pwr := { running.pwr with power := .standby, stopTimer := some ⟨1000000, 4000000⟩, quietTimer := some ⟨11777216, 10000000⟩ }
    store := { running.store with dirty := ⟨!clean, .both false⟩ } }

/-- A wake 400 ticks on. -/
def wakingUp : State := { inPower .waking with pwr := { running.pwr with power := .waking, wakeTicks := 400 } }

theorem witness_StandbyDozeAndWake :
    (let s := { quieting true with pwr := { (quieting true).pwr with power := .run } };
      s.pwr.power = .run ∧ s.pwr.stopTimer = some ⟨1000000, 4000000⟩ ∧ 4000000 ≤ elapsed s.now 1000000)
    ∧ (∀ b ∈ [true, false], (quieting b).pwr.power = .standby ∧ (quieting b).pwr.quietTimer = some ⟨11777216, 10000000⟩
      ∧ 10000000 ≤ elapsed (quieting b).now 11777216 ∧ (quieting b).store.clean = b ∧ (quieting b).line.sending = none
      ∧ (quieting b).line.aborting = false)
    ∧ (inPower .doze).pwr.power = .doze ∧ wakingUp.pwr.power = .waking ∧ 400 ≤ wakingUp.pwr.wakeTicks := by decide +kernel

theorem test_standby_and_doze :
    gives .stopTimer { quieting true with pwr := { (quieting true).pwr with power := .run } } (fun t => t.pwr.power = .standby) = true
    ∧ gives .quietTimer (quieting true) (fun t => t.pwr.power = .doze) = true
    ∧ gives .quietTimer (quieting false) (fun t => t.pwr.power = .standby ∧ t.pwr.quietMark) = true
    ∧ gives .wakeEdge (inPower .doze) (fun t => t.pwr.power = .waking) = true
    ∧ gives .wakeComplete wakingUp (fun t => t.pwr.power = .standby ∧ t.now = 0 ∧ t.scan.wakePasses = 16) = true := by decide +kernel

theorem witness_ResetAndStartSequence :
    (inPower .held).pwr.power = .held
    ∧ (let s := { State.reset with now := 4000 };
      s.pwr.power = .startDelay ∧ s.pwr.sequence = some ⟨0, 4000⟩ ∧ 4000 ≤ elapsed s.now 0) := by decide +kernel

theorem test_reset :
    gives (.reset .supplyDip) (writing ⟨false, .both false⟩) (fun t => t.stored.cams.i = .torn ∧ t.pwr.asserted = .supplyDip ∧ t.pwr.cause = .powerOn
      ∧ t.pwr.power = .held ∧ t.straps.station = 0) = true
    ∧ gives .resetRelease (after (.reset .supplyDip) (writing ⟨false, .both false⟩)) (fun t => t.pwr.cause = .supplyDip ∧ t.pwr.power = .startDelay) = true
    ∧ gives (.startDelayEnd ⟨3, 2, true, true⟩) { State.reset with now := 4000 }
      (fun t => t.own = 3 ∧ t.tb = 32 ∧ t.line.receiver = .waitIdle) = true
    ∧ gives (.startDelayEnd ⟨3, 2, true, true⟩) { State.reset with now := 3999 } (fun t => t.own = 0) = true := by decide +kernel

/-! ## Witnesses: whole chains -/

/-- Cam I in FOLLOW toward 400 in CYCLE_SYNC of half B, cam I's mark 3 in the FIFO. -/
def followingEdge : State :=
  { withCam (synced .cycleSync (some .b) 15 (.cam .i)) .i { state := .follow, commanded := 400, ramp := 390 } with
    camc := { running.camc with
      mode := .run, cold := false, cams := ⟨{ state := .follow, commanded := 400, ramp := 390 }, {}⟩ }
    phm := ⟨{ status := .learned, offset := 5 }, {}⟩
    loop := ⟨{ integral := 5120, lastUpdate := 4990000, first := false }, {}⟩
    shr := { running.shr with fAvail := 300 } }

/-- The measurement that edge makes. -/
def itsMeasurement : Measurement := { phase := 411, edge := 3, angle := 9504, raw := 416, time := 5000000 }

theorem witness_FollowUpdateRunsTheStages :
    (followingEdge.camOf .i).state = .follow ∧ (followingEdge.loopOf .i).first = false
    ∧ min 160 (elapsed 5000000 (followingEdge.loopOf .i).lastUpdate / 500) = 20 ∧ (followingEdge.camOf .i).stuck + 20 < 4000
    ∧ followingEdge.effectiveTarget .i = 400
    ∧ (followingEdge.operating = true ∧ followingEdge.cap.overflowPending = false ∧ followingEdge.cap.fifo = [⟨.cam .i, 5000000⟩]
      ∧ followingEdge.trk.state = .cycleSync ∧ followingEdge.trk.half = some .b ∧ followingEdge.trk.toothTime = some 4999700
      ∧ followingEdge.machineRuns .i = true ∧ (followingEdge.phmOf .i).status ≠ .learning
      ∧ followingEdge.phasingAllowed .i = true ∧ followingEdge.settings.parkBand < followingEdge.effectiveTarget .i
      ∧ identify .i (followingEdge.camSettings .i) (cycleAngle .b 15 (elapsed 5000000 4999700) 500) = some (3, 9920)
      ∧ rawDeviation .i 9920 (cycleAngle .b 15 (elapsed 5000000 4999700) 500) - 5 = itsMeasurement.phase
      ∧ -128 ≤ itsMeasurement.phase ∧ itsMeasurement.phase ≤ 928) := by decide +kernel

/-- The same with cam I at the end of a stuck time, and at its 4,000th settled quarter-millisecond with an error of 0 and hold duty
500, marked 496, its integral above a unit. -/
def stickingEdge (stuck : Nat) : State :=
  { withCam followingEdge .i { (followingEdge.camOf .i) with stuck := stuck, ramp := 0, commanded := 0 } with
    shr := { running.shr with fAvail := 500 } }

def settlingEdge (settled : Nat) : State :=
  { withCam followingEdge .i { (followingEdge.camOf .i) with ramp := 411, commanded := 411 } with
    loop := ⟨{ followingEdge.loop.i with settled := settled, hold := 500, marked := 496 }, {}⟩ }

theorem witness_FollowUpdateRunsTheStages_ends :
    (∀ s ∈ [stickingEdge 3979, stickingEdge 3980, settlingEdge 3979, settlingEdge 3980],
      (s.camOf .i).state = .follow ∧ s.machineRuns .i = true ∧ (s.loopOf .i).first = false)
    ∧ (stickingEdge 0).shr.fAvail = 500
    ∧ min 160 (elapsed itsMeasurement.time 4990000 / 500) = 20 ∧ 3979 + 20 < 4000 ∧ 4000 ≤ 3980 + 20
    ∧ (stickingEdge 0).active (.phaseStuck .i) = false
    ∧ ((withCam followingEdge .i { state := .parking }).camOf .i).state = .parking := by decide +kernel

/-- R90: 128 is no stuck deviation; past it, the 4,000th quarter-millisecond takes the cam to FAULTED. -/
theorem test_stuck_phase :
    ((stickingEdge 3980).loopUpdate .i itsMeasurement).camc.cams.i.state = .faulted
    ∧ ((stickingEdge 3980).loopUpdate .i itsMeasurement).active (.phaseStuck .i) = true
    ∧ ((stickingEdge 3979).loopUpdate .i itsMeasurement).camc.cams.i.stuck = 3999
    ∧ ((stickingEdge 3979).loopUpdate .i { itsMeasurement with phase := 128 }).camc.cams.i.stuck = 0 := by decide +kernel

/-- R112 to R114: the hold step at 4,000, its mark five units from the last, and the settled time carried over. -/
theorem test_hold_step_in_an_update :
    (let t := (settlingEdge 3985).loopUpdate .i itsMeasurement;
      t.loop.i.hold = 501 ∧ t.loop.i.integral = 4864 ∧ t.loop.i.settled = 5 ∧ t.loop.i.marked = 501 ∧ t.store.dirty.cams.i = true
      ∧ t.store.camImages.i = [5, 1, 1, 245, 0, 0])
    ∧ ((settlingEdge 3979).loopUpdate .i itsMeasurement).loop.i.settled = 3999
    ∧ ((settlingEdge 3979).loopUpdate .i { itsMeasurement with phase := 500 }).loop.i.settled = 0 := by decide +kernel

/-- R109: an update in PARKING drives toward phase 0, so e = -411, and moves no ramp. -/
theorem test_parking_update :
    (let t := (withCam followingEdge .i { state := .parking, commanded := 400 }).loopUpdate .i itsMeasurement;
      t.loop.i.lastError = -411 ∧ t.camc.cams.i.ramp = 0 ∧ t.loop.i.settled = 0 ∧ t.camc.cams.i.stuck = 0) := by decide +kernel

/-- The ramp moves 24 toward 400 and stops there (R79: 300 * 16 * 20 / 4000 = 24), so e = 400 - 411 = -11 and d = 11. -/
theorem test_follow_update :
    gives .takeCamEntry followingEdge (fun t => t.camc.cams.i.ramp = 400 ∧ t.loop.i.lastError = -11 ∧ t.shr.demand.i = 11
      ∧ t.loop.i.authority = 60 ∧ t.line.slots.share) = true := by decide +kernel

/-- CYCLE_SYNC with cam I's machine as given, the demand mode RUN and 600 commanded. -/
def reviewed (st : CamState) (commanded : Nat) (t0 : Option Time) : State :=
  { running with
    trk := tracking .cycleSync (some .b) 15
    camc := { running.camc with
      mode := .run, cold := false, cams := ⟨{ state := st, commanded := commanded, settleStart := t0 }, {}⟩ } }

theorem witness_ReviewsMoveTheCam :
    (∀ st ∈ [CamState.off, .parking, .parked, .release, .follow, .faulted], (reviewed st 600 none).machineRuns .i = true)
    ∧ ((reviewed .off 0 none).controllable .i = true ∧ (raised (reviewed .off 0 none) .supplyLow).controllable .i = false)
    ∧ ((reviewed .parking 0 none).releaseWanted .i = false ∧ (reviewed .parking 32 none).releaseWanted .i = false
      ∧ (reviewed .parking 33 none).releaseWanted .i = true ∧ (reviewed .parked 33 none).releaseWanted .i = true
      ∧ (reviewed .parked 32 none).releaseWanted .i = false)
    ∧ (running.settings.parkBand < (33 : Int).natAbs ∧ (-32 : Int).natAbs ≤ running.settings.parkBand)
    ∧ (400000 ≤ elapsed (5000000 : Time) 4600000 ∧ elapsed (5000000 : Time) 4600001 < 400000
      ∧ ((reviewed .parking 0 (some 4600000)).camOf .i).settleStart = some 4600000)
    ∧ ((reviewed .release 32 none).effectiveTarget .i ≤ running.settings.parkBand
      ∧ running.settings.parkBand < (reviewed .release 33 none).effectiveTarget .i
      ∧ (reviewed .follow 32 none).effectiveTarget .i ≤ running.settings.parkBand
      ∧ ((reviewed .parked 33 none).phmOf .i).statusBefore ≠ some .learning) := by decide +kernel

/-- The clauses spelled out: each test of R81 failing alone, the settle start first set at either edge of the band, the entry from OFF in
and outside it, FOLLOW kept, and machines that take no transition. -/
theorem witness_ReviewsMoveTheCam_tests :
    (let s := reviewed .off 0 none;
      s.trk.state = .cycleSync ∧ s.active (.camSignal .i) = false ∧ s.active .supplyLow = false ∧ s.camc.mode ≠ .park
      ∧ s.camc.loss ≠ .lossPark ∧ s.settings.rpmMinPhase ≤ s.trk.rpm)
    ∧ (raised (reviewed .off 0 none) (.camSignal .i)).active (.camSignal .i) = true
    ∧ ((reviewed .parking 0 none).camOf .i).settleStart = none
    ∧ (reviewed .follow 33 none).releaseWanted .i = true ∧ (reviewed .follow 32 none).phasingAllowed .i = true
    ∧ (let s := { reviewed .follow 600 none with trk := { tracking .cycleSync (some .b) 15 with rpm := 999 } };
      s.phasingAllowed .i = false ∧ s.trk.rpm < s.settings.rpmMinPhase)
    ∧ (reviewed .parking 33 none).trk.rpm = (reviewed .parking 33 none).settings.rpmMinPhase
    ∧ ({ reviewed .parking 600 none with straps := ⟨0, 1, true, true⟩ } : State).machineRuns .i = false
    ∧ oneCam.machineRuns .e = false := by decide +kernel

/-- R77: the limits in their order, from a commanded target of 600. -/
theorem test_effective_target :
    (let s := reviewed .follow 600 none;
      s.effectiveTarget .i = 480
      ∧ ({ s with phm := ⟨{ status := .learned }, {}⟩ } : State).effectiveTarget .i = 600
      ∧ ({ s with camc := { s.camc with cold := true } } : State).effectiveTarget .i = 240
      ∧ ({ s with trk := { s.trk with rpm := 999 } } : State).effectiveTarget .i = 0
      ∧ ({ s with camc := { s.camc with mode := .park } } : State).effectiveTarget .i = 0
      ∧ ({ s with camc := { s.camc with loss := .lossPark } } : State).effectiveTarget .i = 0
      ∧ ({ s with camc := { s.camc with mode := .hold, loss := .lossHold } } : State).effectiveTarget .i = 480) := by decide +kernel

/-- R83, R84, R87: the settle start is first set by a measurement in the band, that of the entry too; FOLLOW keeps the cam. -/
theorem test_settle_start :
    (((reviewed .parking 0 none).review .i (some { itsMeasurement with phase := -32 })).camOf .i).settleStart = some itsMeasurement.time
    ∧ (((reviewed .off 0 none).review .i (some { itsMeasurement with phase := 32 })).camOf .i).settleStart = some itsMeasurement.time
    ∧ (((reviewed .off 0 none).review .i (some { itsMeasurement with phase := 33 })).camOf .i).settleStart = none
    ∧ ((reviewed .follow 33 none).review .i (some itsMeasurement)).camOf .i = (reviewed .follow 33 none).camOf .i
    ∧ ((reviewed .follow 33 none).review .i (some itsMeasurement)).drv.i = (reviewed .follow 33 none).drv.i := by decide +kernel

theorem test_reviews :
    (((reviewed .parked 33 none).review .i none).camOf .i).state = .release
    ∧ ((reviewed .parked 33 none).review .i none).drv.i.pending = 580
    ∧ (((reviewed .parking 0 (some 4600000)).review .i (some itsMeasurement)).camOf .i).state = .parking
    ∧ (((reviewed .parking 0 (some 4600000)).review .i (some { itsMeasurement with phase := -32 })).camOf .i).state = .parked := by
  decide +kernel

/-! ## The queue and the words -/

theorem test_queue_is_first_in_first_out :
    Sys2Proof.Machine.step { running with pending := [.crankEdge, .wakeEdge] }
      = Sys2Proof.Machine.exec .crankEdge { running with pending := [.wakeEdge] } := rfl

theorem test_due_timer_queues_its_command :
    (stepped timed).pending = [.shareTimer, .listenExpiry, .statusTimer] ∧ (stepped timed).now = 5000000
    ∧ (stepped running).now = 5000001 := by decide +kernel

theorem test_no_word_spells_a_command : decodeTableWord 8 5 = none ∧ running.withFetchWord 8 5 = running := ⟨rfl, rfl⟩

end Sys2Proof.Tests
end

section
/-!
The temperature table (R16): which segment of a falling table a count is looked up in, and what the line of that segment gives.
-/

namespace Sys2Proof.Machine

theorem State.temperature_of_full_window {s : State} (full : s.scan.temperature.length = 8)
    (sensor : s.active .tempSensor = false) :
    s.temperature = tempOfCount s.settings (s.scan.temperature.sum / 8) :=
  if_pos ⟨full, sensor⟩

/-- The check of R17 as an order on the points themselves. -/
theorem tempTableOk_iff_falling (st : Settings) :
    tempTableOk st = true ↔ st.tempTable.Pairwise (fun p q => q.count < p.count) := by
  simp only [tempTableOk, decide_eq_true_eq, List.pairwise_map]

theorem last_count_lt_first_count {st : Settings} (ok : tempTableOk st = true) : st.t8.count < st.t1.count :=
  List.rel_of_pairwise_cons ((tempTableOk_iff_falling st).mp ok) (by simp)

/-! What `tempOfCount` answers: an end value beyond an end of the table, a segment's value inside it. -/

theorem tempOfCount_of_first_count_le {st : Settings} {m : Nat} (h : st.t1.count ≤ m) : tempOfCount st m = st.t1.temp :=
  if_pos h

theorem tempOfCount_of_le_last_count {st : Settings} {m : Nat} (ok : tempTableOk st = true) (h : m ≤ st.t8.count) :
    tempOfCount st m = st.t8.temp := by
  have below_first : ¬st.t1.count ≤ m := by have := last_count_lt_first_count ok; omega
  simp only [tempOfCount, if_neg below_first, if_pos h]

theorem tempOfCount_of_between {st : Settings} {m : Nat} (first : m < st.t1.count) (last : st.t8.count < m) :
    tempOfCount st m = segmentTemp st.tempTable m := by
  simp only [tempOfCount, if_neg first.not_ge, if_neg last.not_ge]

/-! What `segmentTemp` answers on the first segment, and where it goes on to the next. -/

/-- On a segment whose counts fall the divisor is positive, so the model's quotient is the floor. -/
theorem segmentTemp_first {p q : TempPoint} {m : Nat} (rest : List TempPoint) (upper : m ≤ p.count) (lower : q.count < m) :
    segmentTemp (p :: q :: rest) m
      = p.temp + Int.fdiv (((p.count : Int) - m) * (q.temp - p.temp)) ((p.count : Int) - q.count) := by
  have divisor_nonneg : (0 : Int) ≤ (p.count : Int) - q.count := by omega
  rw [segmentTemp, if_pos lower, Int.fdiv_eq_ediv_of_nonneg _ divisor_nonneg]

theorem segmentTemp_next (p : TempPoint) {q : TempPoint} {m : Nat} (rest : List TempPoint) (h : m ≤ q.count) :
    segmentTemp (p :: q :: rest) m = segmentTemp (q :: rest) m := by
  rw [segmentTemp, if_neg h.not_gt]

/-- In a falling table the segment found for a count is the one whose points lie about it: the search passes over each
earlier segment, because its lower point has at least the count of the upper point sought. -/
theorem segmentTemp_of_falling {p q : TempPoint} {m : Nat} (upper : m ≤ p.count) (lower : q.count < m)
    (points : List TempPoint) (falling : points.Pairwise (fun p q => q.count < p.count)) (i : Nat)
    (hp : points[i]? = some p) (hq : points[i + 1]? = some q) :
    segmentTemp points m
      = p.temp + Int.fdiv (((p.count : Int) - m) * (q.temp - p.temp)) ((p.count : Int) - q.count) := by
  induction points generalizing i with
  | nil => simp at hp
  | cons a tail ih =>
    cases tail with
    | nil => simp at hq
    | cons b rest =>
      cases i with
      | zero =>
        obtain rfl : a = p := by simpa using hp
        obtain rfl : b = q := by simpa using hq
        exact segmentTemp_first rest upper lower
      | succ j =>
        have tail_falling := falling.of_cons
        have hp' : (b :: rest)[j]? = some p := by simpa using hp
        have hq' : (b :: rest)[j + 1]? = some q := by simpa using hq
        have p_le_b : p.count ≤ b.count := by
          rcases List.mem_cons.mp (List.mem_of_getElem? hp') with rfl | in_rest
          · exact le_rfl
          · exact (List.rel_of_pairwise_cons tail_falling in_rest).le
        rw [segmentTemp_next a rest (upper.trans p_le_b)]
        exact ih tail_falling j hp' hq'

/-- Settles O22: the segment of a falling table is found by `segmentTemp_of_falling`; the ends and the window are the cases of
the definitions. -/
theorem temperatureFollowsTheTable : Obligations.TemperatureFollowsTheTable := by
  unfold Obligations.TemperatureFollowsTheTable
  refine ⟨fun s full sensor => State.temperature_of_full_window full sensor, fun st m ok => ⟨?_, ?_, ?_⟩⟩
  · exact tempOfCount_of_first_count_le
  · exact tempOfCount_of_le_last_count ok
  · intro i p q hp hq first last upper lower
    rw [tempOfCount_of_between first last]
    exact segmentTemp_of_falling upper lower st.tempTable ((tempTableOk_iff_falling st).mp ok) i hp hq

end Sys2Proof.Machine
end

section
/-!
The hold step (R113): what it answers in each of its three cases, and that a unit of 256 taken off one part of the hold point
is the 1 ‰ the other part gains.
-/

namespace Sys2Proof.Machine

theorem Loop.holdStep_of_raise {k : Loop} (unit : 256 ≤ k.integral) (room : k.hold < 700) :
    k.holdStep =
      { k with holdSteps := satInc 65535 k.holdSteps, hold := k.hold + 1, integral := k.integral - 256 } :=
  if_pos ⟨unit, room⟩

theorem Loop.holdStep_of_lower {k : Loop} (unit : k.integral ≤ -256) (room : 300 < k.hold) :
    k.holdStep =
      { k with holdSteps := satInc 65535 k.holdSteps, hold := k.hold - 1, integral := k.integral + 256 } := by
  have not_raised : ¬(256 ≤ k.integral ∧ k.hold < 700) := by omega
  simp only [Loop.holdStep, if_neg not_raised, if_pos (And.intro unit room)]

theorem Loop.holdStep_of_neither {k : Loop} (not_raised : ¬(256 ≤ k.integral ∧ k.hold < 700))
    (not_lowered : ¬(k.integral ≤ -256 ∧ 300 < k.hold)) :
    k.holdStep = { k with holdSteps := satInc 65535 k.holdSteps } := by
  simp only [Loop.holdStep, if_neg not_raised, if_neg not_lowered]

@[simp] theorem Loop.holdStep_holdSteps (k : Loop) : k.holdStep.holdSteps = satInc 65535 k.holdSteps := by
  simp only [Loop.holdStep]
  split_ifs <;> rfl

/-! The truncated quotient loses exactly one with the unit only where taking the unit off does not cross zero. -/

theorem tdiv_sub_unit {i : Int} (unit : 256 ≤ i) : (i - 256).tdiv 256 = i.tdiv 256 - 1 := by
  have before_nonneg : 0 ≤ i := by omega
  have after_nonneg : 0 ≤ i - 256 := by omega
  rw [Int.tdiv_eq_ediv_of_nonneg before_nonneg, Int.tdiv_eq_ediv_of_nonneg after_nonneg]
  omega

theorem tdiv_add_unit {i : Int} (unit : i ≤ -256) : (i + 256).tdiv 256 = i.tdiv 256 + 1 := by
  have mirrored : (-i - 256).tdiv 256 = (-i).tdiv 256 - 1 := tdiv_sub_unit (by omega)
  rw [show -i - 256 = -(i + 256) by ring, Int.neg_tdiv, Int.neg_tdiv] at mirrored
  omega

theorem holdPoint_unit_into_hold (hold : Nat) {i : Int} (unit : 256 ≤ i) :
    holdPoint (hold + 1) (i - 256) = holdPoint hold i := by
  rw [holdPoint, holdPoint, tdiv_sub_unit unit]
  omega

theorem holdPoint_unit_out_of_hold {hold : Nat} (hold_pos : 0 < hold) {i : Int} (unit : i ≤ -256) :
    holdPoint (hold - 1) (i + 256) = holdPoint hold i := by
  rw [holdPoint, holdPoint, tdiv_add_unit unit]
  omega

theorem Loop.holdStep_keeps_holdPoint (k : Loop) :
    holdPoint k.holdStep.hold k.holdStep.integral = holdPoint k.hold k.integral := by
  by_cases raised : 256 ≤ k.integral ∧ k.hold < 700
  · obtain ⟨unit, room⟩ := raised
    rw [Loop.holdStep_of_raise unit room]
    exact holdPoint_unit_into_hold k.hold unit
  · by_cases lowered : k.integral ≤ -256 ∧ 300 < k.hold
    · obtain ⟨unit, room⟩ := lowered
      rw [Loop.holdStep_of_lower unit room]
      exact holdPoint_unit_out_of_hold (Nat.zero_lt_of_lt room) unit
    · rw [Loop.holdStep_of_neither raised lowered]

/-- Settles O26: the three cases are the equations of `Loop.holdStep`, and the hold point stays by
`Loop.holdStep_keeps_holdPoint`. -/
theorem holdStepKeepsTheHoldPoint : Obligations.HoldStepKeepsTheHoldPoint := by
  unfold Obligations.HoldStepKeepsTheHoldPoint
  refine fun k => ⟨fun unit room => ?_, fun unit room => ?_, fun not_raised not_lowered => ?_, k.holdStep_holdSteps,
    k.holdStep_keeps_holdPoint⟩
  · rw [Loop.holdStep_of_raise unit room]
    exact ⟨rfl, rfl⟩
  · rw [Loop.holdStep_of_lower unit room]
    exact ⟨rfl, rfl⟩
  · rw [Loop.holdStep_of_neither not_raised not_lowered]
    exact ⟨rfl, rfl⟩

end Sys2Proof.Machine
end

section
/-!
The grants (R124, R125): both are floors of a proportional share, so the station grant is at most the station demand, a cam's
grant is at most its demand, and the two cams' grants together are at most the station grant.
-/

namespace Sys2Proof.Machine

/-- Where the flow is short of the total demand, the factor F_avail / D_total is at most 1. -/
theorem Shr.stationGrant_le_stationDemand (r : Shr) : r.stationGrant ≤ r.stationDemand := by
  unfold Shr.stationGrant
  split_ifs with no_demand enough
  · exact Nat.zero_le _
  · exact le_rfl
  · exact Nat.div_le_of_le_mul (Nat.mul_le_mul_right _ (Nat.le_of_not_le enough))

theorem Shr.camGrant_of_stationDemand_eq_zero {r : Shr} (c : Cam) (h : r.stationDemand = 0) : r.camGrant c = 0 :=
  if_pos h

/-- The floor of R125 needs no case: where the station demand is 0, Lean's quotient is 0 as the rule asks. -/
theorem Shr.camGrant_eq_div (r : Shr) (c : Cam) :
    r.camGrant c = r.stationGrant * r.demand.get c / r.stationDemand := by
  unfold Shr.camGrant
  split_ifs with no_demand
  · rw [no_demand, Nat.div_zero]
  · rfl

theorem Shr.camGrant_le_demand (r : Shr) (c : Cam) : r.camGrant c ≤ r.demand.get c := by
  rw [r.camGrant_eq_div]
  exact Nat.div_le_of_le_mul (Nat.mul_le_mul_right _ r.stationGrant_le_stationDemand)

theorem Shr.camGrant_of_demand_eq_zero {r : Shr} {c : Cam} (h : r.demand.get c = 0) : r.camGrant c = 0 :=
  Nat.eq_zero_of_le_zero (h ▸ r.camGrant_le_demand c)

theorem Shr.demand_le_stationDemand (r : Shr) (c : Cam) : r.demand.get c ≤ r.stationDemand := by
  cases c
  · exact Nat.le_add_right _ _
  · exact Nat.le_add_left _ _

theorem Shr.camGrant_of_grant_met {r : Shr} (c : Cam) (met : r.stationGrant = r.stationDemand) :
    r.camGrant c = r.demand.get c := by
  rcases Nat.eq_zero_or_pos r.stationDemand with none_asked | asked
  · have no_demand : r.demand.get c = 0 := Nat.eq_zero_of_le_zero (none_asked ▸ r.demand_le_stationDemand c)
    rw [no_demand, Shr.camGrant_of_demand_eq_zero no_demand]
  · rw [r.camGrant_eq_div, met, Nat.mul_div_cancel_left _ asked]

/-- Two floors are at most the floor of the sum, and the two cams' shares sum to the whole station grant. -/
theorem Shr.camGrant_add_le_stationGrant (r : Shr) : r.camGrant .i + r.camGrant .e ≤ r.stationGrant :=
  calc r.camGrant .i + r.camGrant .e
      = r.stationGrant * r.demand.i / r.stationDemand + r.stationGrant * r.demand.e / r.stationDemand := by
        rw [r.camGrant_eq_div, r.camGrant_eq_div]; rfl
    _ ≤ (r.stationGrant * r.demand.i + r.stationGrant * r.demand.e) / r.stationDemand := Nat.div_add_div_le_add_div
    _ = r.stationGrant * r.stationDemand / r.stationDemand := by rw [← Nat.mul_add]; rfl
    _ ≤ r.stationGrant := Nat.div_le_of_le_mul (Nat.mul_comm _ _).le

theorem authority_of_no_demand (st : Settings) (g f : Nat) : authority st 0 g f = 0 := if_pos (.inl rfl)

/-- Settles O24: the quotient is R125's own, and its bounds are those of a share of a grant that is at most the demand
(`Shr.stationGrant_le_stationDemand`). -/
theorem camGrantIsTheCamsShare : Obligations.CamGrantIsTheCamsShare := by
  unfold Obligations.CamGrantIsTheCamsShare
  refine fun r c st => ⟨fun _ => r.camGrant_eq_div c, Shr.camGrant_of_stationDemand_eq_zero c, r.camGrant_le_demand c,
    Shr.camGrant_of_grant_met c, r.camGrant_add_le_stationGrant, fun no_demand => ⟨?_, ?_⟩⟩
  · exact Shr.camGrant_of_demand_eq_zero no_demand
  · rw [no_demand]
    exact authority_of_no_demand st _ _

end Sys2Proof.Machine
end

section
/-!
The CRC's register by one bit and by one byte, as R164 says it.
-/

namespace Sys2Proof.Machine

/-- R164's comparison names the top bit, bit 15, and tells equal from unequal where the model asks whether they differ. -/
theorem crcBit_eq_ite (reg : BitVec 16) (bit : Bool) :
    crcBit reg bit = if reg.getLsbD 15 = bit then reg <<< 1 else (reg <<< 1) ^^^ 0x1021#16 := by
  unfold crcBit
  rw [BitVec.msb_eq_getLsbD_last]
  simp only [bne_iff_ne, ne_eq, ite_not]

/-- The order of a byte's bits, most significant first, is that of the list. -/
theorem crcByte_eq_foldl_crcBit (reg : BitVec 16) (b : Byte) :
    crcByte reg b = [b.getLsbD 7, b.getLsbD 6, b.getLsbD 5, b.getLsbD 4, b.getLsbD 3, b.getLsbD 2, b.getLsbD 1,
      b.getLsbD 0].foldl crcBit reg := rfl

@[simp] theorem crc16_nil : crc16 [] = 0xFFFF#16 := rfl

theorem crc16_concat (bytes : List Byte) (b : Byte) : crc16 (bytes ++ [b]) = crcByte (crc16 bytes) b :=
  List.foldl_concat crcByte _ b bytes

/-- R164's check of an implementation: the register after the characters 1 to 9. -/
theorem crc16_digits :
    crc16 [0x31#8, 0x32#8, 0x33#8, 0x34#8, 0x35#8, 0x36#8, 0x37#8, 0x38#8, 0x39#8] = 0x29B1#16 := by
  decide +kernel

/-- Settles O17: a covered byte takes its eight bits through the register (`crc16_concat`, `crcByte_eq_foldl_crcBit`), each as
R164 says (`crcBit_eq_ite`). -/
theorem crcIsFormedBitByBit : Obligations.CrcIsFormedBitByBit := by
  unfold Obligations.CrcIsFormedBitByBit
  refine ⟨crc16_nil, fun bytes b => ?_, crc16_digits, fun _ => rfl⟩
  have bit_rule := funext fun reg => funext (crcBit_eq_ite reg)
  rw [crc16_concat, crcByte_eq_foldl_crcBit, bit_rule]

end Sys2Proof.Machine
end

section
/-!
The presented condition (R175): the search of `Mon.presented` finds the first live record, the records stand in the order of
R181's codes, and each operation on a condition writes that condition's record alone.
-/

namespace Sys2Proof.Machine

/-! ## The search for the lowest live code -/

theorem CondRecord.live_iff (r : CondRecord) : r.live = true ↔ r.active = true ∨ r.pending = true :=
  Bool.or_eq_true_iff

/-- The place of the lowest live code. -/
def Mon.firstLive (m : Mon) : Option (Fin 20) := Fin.find? fun k => (m.records.get k).live

theorem Mon.firstLive_eq_none_iff (m : Mon) :
    m.firstLive = none ↔ ∀ k : Fin 20, (m.records.get k).live = false :=
  Fin.find?_eq_none_iff

theorem Mon.firstLive_eq_some_iff (m : Mon) (k : Fin 20) :
    m.firstLive = some k ↔
      (m.records.get k).live = true ∧ ∀ j : Fin 20, j < k → (m.records.get j).live = false :=
  Fin.find?_eq_some_iff

theorem Mon.presented_eq_elim_firstLive (m : Mon) : m.presented = m.firstLive.elim 0 (fun k => k.val + 1) := by
  rw [Mon.presented, Mon.firstLive, Fin.find?_eq_find?_finRange]
  split <;> simp_all only [Option.elim]

theorem Mon.presented_eq_zero_iff_firstLive (m : Mon) : m.presented = 0 ↔ m.firstLive = none := by
  rw [m.presented_eq_elim_firstLive]
  cases m.firstLive with
  | none => simp
  | some first => simp

theorem Mon.presented_eq_succ_iff_firstLive (m : Mon) (k : Fin 20) :
    m.presented = k.val + 1 ↔ m.firstLive = some k := by
  rw [m.presented_eq_elim_firstLive]
  cases m.firstLive with
  | none => simp
  | some first => simp [Fin.ext_iff]

/-! ## The order of the codes -/

/-- The twenty conditions in the order of R181's codes. -/
def Cond.byCode : List Cond :=
  [.coilShort .i, .coilShort .e, .openLoad .i, .openLoad .e, .supplyLow, .phaseStuck .i, .phaseStuck .e, .demandLost,
    .syncLoss, .camPattern, .camSignal .i, .camSignal .e, .pressureSensor, .tempSensor, .lineStuck, .stationClash, .peerLost,
    .cycleDisagree, .learnFailed, .storeFault]

theorem Cond.map_idx_byCode : Cond.byCode.map Cond.idx = List.finRange 20 := by decide

theorem Mon.records_toList (m : Mon) : m.records.toList = (List.finRange 20).map m.records.get :=
  calc m.records.toList = (Vector.ofFn m.records.get).toList := congrArg Vector.toList Vector.ofFn_getElem.symm
    _ = (List.finRange 20).map m.records.get := by rw [Vector.toList_ofFn, List.ofFn_eq_map]

theorem Mon.map_get_byCode (m : Mon) : Cond.byCode.map m.get = m.records.toList := by
  rw [m.records_toList, ← Cond.map_idx_byCode, List.map_map]
  rfl

/-! ## What the operations write -/

theorem State.activate_get (s : State) (k : Cond) :
    (s.activate k).mon.get k = if (s.mon.get k).active = true then s.mon.get k
      else ⟨true, true, min 255 ((s.mon.get k).count + 1)⟩ := by
  rw [State.activate_mon, State.active]
  split_ifs
  · rfl
  · exact Mon.get_put _ _ _

theorem State.raiseEvent_get (s : State) (k : Cond) :
    (s.raiseEvent k).mon.get k =
      { s.mon.get k with pending := true, count := min 255 ((s.mon.get k).count + 1) } := by
  rw [State.raiseEvent_mon, Mon.get_put, satInc]

/-- Settles O27: `Mon.presented` is the place of the first live record plus 1 (`Mon.firstLive`), `State.changeMon_line` gives the
line, and what an operation writes is its record lemma and its frame (`State.activate_get_ne` and its fellows). -/
theorem presentedCodeIsTheLowest : Obligations.PresentedCodeIsTheLowest := by
  unfold Obligations.PresentedCodeIsTheLowest
  refine ⟨fun m => ⟨?zero, fun k => ?code⟩, fun s f => ⟨s.changeMon_mon f, fun changed => ?queued, fun unchanged => ?kept,
    CondRecord.live_iff, s.mon.map_get_byCode, fun k => ⟨s.activate_get k, s.deactivate_get k, s.raiseEvent_get k,
      fun j other => ⟨s.activate_get_ne j k other, s.deactivate_get_ne j k other, s.raiseEvent_get_ne j k other⟩⟩⟩⟩
  case zero => exact m.presented_eq_zero_iff_firstLive.trans m.firstLive_eq_none_iff
  case code => exact (m.presented_eq_succ_iff_firstLive k).trans (m.firstLive_eq_some_iff k)
  case queued => rw [State.changeMon_line, if_neg changed]
  case kept => rw [State.changeMon_line, if_pos unchanged]

end Sys2Proof.Machine
end

section
/-!
What a step can do, said once. `Effect s c t` says that command `c` may lead from `s` to `t`: nothing where its condition does not
hold, else the one operation of its meaning. `step_keeps` packages the induction over steps: an invariant has to survive a change of
the queue, each effect, a tick of the clock and the entry to DOZE.
-/

set_option Elab.async false

namespace Sys2Proof.Machine

/-- The effects of the commands, one constructor for each meaning under its condition. -/
inductive Effect (s : State) : Instr → State → Prop
  | nothing (c : Instr) : Effect s c s
  | crankEdge (on : s.sensing = true) : Effect s .crankEdge s.crankEdge
  | camEdge (c : Cam) (on : s.sensing = true) : Effect s (.camEdge c) (s.camEdge c)
  | crankFilterForget (due : forgetDue s.cap.crankLast s.now = true) :
      Effect s .crankFilterForget (s.withCap (fun k => { k with crankLast := none, pLast := none }))
  | camFilterForget (c : Cam) (due : forgetDue (s.cap.camLast.get c) s.now = true) :
      Effect s (.camFilterForget c) (s.withCap (fun k => { k with camLast := k.camLast.set c none }))
  | takeCrankEntry (t : Time) (head : s.headEntry = some ⟨.crank, t⟩) : Effect s .takeCrankEntry (s.takeHead.crankEntry t)
  | takeCamEntry (c : Cam) (t : Time) (head : s.headEntry = some ⟨.cam c, t⟩) :
      Effect s .takeCamEntry (s.takeHead.camEntry c t)
  | takeOverflowMarker (t : Time) (head : s.headEntry = some ⟨.overflow, t⟩) :
      Effect s .takeOverflowMarker (s.takeHead.overflowMarker t)
  | stallTimeout (due : s.stallDue = true) : Effect s .stallTimeout s.enterStopped
  | cycleReport (r : Received) (waits : s.waiting .sync = some r) :
      Effect s .cycleReport (s.freeOldest.takeReport r.frame.station r.frame.payload)
  | coilCurrentConversion (c : Cam) (count : BitVec 12) (due : s.converts (.coil c) = true) :
      Effect s (.coilCurrentConversion c count) ((s.addCoil c count.toNat).nextConversion (afterCoil c))
  | supplyConversion (count : BitVec 12) (due : s.converts .supply = true) :
      Effect s (.supplyConversion count)
        (((s.withScan (fun k => { k with supply := pushCount 8 k.supply count.toNat })).handSupply).nextConversion .pressure)
  | pressureDiscarded (count : BitVec 12) (due : s.converts .pressure = true) (absent : s.straps.psf = false) :
      Effect s (.pressureConversion count) (s.nextConversion .temperature)
  | pressureConversion (count : BitVec 12) (due : s.converts .pressure = true) (fitted : s.straps.psf = true) :
      Effect s (.pressureConversion count) ((s.pressureCount count.toNat).nextConversion .temperature)
  | temperatureConversion (count : BitVec 12) (due : s.converts .temperature = true) :
      Effect s (.temperatureConversion count) ((s.temperatureCount count.toNat).handTemperature).endPass
  | scanPassStart (due : s.passDue = true) : Effect s .scanPassStart (s.withScan (·.startPass s.now))
  | demandFrame (w : Received) (waits : s.waiting .demand = some w) : Effect s .demandFrame (s.freeOldest.takeDemand w)
  | demandTimeout (due : s.demandTimeoutDue = true) : Effect s .demandTimeout s.demandExpiry
  | holdExpiry (due : s.holdDue = true) : Effect s .holdExpiry s.toLossPark
  | releaseExpiry (c : Cam) (due : s.releaseDue c = true) : Effect s (.releaseExpiry c) (s.enterCam c .follow s.now)
  | restedMark (c : Cam) (due : s.restedDue c = true) : Effect s (.restedMark c) (s.onCam c (fun k => { k with rested := true }))
  | shareFrame (r : Received) (waits : s.waiting .share = some r) : Effect s .shareFrame (s.freeOldest.fileShare r)
  | shareTimer (due : s.shareTimerDue = true) : Effect s .shareTimer s.shareTimer
  | peerStale (n : Fin 8) (due : s.staleDue n.val = true) : Effect s (.peerStale n) (s.staleExpiry n.val)
  | peerDelete (n : Fin 8) (due : s.deleteDue n.val = true) : Effect s (.peerDelete n) (s.deleteExpiry n.val)
  | periodBoundary (c : Cam) (due : s.boundaryDue c = true) : Effect s (.periodBoundary c) ((s.closePeriod c).openPeriod c)
  | onTimeEnd (c : Cam) (due : s.onTimeOver c = true) : Effect s (.onTimeEnd c) (s.onDrv c (fun d => { d with output := false }))
  | currentTrip (c : Cam) (milliamps : Nat) (on : (s.drvOf c).output = true) (past : tripMilliamps s.settings < milliamps) :
      Effect s (.currentTrip c milliamps) (s.onDrv c Drv.trip)
  | supplyLowExpiry (due : dueAt s.supply.lowExpiry s.now = true) : Effect s .supplyLowExpiry s.supplyLowExpiry
  | supplyRecoveryExpiry (due : dueAt s.supply.recoveryExpiry s.now = true) :
      Effect s .supplyRecoveryExpiry ((s.withSupply (fun k => { k with recoveryExpiry := none })).deactivate .supplyLow)
  | framingError (due : s.framingDue = true) : Effect s .framingError s.framingError.dozeCheck
  | lineIdle (due : s.idleReached = true) : Effect s .lineIdle s.lineIdle
  | lineHeld (due : s.holdReached = true) : Effect s .lineHeld s.lineHeld
  | frameReceived (bytes : List Byte) (due : s.receives bytes = true) : Effect s (.frameReceived bytes) (s.completeFrame bytes)
  | transmitStart (k : Slot) (due : s.transmits = some k) : Effect s .transmitStart (s.startTransmission k)
  | arbitrationLoss (x : Transmission) (due : s.arbitrationLost = some x) :
      Effect s .arbitrationLoss (s.loseArbitration x).dozeCheck
  | bitError (due : s.bitErrorSampled = true) : Effect s .bitError s.bitError
  | transmitComplete (x : Transmission) (due : s.lastBit = some x) :
      Effect s .transmitComplete (s.completeTransmission x).dozeCheck
  | listenEnds (due : dueAt s.pwr.listenTimer s.now = true) (number : s.own = 0) :
      Effect s .listenExpiry (s.withPwr (fun p => { p with listenTimer := none }))
  | listenExpiry (due : dueAt s.pwr.listenTimer s.now = true) (number : s.own ≠ 0) :
      Effect s .listenExpiry
        (((s.withPwr (fun p => { p with listenTimer := none })).withLine (fun l => { l with life := .active })).queue .status)
  | statusTimer (due : s.statusTimerDue = true) :
      Effect s .statusTimer ((s.withMon (fun m => { m with statusTimer := m.statusTimer.map Timer.again })).queue .status)
  | unserved (c : Instr) (w : Received) (r : Option Request) (asked : s.request r = some w) (refused : s.serves w = false) :
      Effect s c s.freeOldest
  | readCam (w : Received) (asked : s.request (some .readCam) = some w) (served : s.serves w = true) :
      Effect s .readCam (s.freeOldest.readCam w.frame)
  | readTracker (w : Received) (asked : s.request (some .readTracker) = some w) (served : s.serves w = true) :
      Effect s .readTracker (s.freeOldest.readTracker w.frame)
  | readPeer (w : Received) (asked : s.request (some .readPeer) = some w) (served : s.serves w = true) :
      Effect s .readPeer (s.freeOldest.readPeer w.frame)
  | readCondition (w : Received) (asked : s.request (some .readCondition) = some w) (served : s.serves w = true) :
      Effect s .readCondition (s.freeOldest.readCondition w.frame)
  | readCounters (w : Received) (asked : s.request (some .readCounters) = some w) (served : s.serves w = true) :
      Effect s .readCounters (s.freeOldest.readCounters w.frame)
  | readSetting (w : Received) (asked : s.request (some .readSetting) = some w) (served : s.serves w = true) :
      Effect s .readSetting (s.freeOldest.readSetting w.frame)
  | writeSetting (w : Received) (asked : s.request (some .writeSetting) = some w) (served : s.serves w = true) :
      Effect s .writeSetting (s.freeOldest.writeSetting w.frame)
  | learnPark (w : Received) (asked : s.request (some .learnPark) = some w) (served : s.serves w = true) :
      Effect s .learnPark (s.freeOldest.learnPark w.frame)
  | clearConditions (w : Received) (asked : s.request (some .clearConditions) = some w) (served : s.serves w = true) :
      Effect s .clearConditions (s.freeOldest.clearConditions.answer w.frame .ok [])
  | unknownRequest (w : Received) (asked : s.request none = some w) (served : s.serves w = true) :
      Effect s .unknownRequest (s.freeOldest.answer w.frame .badRequest [])
  | storeWriteStart (r : Rec) (ready : s.writeReady = some r) : Effect s .storeWriteStart (s.startWrite r)
  | storeWriteEnd (w : Write) (readBack : List Byte) (done : s.writeDone = some w) :
      Effect s (.storeWriteEnd readBack) (s.endWrite w readBack).dozeCheck
  | stopTimer (running : s.pwr.power = .run) (due : dueAt s.pwr.stopTimer s.now = true) : Effect s .stopTimer s.enterStandby
  | quietTimer (due : s.quietDue = true) :
      Effect s .quietTimer (s.withPwr (fun p => { p with quietTimer := none, quietMark := true })).dozeCheck
  | wakeEdge (asleep : s.pwr.power = .doze) : Effect s .wakeEdge (s.withPwr (fun p => { p with power := .waking, wakeTicks := 0 }))
  | wakeComplete (waking : s.pwr.power = .waking) (due : 400 ≤ s.pwr.wakeTicks) : Effect s .wakeComplete s.wakeUp
  | reset (cause : ResetCause) : Effect s (.reset cause) (s.assertReset cause)
  | resetRelease (held : s.pwr.power = .held) : Effect s .resetRelease s.releaseReset
  | startDelayEnd (pins : Straps) (delayed : s.pwr.power = .startDelay) (due : dueAt s.pwr.sequence s.now = true) :
      Effect s (.startDelayEnd pins) (s.startUp pins)
  | storeLoadComplete (due : s.loadDue = true) : Effect s .storeLoadComplete s.loadRecords.finishStart
  | lineFallingEdge : Effect s .lineFallingEdge s.pulledLow.dozeCheck
  | othersRelease (low : s.line.othersLow = true) (idle : s.line.sending = none) : Effect s .startOfFrame s.letGo
  | startOfFrame (low : s.line.othersLow = true) (sending : s.line.sending.isSome = true) :
      Effect s .startOfFrame s.letGo.dozeCheck

/-- A command whose effect comes under one condition. -/
theorem Effect.of_ite {s t : State} {c : Instr} {b : Prop} [Decidable b] (h : b → Effect s c t) :
    Effect s c (if b then t else s) := by
  split
  · exact h ‹_›
  · exact .nothing c

/-- A taken request is served or only frees its buffer. -/
theorem Effect.of_request {s : State} {c : Instr} {w : Received} {r : Option Request} {k : State → State}
    (asked : s.request r = some w) (h : s.serves w = true → Effect s c (k s.freeOldest)) :
    Effect s c (s.serveRequest w k) := by
  unfold State.serveRequest
  split
  · exact h ‹_›
  next refused => exact .unserved c w r asked (Bool.eq_false_of_not_eq_true refused)

/-- Every command is answered with a next state, by its effect. -/
theorem exec_effect (c : Instr) (s : State) : ∃ t, exec c s = .next t ∧ Effect s c t := by
  cases c with
  | crankEdge => exact ⟨_, rfl, .of_ite .crankEdge⟩
  | camEdge c => exact ⟨_, rfl, .of_ite (.camEdge c)⟩
  | crankFilterForget => exact ⟨_, rfl, .of_ite .crankFilterForget⟩
  | camFilterForget c => exact ⟨_, rfl, .of_ite (.camFilterForget c)⟩
  | takeCrankEntry => exact ⟨_, rfl, by split; exacts [.takeCrankEntry _ ‹_›, .nothing _]⟩
  | takeCamEntry => exact ⟨_, rfl, by split; exacts [.takeCamEntry _ _ ‹_›, .nothing _]⟩
  | takeOverflowMarker => exact ⟨_, rfl, by split; exacts [.takeOverflowMarker _ ‹_›, .nothing _]⟩
  | stallTimeout => exact ⟨_, rfl, .of_ite .stallTimeout⟩
  | cycleReport => exact ⟨_, rfl, by split; exacts [.cycleReport _ ‹_›, .nothing _]⟩
  | coilCurrentConversion c count => exact ⟨_, rfl, .of_ite (.coilCurrentConversion c count)⟩
  | supplyConversion count => exact ⟨_, rfl, .of_ite (.supplyConversion count)⟩
  | pressureConversion count =>
    refine ⟨_, rfl, .of_ite fun due => ?_⟩
    split
    · exact .pressureConversion count due ‹_›
    next absent => exact .pressureDiscarded count due (Bool.eq_false_of_not_eq_true absent)
  | temperatureConversion count => exact ⟨_, rfl, .of_ite (.temperatureConversion count)⟩
  | scanPassStart => exact ⟨_, rfl, .of_ite .scanPassStart⟩
  | demandFrame => exact ⟨_, rfl, by split; exacts [.demandFrame _ ‹_›, .nothing _]⟩
  | demandTimeout => exact ⟨_, rfl, .of_ite .demandTimeout⟩
  | holdExpiry => exact ⟨_, rfl, .of_ite .holdExpiry⟩
  | releaseExpiry c => exact ⟨_, rfl, .of_ite (.releaseExpiry c)⟩
  | restedMark c => exact ⟨_, rfl, .of_ite (.restedMark c)⟩
  | shareFrame => exact ⟨_, rfl, by split; exacts [.shareFrame _ ‹_›, .nothing _]⟩
  | shareTimer => exact ⟨_, rfl, .of_ite .shareTimer⟩
  | peerStale n => exact ⟨_, rfl, .of_ite (.peerStale n)⟩
  | peerDelete n => exact ⟨_, rfl, .of_ite (.peerDelete n)⟩
  | periodBoundary c => exact ⟨_, rfl, .of_ite (.periodBoundary c)⟩
  | onTimeEnd c => exact ⟨_, rfl, .of_ite (.onTimeEnd c)⟩
  | currentTrip c milliamps => exact ⟨_, rfl, .of_ite fun ⟨on, past⟩ => .currentTrip c milliamps on past⟩
  | supplyLowExpiry => exact ⟨_, rfl, .of_ite .supplyLowExpiry⟩
  | supplyRecoveryExpiry => exact ⟨_, rfl, .of_ite .supplyRecoveryExpiry⟩
  | framingError => exact ⟨_, rfl, .of_ite .framingError⟩
  | lineIdle => exact ⟨_, rfl, .of_ite .lineIdle⟩
  | lineHeld => exact ⟨_, rfl, .of_ite .lineHeld⟩
  | frameReceived bytes => exact ⟨_, rfl, .of_ite (.frameReceived bytes)⟩
  | transmitStart => exact ⟨_, rfl, by split; exacts [.transmitStart _ ‹_›, .nothing _]⟩
  | arbitrationLoss => exact ⟨_, rfl, by split; exacts [.arbitrationLoss _ ‹_›, .nothing _]⟩
  | bitError => exact ⟨_, rfl, .of_ite .bitError⟩
  | transmitComplete => exact ⟨_, rfl, by split; exacts [.transmitComplete _ ‹_›, .nothing _]⟩
  | listenExpiry =>
    refine ⟨_, rfl, .of_ite fun due => ?_⟩
    simp only
    split
    · exact .listenEnds due ‹_›
    · exact .listenExpiry due ‹_›
  | statusTimer => exact ⟨_, rfl, .of_ite .statusTimer⟩
  | readCam => exact ⟨_, rfl, by split; exacts [.of_request ‹_› (.readCam _ ‹_›), .nothing _]⟩
  | readTracker => exact ⟨_, rfl, by split; exacts [.of_request ‹_› (.readTracker _ ‹_›), .nothing _]⟩
  | readPeer => exact ⟨_, rfl, by split; exacts [.of_request ‹_› (.readPeer _ ‹_›), .nothing _]⟩
  | readCondition => exact ⟨_, rfl, by split; exacts [.of_request ‹_› (.readCondition _ ‹_›), .nothing _]⟩
  | readCounters => exact ⟨_, rfl, by split; exacts [.of_request ‹_› (.readCounters _ ‹_›), .nothing _]⟩
  | readSetting => exact ⟨_, rfl, by split; exacts [.of_request ‹_› (.readSetting _ ‹_›), .nothing _]⟩
  | writeSetting => exact ⟨_, rfl, by split; exacts [.of_request ‹_› (.writeSetting _ ‹_›), .nothing _]⟩
  | learnPark => exact ⟨_, rfl, by split; exacts [.of_request ‹_› (.learnPark _ ‹_›), .nothing _]⟩
  | clearConditions => exact ⟨_, rfl, by split; exacts [.of_request ‹_› (.clearConditions _ ‹_›), .nothing _]⟩
  | unknownRequest => exact ⟨_, rfl, by split; exacts [.of_request ‹_› (.unknownRequest _ ‹_›), .nothing _]⟩
  | storeWriteStart => exact ⟨_, rfl, by split; exacts [.storeWriteStart _ ‹_›, .nothing _]⟩
  | storeWriteEnd readBack => exact ⟨_, rfl, by split; exacts [.storeWriteEnd _ _ ‹_›, .nothing _]⟩
  | stopTimer => exact ⟨_, rfl, .of_ite fun h => by
      obtain ⟨running, due⟩ := Bool.and_eq_true_iff.mp h
      exact .stopTimer (of_decide_eq_true running) due⟩
  | quietTimer => exact ⟨_, rfl, .of_ite .quietTimer⟩
  | wakeEdge => exact ⟨_, rfl, .of_ite .wakeEdge⟩
  | wakeComplete => exact ⟨_, rfl, .of_ite fun ⟨waking, due⟩ => .wakeComplete waking due⟩
  | reset cause => exact ⟨_, rfl, .reset cause⟩
  | resetRelease => exact ⟨_, rfl, .of_ite .resetRelease⟩
  | startDelayEnd pins => exact ⟨_, rfl, .of_ite fun h => by
      obtain ⟨delayed, due⟩ := Bool.and_eq_true_iff.mp h
      exact .startDelayEnd pins (of_decide_eq_true delayed) due⟩
  | storeLoadComplete => exact ⟨_, rfl, .of_ite .storeLoadComplete⟩
  | lineFallingEdge => exact ⟨_, rfl, .lineFallingEdge⟩
  | startOfFrame =>
    refine ⟨_, rfl, .of_ite fun low => ?_⟩
    split
    · exact .startOfFrame low ‹_›
    next idle => exact .othersRelease low (Option.not_isSome_iff_eq_none.mp idle)

theorem effect_of_exec {c : Instr} {s t : State} (h : exec c s = .next t) : Effect s c t := by
  obtain ⟨u, answered, effect⟩ := exec_effect c s
  obtain rfl : u = t := Host.Outcome.next.inj (answered.symm.trans h)
  exact effect

/-- The entry to DOZE where it is ready, else nothing (R190). -/
theorem State.dozeCheck_keeps {P : State → Prop} {s : State} (kept : P s) (doze : s.dozeReady = true → P s.enterDoze) :
    P s.dozeCheck := by
  unfold State.dozeCheck
  split
  · exact doze ‹_›
  · exact kept

/-- An invariant survives every step once it survives a change of the queue, the effect of every command, and a tick. -/
theorem step_keeps {P : State → Prop} (queue : ∀ (s : State) (q : List Instr), P s → P { s with pending := q })
    (effect : ∀ (c : Instr) (s t : State), P s → Effect s c t → P t) (tick : ∀ s : State, P s → P s.tick) (s t : State)
    (kept : P s) (run : step s = .next t) : P t := by
  unfold step at run
  split at run
  · exact effect _ _ _ (queue s _ kept) (effect_of_exec run)
  · obtain rfl : s.idle = t := Host.Outcome.next.inj run
    obtain ticks | ⟨i, rest, -, queued⟩ := s.idle_cases
    · rw [ticks]
      exact tick s kept
    · rw [queued]
      exact queue s _ kept

/-- A tick keeps what a tick of the clock and an entry to DOZE keep. -/
theorem tick_keeps {P : State → Prop} {s : State} (clock : P s.clockTick)
    (doze : s.clockTick.dozeReady = true → P s.clockTick.enterDoze) : P s.tick := by
  obtain ticks | ⟨-, -, ready, entered⟩ := s.tick_cases
  · rw [ticks]
    exact clock
  · rw [entered]
    exact doze ready

end Sys2Proof.Machine
end

section
/-!
The edge FIFO and the capture counters (R5, R8): every step keeps `CaptureSound`.
-/

set_option Elab.async false

namespace Sys2Proof.Machine

/-- `CaptureSound` as a property of CAP alone. -/
structure Cap.Sound (k : Cap) : Prop where
  fifo     : k.fifo.length ≤ 16
  overflow : k.overflowPending = true → k.fifo.length = 16
  crank    : k.crankNoise ≤ 65535
  camI     : k.camNoise.i ≤ 65535
  camE     : k.camNoise.e ≤ 65535
  lost     : k.overflows ≤ 65535

theorem captureSound_iff (s : State) : CaptureSound s ↔ s.cap.Sound :=
  ⟨fun ⟨a, b, c, d, e, f⟩ => ⟨a, b, c, d, e, f⟩, fun ⟨a, b, c, d, e, f⟩ => ⟨a, b, c, d, e, f⟩⟩

/-- A saturating counter stays within its top. -/
theorem satInc_le (top n : Nat) : satInc top n ≤ top := Nat.min_le_left _ _

theorem Cap.sound_reset : ({} : Cap).Sound := by constructor <;> decide

/-- What is written for a marker leaves no loss pending while a slot is free. -/
theorem Cap.Sound.flushMarker {k : Cap} (h : k.Sound) (now : Time) : (k.flushMarker now).Sound := by
  unfold Cap.flushMarker
  split
  next free => exact ⟨by simp; omega, by simp, h.crank, h.camI, h.camE, h.lost⟩
  · exact h

theorem Cap.Sound.write {k : Cap} (h : k.Sound) (e : Entry) : (k.write e).Sound := by
  have flushed := h.flushMarker e.time
  have room : (k.flushMarker e.time).overflowPending = true → ¬(k.flushMarker e.time).fifo.length < 16 :=
    fun pending => (flushed.overflow pending).not_lt
  have bound := k.write_length e
  simp only [Cap.write] at bound ⊢
  split
  next free =>
    refine ⟨?_, fun pending => absurd free (room pending), flushed.crank, flushed.camI, flushed.camE, flushed.lost⟩
    simpa [free] using bound
  next full =>
    refine ⟨by simp, fun _ => ?_, flushed.crank, flushed.camI, flushed.camE, satInc_le _ _⟩
    simp only [List.length_take, List.length_reverse, writeBehind_length]
    omega

/-- A take frees the slot that the marker of a loss needs. -/
theorem Cap.Sound.take {k : Cap} (h : k.Sound) (now : Time) : (k.take now).Sound := by
  have short : k.fifo.tail.length ≤ 15 := by have := h.fifo; rw [List.length_tail]; omega
  unfold Cap.take Cap.flushMarker
  split
  · exact ⟨by simp only [List.length_append, List.length_singleton]; omega, nofun, h.crank, h.camI, h.camE, h.lost⟩
  next full =>
    exact ⟨Nat.le_succ_of_le short, fun pending => absurd ⟨pending, Nat.lt_succ_of_le short⟩ full, h.crank, h.camI, h.camE,
      h.lost⟩

theorem Cap.Sound.crankAccepted {k : Cap} (h : k.Sound) (t : Time) : (k.crankAccepted t).Sound :=
  ⟨h.fifo, h.overflow, h.crank, h.camI, h.camE, h.lost⟩

theorem Cap.Sound.dozed {k : Cap} (h : k.Sound) : k.dozed.Sound :=
  ⟨by simp [Cap.dozed], by simp [Cap.dozed], h.crank, h.camI, h.camE, h.lost⟩

@[simp] theorem State.signalCrank_cap (s : State) : s.signalCrank.cap = s.cap := by
  unfold State.signalCrank
  split <;> simp

theorem State.crankEdge_cap_sound {s : State} (h : s.cap.Sound) : s.crankEdge.cap.Sound := by
  unfold State.crankEdge
  split
  · simpa using (h.crankAccepted s.now).write _
  · exact ⟨h.fifo, h.overflow, satInc_le _ _, h.camI, h.camE, h.lost⟩

theorem State.camEdge_cap_sound {s : State} (h : s.cap.Sound) (c : Cam) : (s.camEdge c).cap.Sound := by
  unfold State.camEdge
  split
  · have accepted : ({ s.cap with camLast := s.cap.camLast.set c (some s.now) } : Cap).Sound :=
      ⟨h.fifo, h.overflow, h.crank, h.camI, h.camE, h.lost⟩
    exact accepted.write _
  · cases c
    · exact ⟨h.fifo, h.overflow, h.crank, satInc_le _ _, h.camE, h.lost⟩
    · exact ⟨h.fifo, h.overflow, h.crank, h.camI, satInc_le _ _, h.lost⟩

theorem State.enterDoze_cap_sound {s : State} (h : s.cap.Sound) : s.enterDoze.cap.Sound := h.dozed

theorem State.dozeCheck_cap_sound {s : State} (h : s.cap.Sound) : s.dozeCheck.cap.Sound :=
  State.dozeCheck_keeps (P := fun t => t.cap.Sound) h fun _ => State.enterDoze_cap_sound h

theorem Effect.cap_sound {c : Instr} {s t : State} (h : s.cap.Sound) (effect : Effect s c t) : t.cap.Sound := by
  cases effect with
  | nothing => exact h
  | crankEdge => exact State.crankEdge_cap_sound h
  | camEdge c => exact State.camEdge_cap_sound h c
  | crankFilterForget | camFilterForget => exact ⟨h.fifo, h.overflow, h.crank, h.camI, h.camE, h.lost⟩
  | takeCrankEntry t | takeCamEntry c t | takeOverflowMarker t => simpa [State.takeHead] using h.take s.now
  | reset => exact Cap.sound_reset
  | framingError | arbitrationLoss | transmitComplete | storeWriteEnd | quietTimer | lineFallingEdge | startOfFrame =>
    refine State.dozeCheck_cap_sound ?_
    simpa using h
  | _ => simpa using h

/-- Settles O6: CAP's own operations keep `Cap.Sound`, and every other command leaves CAP alone. -/
theorem everyStepKeepsCaptureSound : Obligations.EveryStepKeepsCaptureSound := by
  unfold Obligations.EveryStepKeepsCaptureSound
  simp only [captureSound_iff]
  refine step_keeps (P := fun s => s.cap.Sound) (fun _ _ h => h) (fun _ _ _ h effect => effect.cap_sound h) fun s h => ?_
  have clock : s.clockTick.cap.Sound := by simpa using h
  exact tick_keeps (P := fun t => t.cap.Sound) clock fun _ => State.enterDoze_cap_sound clock

end Sys2Proof.Machine
end

section
/-!
The tracker's record (R21 to R34, R40): every step keeps `TrackerSound`, a property of `Trk` alone.
-/

set_option Elab.async false

namespace Sys2Proof.Machine

theorem TrackerSound.of_trk {s t : State} (h : TrackerSound s) (same : t.trk = s.trk) : TrackerSound t := by
  obtain ⟨half, adopted, tooth, rpm, still, stall, errRun, errors, undec, countI, countE⟩ := h
  constructor <;> rwa [same]

/-- The stall reference is held from the first entry on (R21). -/
theorem TrackerSound.timed {s : State} (h : TrackerSound s) (moving : s.trk.state ≠ .stopped) : s.trk.stallRef.isNone = false :=
  Bool.eq_false_of_not_eq_true fun absent => moving (h.stall.mp absent)

theorem rpmOfPitch_le (p : Nat) : rpmOfPitch p ≤ 20000 := Nat.min_le_left _ _

theorem rpmOfRevolution_le (t : Nat) : rpmOfRevolution t ≤ 20000 := Nat.min_le_left _ _

/-- Every departure to SEEK or STOPPED leaves the half undecided, the speed 0 and the counts at 0 (R21, R25, R42). -/
theorem TrackerSound.unsynced {s : State} (h : TrackerSound s) {f : Trk → Trk} {errors : Nat}
    (left : f s.trk = { s.trk.unsynced with
      state := (f s.trk).state, lastCrank := (f s.trk).lastCrank, tPrev := (f s.trk).tPrev, stallRef := (f s.trk).stallRef,
      toothErrors := errors })
    (away : (f s.trk).state ≠ .cycleSync) (stall : (f s.trk).stallRef.isNone = true ↔ (f s.trk).state = .stopped)
    (bound : errors ≤ 255) : TrackerSound (s.withTrk f) := by
  have half : (f s.trk).half = none := by rw [left]; rfl
  have adopted : (f s.trk).adopted = false := by rw [left]; rfl
  have rpm : (f s.trk).rpm = 0 := by rw [left]; rfl
  refine ⟨by simp [half, away], by simp [adopted], ?_, by simp [rpm], fun _ => rpm, stall, ?_, ?_, ?_, ?_, ?_⟩
  · rw [State.withTrk_trk, left]; exact h.tooth
  · rw [State.withTrk_trk, left]; exact Nat.zero_le _
  · rw [State.withTrk_trk, left]; exact bound
  · rw [State.withTrk_trk, left]; exact h.undec
  · rw [State.withTrk_trk, left]; exact Nat.zero_le _
  · rw [State.withTrk_trk, left]; exact Nat.zero_le _

theorem TrackerSound.leaveCycleSync {s : State} (h : TrackerSound s) : TrackerSound s.leaveCycleSync := h.of_trk (by simp)

theorem TrackerSound.enterStopped {s : State} (h : TrackerSound s) : TrackerSound s.enterStopped := by
  have left := h.leaveCycleSync.unsynced
    (f := fun k => { k.unsynced with state := .stopped, lastCrank := none, tPrev := none, stallRef := none })
    rfl nofun (by simp) h.leaveCycleSync.errors
  exact left.of_trk (by simp [State.enterStopped])

theorem TrackerSound.loseSync {s : State} (h : TrackerSound s) (lastCrank : Option Time) (tPrev : Option Nat) (stallRef : Time) :
    TrackerSound (s.loseSync lastCrank tPrev stallRef) := by
  have left := h.leaveCycleSync.unsynced
    (f := fun k => { k.unsynced with
      state := .seek, toothErrors := satInc 255 k.toothErrors, lastCrank := lastCrank, tPrev := tPrev
      stallRef := some stallRef })
    rfl nofun (by simp) (satInc_le _ _)
  exact left.of_trk (by simp [State.loseSync])

/-! ## Revolutions (R26, R30 to R34) -/

theorem TrackerSound.enterCycleSync {s : State} (h : TrackerSound s) (still : s.trk.stallRef.isNone = false) (x : Half) :
    TrackerSound (s.enterCycleSync x) := by
  have entered : TrackerSound (s.withTrk (fun k => { k with
      state := .cycleSync, half := some x, adopted := false, cycleErrRun := 0, undecided := 0 })) :=
    ⟨by simp, by simp, h.tooth, h.rpm, by simp, by simp [still], by simp, h.errors, by simp, h.countI, h.countE⟩
  exact entered.of_trk (by simp [State.enterCycleSync])

theorem TrackerSound.undecidedRevolution {s : State} (h : TrackerSound s) (away : s.trk.state ≠ .cycleSync) :
    TrackerSound s.undecidedRevolution := by
  have counted : TrackerSound (s.withTrk (fun k => { k with half := none, undecided := satInc 255 k.undecided })) :=
    ⟨by simp [away], h.adopted, h.tooth, h.rpm, h.still, h.stall, h.errRun, h.errors, satInc_le _ _, h.countI, h.countE⟩
  unfold State.undecidedRevolution
  simp only
  split
  · exact counted.of_trk (by simp)
  · exact counted

theorem TrackerSound.fallToCrankSync {s : State} (h : TrackerSound s) (sync : s.trk.state = .cycleSync) :
    TrackerSound s.fallToCrankSync := by
  have running : s.trk.stallRef.isNone = false := h.timed (by simp [sync])
  have fallen : TrackerSound (s.withTrk (fun k => { k with
      state := .crankSync, half := none, adopted := false, cycleErrRun := 0 })) :=
    ⟨by simp, by simp, h.tooth, h.rpm, by simp, by simp [running], by simp, h.errors, h.undec, h.countI, h.countE⟩
  exact fallen.of_trk (by simp [State.fallToCrankSync])

theorem TrackerSound.cycleCheck {s : State} (h : TrackerSound s) (sync : s.trk.state = .cycleSync) :
    TrackerSound s.cycleCheck := by
  have counted : TrackerSound (s.withTrk (fun k => { k with mismatches := satInc 65535 k.mismatches })) :=
    ⟨h.half, h.adopted, h.tooth, h.rpm, h.still, h.stall, h.errRun, h.errors, h.undec, h.countI, h.countE⟩
  unfold State.cycleCheck
  simp only
  split_ifs
  · have kept : TrackerSound (s.withTrk (fun k => { k with
        cycleErrRun := 0, adopted := false, half := some (s.trk.half.getD .a).next })) :=
      ⟨by simp [sync], by simp, h.tooth, h.rpm, h.still, h.stall, by simp, h.errors, h.undec, h.countI, h.countE⟩
    exact kept.of_trk (by simp)
  · exact ⟨by simp [sync], h.adopted, h.tooth, h.rpm, h.still, h.stall, by simp, h.errors, h.undec, h.countI, h.countE⟩
  · exact counted.fallToCrankSync sync

theorem TrackerSound.completeRevolution {s : State} (h : TrackerSound s)
    (sync : s.trk.state = .crankSync ∨ s.trk.state = .cycleSync) (t : Time) : TrackerSound (s.completeRevolution t) := by
  have running : s.trk.stallRef.isNone = false := h.timed (by rcases sync with sync | sync <;> simp [sync])
  have timed : TrackerSound (s.revolutionSpeed t) :=
    ⟨h.half, h.adopted, h.tooth, rpmOfRevolution_le _, by rcases sync with sync | sync <;> simp [State.revolutionSpeed, sync],
      h.stall, h.errRun, h.errors, h.undec, h.countI, h.countE⟩
  have cycled : TrackerSound (s.revolutionSpeed t).revolutionCycleEnd := timed.of_trk (by simp)
  have same : (s.revolutionSpeed t).revolutionCycleEnd.trk = (s.revolutionSpeed t).trk := by simp
  have evaluated : TrackerSound (s.revolutionSpeed t).revolutionCycleEnd.evaluateCounts := by
    unfold State.evaluateCounts
    split
    · exact cycled.cycleCheck ‹_›
    · split
      · exact cycled.enterCycleSync (by rw [same]; exact running) _
      · exact cycled.undecidedRevolution ‹_›
  exact ⟨evaluated.half, evaluated.adopted, evaluated.tooth, evaluated.rpm, evaluated.still, evaluated.stall, evaluated.errRun,
    evaluated.errors, evaluated.undec, Nat.zero_le _, Nat.zero_le _⟩

/-! ## Crank entries (R20 to R25) -/

theorem TrackerSound.crankInStopped {s : State} (h : TrackerSound s) (stopped : s.trk.state = .stopped) (t : Time) :
    TrackerSound (s.crankInStopped t) := by
  have half : s.trk.half = none := by simpa [stopped] using h.half
  have adopted : s.trk.adopted = false := by simpa [stopped] using h.adopted
  exact ⟨by simp [State.crankInStopped, half], by simp [State.crankInStopped, adopted], h.tooth, h.rpm,
    fun _ => h.still (.inl stopped), by simp [State.crankInStopped], h.errRun, h.errors, h.undec, h.countI, h.countE⟩

theorem TrackerSound.crankInSeek {s : State} (h : TrackerSound s) (seek : s.trk.state = .seek) (t : Time) :
    TrackerSound (s.crankInSeek t) := by
  have half : s.trk.half = none := by simpa [seek] using h.half
  have adopted : s.trk.adopted = false := by simpa [seek] using h.adopted
  have still : s.trk.rpm = 0 := h.still (.inr seek)
  have on (tPrev : Option Nat) : TrackerSound (s.withTrk (·.seekAt t tPrev)) :=
    ⟨by simp [Trk.seekAt, half, seek], by simp [Trk.seekAt, adopted], h.tooth, h.rpm, fun _ => still, by simp [Trk.seekAt, seek],
      h.errRun, h.errors, h.undec, h.countI, h.countE⟩
  have found (interval : Nat) : TrackerSound (s.withTrk (·.gapFound t interval)) :=
    ⟨by simp [Trk.gapFound], by simp [Trk.gapFound, adopted], Nat.zero_le _, rpmOfPitch_le _, by simp [Trk.gapFound],
      by simp [Trk.gapFound], h.errRun, h.errors, h.undec, Nat.zero_le _, Nat.zero_le _⟩
  have search : s.trk.search t = s.trk.seekAt t s.trk.tPrev ∨ (∃ p, s.trk.search t = s.trk.seekAt t p)
      ∨ ∃ i, s.trk.search t = s.trk.gapFound t i := by
    unfold Trk.search
    split
    · exact .inl rfl
    · exact .inr (.inl ⟨_, rfl⟩)
    · split
      · exact .inr (.inr ⟨_, rfl⟩)
      · exact .inr (.inl ⟨_, rfl⟩)
  obtain e | ⟨p, e⟩ | ⟨i, e⟩ := search
  · exact (on _).of_trk e
  · exact (on p).of_trk e
  · exact (found i).of_trk e

theorem TrackerSound.toothAccepted {s : State} (h : TrackerSound s) (sync : s.trk.state = .crankSync ∨ s.trk.state = .cycleSync)
    {tooth : Nat} (bound : tooth ≤ 21) (t : Time) (pitch : Nat) : TrackerSound (s.withTrk (·.accept tooth t pitch)) :=
  ⟨h.half, h.adopted, bound, h.rpm, by rcases sync with sync | sync <;> simp [Trk.accept, sync],
    by rcases sync with sync | sync <;> simp [Trk.accept, sync], h.errRun, h.errors, h.undec, h.countI, h.countE⟩

theorem TrackerSound.toothSpeed {s : State} (h : TrackerSound s) (sync : s.trk.state = .crankSync ∨ s.trk.state = .cycleSync) :
    TrackerSound (s.withTrk Trk.toothSpeed) := by
  by_cases complete : s.trk.revComplete = true
  · exact h.of_trk (by simp [Trk.toothSpeed, complete])
  · have timed : TrackerSound (s.withTrk (fun k => { k with rpm := rpmOfPitch k.pitch })) :=
      ⟨h.half, h.adopted, h.tooth, rpmOfPitch_le _, by rcases sync with sync | sync <;> simp [sync], h.stall, h.errRun, h.errors,
        h.undec, h.countI, h.countE⟩
    exact timed.of_trk (by simp [Trk.toothSpeed, complete])

theorem TrackerSound.crankInSync {s : State} (h : TrackerSound s) (sync : s.trk.state = .crankSync ∨ s.trk.state = .cycleSync)
    (t : Time) : TrackerSound (s.crankInSync t) := by
  unfold State.crankInSync
  simp only
  split_ifs with early
  · exact ((h.toothAccepted sync (tooth := s.trk.tooth + 1) early t (s.trk.sinceTooth t)).toothSpeed sync).of_trk (by simp)
  · exact h.loseSync _ _ _
  · exact (h.toothAccepted sync (Nat.zero_le 21) t _).completeRevolution sync t
  · exact h.loseSync _ _ _

@[simp] theorem State.enterStopped_state (s : State) : s.enterStopped.trk.state = .stopped := by simp [State.enterStopped]

theorem TrackerSound.crankEntry {s : State} (h : TrackerSound s) (t : Time) : TrackerSound (s.crankEntry t) := by
  unfold State.crankEntry
  split
  · exact h.enterStopped.crankInStopped s.enterStopped_state t
  · split
    next stopped => exact h.crankInStopped stopped t
    next seek => exact h.crankInSeek seek t
    next sync => exact h.crankInSync (.inl sync) t
    next sync => exact h.crankInSync (.inr sync) t

/-! ## Cam entries, markers and reports (R28, R29, R40, R42) -/

theorem TrackerSound.countCam {s : State} (h : TrackerSound s) (c : Cam) : TrackerSound (s.countCam c) := by
  cases c
  · exact ⟨h.half, h.adopted, h.tooth, h.rpm, h.still, h.stall, h.errRun, h.errors, h.undec, satInc_le _ _, h.countE⟩
  · exact ⟨h.half, h.adopted, h.tooth, h.rpm, h.still, h.stall, h.errRun, h.errors, h.undec, h.countI, satInc_le _ _⟩

theorem TrackerSound.camEntry {s : State} (h : TrackerSound s) (c : Cam) (t : Time) : TrackerSound (s.camEntry c t) := by
  unfold State.camEntry
  split
  · exact h
  · exact h
  · exact h.countCam c
  · exact (h.countCam c).of_trk (by simp)

theorem TrackerSound.overflowMarker {s : State} (h : TrackerSound s) (t : Time) : TrackerSound (s.overflowMarker t) := by
  unfold State.overflowMarker
  split
  · exact h.loseSync _ _ _
  · exact h.loseSync _ _ _
  next stopped =>
    have half : s.trk.half = none := by simpa [stopped] using h.half
    have adopted : s.trk.adopted = false := by simpa [stopped] using h.adopted
    exact ⟨by simp [half], by simp [adopted], h.tooth, h.rpm, fun _ => h.still (.inl stopped), by simp, h.errRun, h.errors,
      h.undec, h.countI, h.countE⟩
  next seek =>
    exact ⟨h.half, h.adopted, h.tooth, h.rpm, h.still, by simp [seek], h.errRun, h.errors, h.undec, h.countI, h.countE⟩

theorem TrackerSound.adopt {s : State} (h : TrackerSound s) (sync : s.trk.state = .crankSync) (x : Half) :
    TrackerSound (s.adopt x) := by
  have running : s.trk.stallRef.isNone = false := h.timed (by simp [sync])
  have adopted : TrackerSound (s.withTrk (fun k => { k with
      state := .cycleSync, half := some x, adopted := true, cycleErrRun := 0, undecided := 0
      adoptions := satInc 65535 k.adoptions })) :=
    ⟨by simp, by simp, h.tooth, h.rpm, by simp, by simp [running], by simp, h.errors, by simp, h.countI, h.countE⟩
  exact adopted.of_trk (by simp [State.adopt])

theorem TrackerSound.takeReport {s : State} (h : TrackerSound s) (n : Nat) (payload : List Byte) :
    TrackerSound (s.takeReport n payload) := by
  unfold State.takeReport
  split
  · exact h
  next half source _ =>
    have filed : TrackerSound (s.fileReport n (half, source)) := h.of_trk (by simp)
    simp only
    split_ifs with adopts
    · refine filed.adopt ?_ half
      simp only [Trk.adopts, Bool.and_eq_true, decide_eq_true_eq] at adopts
      exact adopts.1.2
    · exact filed.of_trk (by simp)
    · exact filed

theorem State.takeHead_trackerSound {s : State} (h : TrackerSound s) : TrackerSound s.takeHead := h.of_trk (by simp)

theorem Effect.trackerSound {c : Instr} {s t : State} (h : TrackerSound s) (effect : Effect s c t) : TrackerSound t := by
  cases effect with
  | nothing => exact h
  | takeCrankEntry t => exact (State.takeHead_trackerSound h).crankEntry t
  | takeCamEntry c t => exact (State.takeHead_trackerSound h).camEntry c t
  | takeOverflowMarker t => exact (State.takeHead_trackerSound h).overflowMarker t
  | stallTimeout => exact h.enterStopped
  | cycleReport r => exact TrackerSound.takeReport (h.of_trk (by simp)) _ _
  | reset => constructor <;> simp [State.assertReset, State.reset, PerCam.both]
  | _ => exact h.of_trk (by simp)

/-- Settles O7: each operation of TRK keeps `TrackerSound`, and every other command leaves TRK alone. -/
theorem everyStepKeepsTrackerSound : Obligations.EveryStepKeepsTrackerSound := by
  unfold Obligations.EveryStepKeepsTrackerSound
  exact step_keeps (fun _ _ h => h.of_trk rfl) (fun _ _ _ h effect => effect.trackerSound h) fun s h => h.of_trk (by simp)

end Sys2Proof.Machine
end

section
/-!
The blocks of the cam chain (PHM, CAMC, LOOP, DRV, the cam demand, the RAM images) and the small moves that commands change them by.
`Move` lists those moves, each with what is known where it is made; `Moves` is a run of them. Machine/CamControl, Phase, Tracker,
PositionLoop and the rest are then read once (`Effect.moves`, in the sections after this one), and an invariant of these blocks is
checked move by move (`step_keeps_of_moves`).
-/

set_option Elab.async false

namespace Sys2Proof.Machine

/-! ## Conditions -/

/-- A level or latched condition whose activity no other block mirrors: neither an event (R174) nor STORE_FAULT or LINE_STUCK. -/
def Cond.unmirrored : Cond → Bool
  | .lineStuck | .storeFault | .stationClash | .peerLost | .cycleDisagree | .learnFailed => false
  | .coilShort _ | .openLoad _ | .supplyLow | .phaseStuck _ | .demandLost | .syncLoss | .camPattern | .camSignal _
  | .pressureSensor | .tempSensor => true

theorem Cond.ne_of_unmirrored {k j : Cond} (h : k.unmirrored = true) (hj : j.unmirrored = false) : j ≠ k := by
  rintro rfl
  simp_all

/-- A count in 0..255, and no event active (R174). -/
theorem conditionsSound_iff_get (s : State) : ConditionsSound s ↔
    (∀ k : Cond, (s.mon.get k).count ≤ 255)
    ∧ ∀ k : Cond, k = .stationClash ∨ k = .peerLost ∨ k = .cycleDisagree ∨ k = .learnFailed → s.active k = false := by
  have reached (j : Fin 20) : ∃ k : Cond, k.idx = j := by
    have : j ∈ Cond.byCode.map Cond.idx := by rw [Cond.map_idx_byCode]; exact List.mem_finRange j
    obtain ⟨k, -, placed⟩ := List.mem_map.mp this
    exact ⟨k, placed⟩
  refine ⟨fun h => ⟨fun k => h.counts k.idx, h.events⟩, fun ⟨counts, events⟩ => ⟨fun j => ?_, events⟩⟩
  obtain ⟨k, rfl⟩ := reached j
  exact counts k

theorem ConditionsSound.of_records {s t : State} (h : ConditionsSound s) (same : t.mon.records = s.mon.records) :
    ConditionsSound t := by
  obtain ⟨counts, events⟩ := h
  constructor
  · rwa [same]
  · simpa only [State.active, Mon.get, same] using events

theorem ConditionsSound.activate {s : State} (h : ConditionsSound s) {k : Cond}
    (level : ¬(k = .stationClash ∨ k = .peerLost ∨ k = .cycleDisagree ∨ k = .learnFailed)) : ConditionsSound (s.activate k) := by
  obtain ⟨counts, events⟩ := (conditionsSound_iff_get s).mp h
  refine (conditionsSound_iff_get _).mpr ⟨fun j => ?_, fun j event => ?_⟩
  · by_cases same : j = k
    · rw [same, State.activate_get]
      split
      · exact counts k
      · exact Nat.min_le_left _ _
    · rw [State.activate_get_ne _ _ _ same]
      exact counts j
  · rw [State.activate_active_ne _ _ _ (by rintro rfl; exact level event)]
    exact events j event

theorem ConditionsSound.deactivate {s : State} (h : ConditionsSound s) (k : Cond) : ConditionsSound (s.deactivate k) := by
  obtain ⟨counts, events⟩ := (conditionsSound_iff_get s).mp h
  refine (conditionsSound_iff_get _).mpr ⟨fun j => ?_, fun j event => ?_⟩
  · by_cases same : j = k
    · rw [same, State.deactivate_get]
      exact counts k
    · rw [State.deactivate_get_ne _ _ _ same]
      exact counts j
  · by_cases same : j = k
    · rw [same, State.deactivate_active]
    · rw [State.deactivate_active_ne _ _ _ same]
      exact events j event

/-- An event leaves every condition's activity alone (R174). -/
@[simp] theorem State.raiseEvent_active (s : State) (j k : Cond) : (s.raiseEvent k).active j = s.active j := by
  by_cases same : j = k
  · rw [same, State.active, State.raiseEvent_get]
    rfl
  · rw [State.active, State.raiseEvent_get_ne _ _ _ same]
    rfl

theorem ConditionsSound.raiseEvent {s : State} (h : ConditionsSound s) (k : Cond) : ConditionsSound (s.raiseEvent k) := by
  obtain ⟨counts, events⟩ := (conditionsSound_iff_get s).mp h
  refine (conditionsSound_iff_get _).mpr ⟨fun j => ?_, fun j event => ?_⟩
  · by_cases same : j = k
    · rw [same, State.raiseEvent_get]
      exact Nat.min_le_left _ _
    · rw [State.raiseEvent_get_ne _ _ _ same]
      exact counts j
  · rw [State.raiseEvent_active]
    exact events j event

/-! ## The moves -/

/-- From `s` to `t` nothing of the cam chain has changed, nor what mirrors it: what LINE, CAP, SCAN, SHR's table, the service unit,
the timers and the counters do beside it. -/
structure Aside (s t : State) : Prop where
  straps     : t.straps = s.straps
  settings   : t.settings = s.settings
  trk        : t.trk = s.trk
  phm        : t.phm = s.phm
  cams       : t.camc.cams = s.camc.cams
  loop       : t.loop = s.loop
  drv        : t.drv = s.drv
  demand     : t.shr.demand = s.shr.demand
  power      : t.pwr.power = s.pwr.power
  image      : t.store.configImage = s.store.configImage
  images     : t.store.camImages = s.store.camImages
  fault      : t.store.fault = s.store.fault
  tx         : t.line.txEnabled = s.line.txEnabled
  stuck      : t.active .lineStuck = s.active .lineStuck
  storeFault : t.active .storeFault = s.active .storeFault
  conditions : ConditionsSound s → ConditionsSound t

/-- Where MON's records stand, every field is read off by `simp`. -/
theorem Aside.of_records {s t : State} (records : t.mon.records = s.mon.records) (straps : t.straps = s.straps := by simp)
    (settings : t.settings = s.settings := by simp) (trk : t.trk = s.trk := by simp) (phm : t.phm = s.phm := by simp)
    (cams : t.camc.cams = s.camc.cams := by simp) (loop : t.loop = s.loop := by simp) (drv : t.drv = s.drv := by simp)
    (demand : t.shr.demand = s.shr.demand := by simp) (power : t.pwr.power = s.pwr.power := by simp)
    (image : t.store.configImage = s.store.configImage := by simp) (images : t.store.camImages = s.store.camImages := by simp)
    (fault : t.store.fault = s.store.fault := by simp) (tx : t.line.txEnabled = s.line.txEnabled := by simp) : Aside s t :=
  ⟨straps, settings, trk, phm, cams, loop, drv, demand, power, image, images, fault, tx,
    by simp only [State.active, Mon.get, records], by simp only [State.active, Mon.get, records],
    fun h => h.of_records records⟩

theorem State.activate_aside (s : State) {k : Cond} (free : k.unmirrored = true) : Aside s (s.activate k) where
  straps := by simp
  settings := by simp
  trk := by simp
  phm := by simp
  cams := by simp
  loop := by simp
  drv := by simp
  demand := by simp
  power := by simp
  image := by simp
  images := by simp
  fault := by simp
  tx := by simp
  stuck := State.activate_active_ne _ _ _ (Cond.ne_of_unmirrored free rfl)
  storeFault := State.activate_active_ne _ _ _ (Cond.ne_of_unmirrored free rfl)
  conditions h := h.activate (by rintro (rfl | rfl | rfl | rfl) <;> cases free)

theorem State.deactivate_aside (s : State) {k : Cond} (free : k.unmirrored = true) : Aside s (s.deactivate k) where
  straps := by simp
  settings := by simp
  trk := by simp
  phm := by simp
  cams := by simp
  loop := by simp
  drv := by simp
  demand := by simp
  power := by simp
  image := by simp
  images := by simp
  fault := by simp
  tx := by simp
  stuck := State.deactivate_active_ne _ _ _ (Cond.ne_of_unmirrored free rfl)
  storeFault := State.deactivate_active_ne _ _ _ (Cond.ne_of_unmirrored free rfl)
  conditions h := h.deactivate k

theorem State.raiseEvent_aside (s : State) (k : Cond) : Aside s (s.raiseEvent k) where
  straps := by simp
  settings := by simp
  trk := by simp
  phm := by simp
  cams := by simp
  loop := by simp
  drv := by simp
  demand := by simp
  power := by simp
  image := by simp
  images := by simp
  fault := by simp
  tx := by simp
  stuck := s.raiseEvent_active _ _
  storeFault := s.raiseEvent_active _ _
  conditions h := h.raiseEvent k

/-- What LOOP holds of a cam is in the ranges of section 5.11. -/
structure Loop.Bounded (k : Loop) : Prop where
  hold     : 300 ≤ k.hold ∧ k.hold ≤ 700
  marked   : 300 ≤ k.marked ∧ k.marked ≤ 700
  integral : -76800 ≤ k.integral ∧ k.integral ≤ 76800
  duty     : k.lastDuty ≤ 1000
  settled  : k.settled < 4000

/-- From the load on: the CONFIG image has its 64 bytes and each CAM image carries its owners' values (R182, R183). -/
structure Imaged (s : State) : Prop where
  size   : s.store.configImage.length = 64
  images : ∀ c, (s.store.camImages.get c).take 4 = (s.camRecord c).encode.take 4

/-- No learn run is in progress, or none would return to LEARNING: so PHM stands once a run is abandoned (R64). -/
def Phm.Ended (p : Phm) : Prop := p.status ≠ .learning ∨ p.statusBefore = none

/-- One move of the cam chain, with what is known where it is made. -/
inductive Move (s : State) : State → Prop
  | aside {t : State} (same : Aside s t) : Move s t
  | track (f : Trk → Trk)
      (sync : s.trk.state = .cycleSync → (f s.trk).state = .cycleSync ∨ ∀ c, (s.phmOf c).Ended) : Move s (s.withTrk f)
  | meter (c : Cam) (f : Phm → Phm) (offset : (f (s.phmOf c)).offset = (s.phmOf c).offset)
      (status : (f (s.phmOf c)).status = (s.phmOf c).status)
      (before : (f (s.phmOf c)).statusBefore = (s.phmOf c).statusBefore)
      (collector : (f (s.phmOf c)).collector = (s.phmOf c).collector) : Move s (s.onPhm c f)
  | abandon (c : Cam) : Move s (s.onPhm c Phm.abandon)
  | learn (c : Cam) (o : LearnOrigin) (can : s.canLearn c = true) (idle : (s.phmOf c).status ≠ .learning)
      (on : s.operating = true) : Move s (s.startRun c o)
  | collect (c : Cam) (raw : Int) : Move s (s.collect c raw)
  | enter (c : Cam) (new : CamState) (at_ : Time) (runs : s.machineRuns c = true ∨ (s.camOf c).state ≠ .off)
      (on : s.operating = true ∨ (s.camOf c).state ≠ .off) : Move s (s.enterCam c new at_)
  | control (c : Cam) (f : CamCtl → CamCtl) (state : (f (s.camOf c)).state = (s.camOf c).state)
      (sound : CamSound (s.camOf c) → CamSound (f (s.camOf c))) : Move s (s.onCam c f)
  | loop (c : Cam) (f : Loop → Loop) (hold : (f (s.loopOf c)).hold = (s.loopOf c).hold)
      (bounded : s.settings.iLim ≤ 300 → (s.loopOf c).Bounded → (f (s.loopOf c)).Bounded) : Move s (s.onLoop c f)
  | holdStep (c : Cam) : Move s (s.holdStep c)
  | demand (c : Cam) (d : Nat) (bound : d ≤ 500) : Move s (s.setDemand c d)
  | duty (c : Cam) (n : Nat) (bound : n ≤ 1000) (active : (s.camOf c).state ≠ .off) :
      Move s (s.onDrv c (fun d => { d with pending := n }))
  | drive (c : Cam) (f : Drv → Drv) (pending : (f (s.drvOf c)).pending = (s.drvOf c).pending)
      (period : (f (s.drvOf c)).periodStart.isSome = (s.drvOf c).periodStart.isSome)
      (sound : DriveSound (s.drvOf c) → DriveSound (f (s.drvOf c))) : Move s (s.onDrv c f)
  | idle : Move s s.lineIdle
  | held : Move s s.lineHeld
  | edit (group : Nat) (bytes : List Byte) (known : group ≤ 7) (whole : bytes.length = 8) : Move s (s.editImage group bytes)
  | written (w : Write) (readBack : List Byte) : Move s (s.endWrite w readBack)
  | run (standby : s.pwr.power = .standby) : Move s s.enterRun
  | standby (imaged : s.pwr.power = .held ∨ s.pwr.power = .startDelay ∨ s.pwr.power = .loading → Imaged s) :
      Move s s.enterStandby
  | doze (standby : s.pwr.power = .standby) : Move s s.enterDoze
  | wake (asleep : s.pwr.power = .doze) : Move s (s.withPwr (fun p => { p with power := .waking, wakeTicks := 0 }))
  | reset (cause : ResetCause) : Move s (s.assertReset cause)
  | release (held : s.pwr.power = .held) : Move s s.releaseReset
  | start (pins : Straps) (delayed : s.pwr.power = .startDelay) : Move s (s.startUp pins)
  | load (loading : s.pwr.power = .loading) : Move s s.loadRecords

/-- A run of moves. -/
def Moves : State → State → Prop := Relation.ReflTransGen Move

theorem Moves.refl (s : State) : Moves s s := Relation.ReflTransGen.refl

theorem Move.moves {s t : State} (h : Move s t) : Moves s t := Relation.ReflTransGen.single h

theorem Aside.moves {s t : State} (h : Aside s t) : Moves s t := (Move.aside h).moves

theorem Moves.then {s t u : State} (h : Moves s t) (h' : Moves t u) : Moves s u := Relation.ReflTransGen.trans h h'

/-! What a change of one block is beside the cam chain. -/

theorem State.withCap_moves (s : State) (f : Cap → Cap) : Moves s (s.withCap f) := Aside.moves (.of_records (s.withCap_mon f ▸ rfl))

theorem State.withScan_moves (s : State) (f : Scan → Scan) : Moves s (s.withScan f) :=
  Aside.moves (.of_records (s.withScan_mon f ▸ rfl))

theorem State.withSupply_moves (s : State) (f : SupplyMon → SupplyMon) : Moves s (s.withSupply f) :=
  Aside.moves (.of_records (s.withSupply_mon f ▸ rfl))

theorem State.withService_moves (s : State) (f : Service → Service) : Moves s (s.withService f) :=
  Aside.moves (.of_records (s.withService_mon f ▸ rfl))

theorem State.withCamc_moves (s : State) (f : Camc → Camc) (cams : (f s.camc).cams = s.camc.cams := by rfl) :
    Moves s (s.withCamc f) := Aside.moves (.of_records (s.withCamc_mon f ▸ rfl) (cams := cams))

theorem State.withShr_moves (s : State) (f : Shr → Shr) (demand : (f s.shr).demand = s.shr.demand := by rfl) :
    Moves s (s.withShr f) := Aside.moves (.of_records (s.withShr_mon f ▸ rfl) (demand := demand))

theorem State.withLine_moves (s : State) (f : Line → Line) (tx : (f s.line).txEnabled = s.line.txEnabled := by rfl) :
    Moves s (s.withLine f) := Aside.moves (.of_records (s.withLine_mon f ▸ rfl) (tx := tx))

theorem State.withMon_moves (s : State) (f : Mon → Mon) (records : (f s.mon).records = s.mon.records := by rfl) :
    Moves s (s.withMon f) := Aside.moves (.of_records records)

theorem State.withPwr_moves (s : State) (f : Pwr → Pwr) (power : (f s.pwr).power = s.pwr.power := by rfl) :
    Moves s (s.withPwr f) := Aside.moves (.of_records (s.withPwr_mon f ▸ rfl) (power := power))

theorem State.queue_moves (s : State) (k : Slot) : Moves s (s.queue k) := Aside.moves (.of_records (by simp))

theorem State.withdraw_moves (s : State) (k : Slot) : Moves s (s.withdraw k) := Aside.moves (.of_records (by simp))

/-- What every move keeps, a run of moves keeps. -/
theorem Moves.keeps {P : State → Prop} (move : ∀ s t, P s → Move s t → P t) {s t : State} (h : Moves s t) (kept : P s) : P t := by
  induction h with
  | refl => exact kept
  | tail _ last ih => exact move _ _ ih last

/-- The two cams one after the other. -/
theorem bothCams_moves {f : Cam → State → State} (each : ∀ c s, Moves s (f c s)) (s : State) : Moves s (s.bothCams f) :=
  (each .i s).then (each .e _)

end Sys2Proof.Machine
end

section
/-!
The cam chain read as moves: CAMC's entries and reviews, LOOP's update, PHM's handling of an edge, and the tracker.
-/

set_option Elab.async false

namespace Sys2Proof.Machine

/-! ## What a change elsewhere leaves of the questions asked -/

theorem State.machineRuns_of_straps {s t : State} (same : t.straps = s.straps) (c : Cam) : t.machineRuns c = s.machineRuns c := by
  unfold State.machineRuns State.own
  rw [same]

theorem State.operating_of_pwr {s t : State} (same : t.pwr = s.pwr) : t.operating = s.operating := by
  simp only [State.operating, same]

theorem State.camOf_of_camc {s t : State} (same : t.camc = s.camc) (c : Cam) : t.camOf c = s.camOf c := by
  simp only [State.camOf, same]

theorem State.phmOf_of_phm {s t : State} (same : t.phm = s.phm) (c : Cam) : t.phmOf c = s.phmOf c := by
  simp only [State.phmOf, same]

theorem State.loopOf_of_loop {s t : State} (same : t.loop = s.loop) (c : Cam) : t.loopOf c = s.loopOf c := by
  simp only [State.loopOf, same]

theorem State.drvOf_of_drv {s t : State} (same : t.drv = s.drv) (c : Cam) : t.drvOf c = s.drvOf c := by
  simp only [State.drvOf, same]

/-! ## Entries and reviews (R82 to R90) -/

@[simp] theorem State.enterCam_camOf_state (s : State) (c : Cam) (new : CamState) (at_ : Time) :
    ((s.enterCam c new at_).camOf c).state = new := by
  rw [(s.enterCam_spec c new at_).1]
  rfl

theorem CamState.ne_off_of_controlled {x : CamState} (h : x.controlled = true) : x ≠ .off := by
  rintro rfl
  cases h

theorem State.camToOff_moves (c : Cam) (s : State) : Moves s (s.camToOff c) := by
  unfold State.camToOff
  split
  next h =>
    obtain ⟨runs, controlled⟩ := Bool.and_eq_true_iff.mp h
    exact (Move.enter c .off s.now (.inl runs) (.inr (CamState.ne_off_of_controlled controlled))).moves
  · exact .refl s

theorem State.camToFaulted_moves {s : State} {c : Cam} (on : s.operating = true ∨ (s.camOf c).state ≠ .off) :
    Moves s (s.camToFaulted c) := by
  unfold State.camToFaulted
  split
  next h =>
    obtain ⟨runs, -⟩ := Bool.and_eq_true_iff.mp h
    exact (Move.enter c .faulted s.now (.inl runs) on).moves
  · exact .refl s

theorem State.activate_moves (s : State) {k : Cond} (free : k.unmirrored = true) : Moves s (s.activate k) :=
  (s.activate_aside free).moves

theorem State.deactivate_moves (s : State) {k : Cond} (free : k.unmirrored = true) : Moves s (s.deactivate k) :=
  (s.deactivate_aside free).moves

theorem State.raiseEvent_moves (s : State) (k : Cond) : Moves s (s.raiseEvent k) := (s.raiseEvent_aside k).moves

/-- A condition that takes its cam to FAULTED (R89, R90). -/
theorem State.activate_camToFaulted_moves {s : State} {c : Cam} {k : Cond} (free : k.unmirrored = true)
    (on : s.operating = true ∨ (s.camOf c).state ≠ .off) : Moves s ((s.activate k).camToFaulted c) := by
  refine (s.activate_moves free).then (State.camToFaulted_moves ?_)
  rwa [State.operating_of_pwr (s := s) (by simp), State.camOf_of_camc (s := s) (by simp)]

theorem State.raiseLatched_moves {s : State} {c : Cam} {k : Cond} (free : k.unmirrored = true)
    (on : s.operating = true ∨ (s.camOf c).state ≠ .off) : Moves s (s.raiseLatched c k) := by
  unfold State.raiseLatched
  split
  · exact .refl s
  · exact State.activate_camToFaulted_moves free on

/-- The settle start belongs to PARKING (R84). -/
theorem CamSound.settle_in_parking {k : CamCtl} (parking : k.state = .parking) (start : Option Time) (h : CamSound k) :
    CamSound { k with settleStart := start } :=
  ⟨h.parked, h.rested, fun _ => parking, h.release, h.stuck, h.idle⟩

theorem State.judgePark_moves {s : State} {c : Cam} (parking : (s.camOf c).state = .parking) (m : Measurement)
    (on : s.machineRuns c = true) : Moves s (s.judgePark c m) := by
  unfold State.judgePark
  split_ifs
  · exact (Move.control c _ rfl (CamSound.settle_in_parking parking none)).moves
  · split
    · exact (Move.control c _ rfl (CamSound.settle_in_parking parking (some m.time))).moves
    · split
      · exact (Move.enter c .parked m.time (.inl on) (.inr (by simp [parking]))).moves
      · exact .refl s

/-- A review at a measurement comes with the part awake; one without leaves OFF alone. -/
theorem State.review_moves {s : State} {c : Cam} {at_ : Option Measurement} (on : at_.isSome = true → s.operating = true) :
    Moves s (s.review c at_) := by
  unfold State.review
  split
  · exact .refl s
  next notFixed =>
    have runs : s.machineRuns c = true := by simpa using notFixed
    have enter (new : CamState) (active : (s.camOf c).state ≠ .off) : Moves s (s.enterCam c new s.now) :=
      (Move.enter c new s.now (.inl runs) (.inr active)).moves
    split
    · split
      · refine (Move.enter c .parking s.now (.inl runs) (.inl (on rfl))).moves.then
          (State.judgePark_moves (by simp) _ ?_)
        rwa [State.machineRuns_of_straps (s := s) (by simp)]
      · exact .refl s
    · exact .refl s
    next parking =>
      split
      · exact enter .follow (by simp [parking])
      · exact State.judgePark_moves parking _ runs
    next parking => split <;> [exact enter .follow (by simp [parking]); exact .refl s]
    next parked => split <;> [exact enter .release (by simp [parked]); exact .refl s]
    next release => split <;> [exact enter .parked (by simp [release]); exact .refl s]
    next follow => split <;> [exact enter .parking (by simp [follow]); exact .refl s]
    · exact .refl s

theorem State.reviewBoth_moves (s : State) : Moves s s.reviewBoth :=
  (State.review_moves (by simp)).then (State.review_moves (by simp))

/-! ## Demand (R70 to R75) -/

/-- Ramp and commanded target bear on none of a machine's timers. -/
theorem CamSound.of_timers {k j : CamCtl} (h : CamSound k) (state : j.state = k.state) (parkedAt : j.parkedAt = k.parkedAt)
    (rested : j.rested = k.rested) (settleStart : j.settleStart = k.settleStart) (releaseExpiry : j.releaseExpiry = k.releaseExpiry)
    (stuck : j.stuck = k.stuck) : CamSound j := by
  obtain ⟨a, b, c, d, e, f⟩ := h
  constructor <;> simpa only [state, parkedAt, rested, settleStart, releaseExpiry, stuck]

theorem State.command_moves (s : State) (c : Cam) (target : CamCtl → Nat) :
    Moves s (s.onCam c (fun k => { k with commanded := target k })) :=
  (Move.control c _ rfl fun h => h.of_timers rfl rfl rfl rfl rfl rfl).moves

theorem State.freezeTargets_moves (s : State) : Moves s s.freezeTargets :=
  (s.command_moves .i CamCtl.ramp).then (State.command_moves _ .e CamCtl.ramp)

theorem State.toLossPark_moves (s : State) : Moves s s.toLossPark :=
  (s.withCamc_moves _).then (State.reviewBoth_moves _)

theorem State.toLossHold_moves (s : State) : Moves s s.toLossHold :=
  (s.freezeTargets_moves.then (State.withCamc_moves _ _)).then (State.reviewBoth_moves _)

theorem State.demandExpiry_moves (s : State) : Moves s s.demandExpiry := by
  have lost : Moves s ((s.withCamc (fun k => { k with ageStart := none })).activate .demandLost) :=
    (s.withCamc_moves _).then (State.activate_moves _ rfl)
  unfold State.demandExpiry
  simp only
  split_ifs
  · exact lost.then (State.toLossPark_moves _)
  · exact lost.then (State.toLossHold_moves _)
  · exact lost

theorem State.applyEntry_moves (s : State) (d : DemandEntry) : Moves s (s.applyEntry d) := by
  unfold State.applyEntry
  split
  · exact s.command_moves _ _
  · exact .refl s

theorem State.applyEntries_moves (entries : List DemandEntry) (s : State) : Moves s (entries.foldl State.applyEntry s) := by
  induction entries generalizing s with
  | nil => exact .refl s
  | cons d rest ih => exact (s.applyEntry_moves d).then (ih _)

theorem State.acceptDemand_moves (s : State) (payload : List Byte) : Moves s (s.acceptDemand payload) := by
  have entries (u : State) (list : List DemandEntry) (b : Prop) [Decidable b] :
      Moves u (if b then u else list.foldl State.applyEntry u) := by
    split
    · exact .refl u
    · exact State.applyEntries_moves list u
  have frozen (b : Prop) [Decidable b] : Moves s (if b then s.freezeTargets else s) := by
    split
    · exact s.freezeTargets_moves
    · exact .refl s
  unfold State.acceptDemand
  refine Moves.then ?_ (State.reviewBoth_moves _)
  refine Moves.then ?_ (State.deactivate_moves _ rfl)
  refine Moves.then ?_ (State.withCamc_moves _ _)
  exact ((frozen _).then (State.withCamc_moves _ _)).then (entries _ _ _)

theorem State.takeDemand_moves (s : State) (w : Received) : Moves s (s.takeDemand w) := by
  unfold State.takeDemand
  split_ifs
  · exact .refl s
  · exact s.withCamc_moves _
  · exact s.acceptDemand_moves _

/-! ## The loop update (R95 to R114) -/

theorem elapsedQ_le (first : Bool) (t last : Time) : elapsedQ first t last ≤ 160 := by
  unfold elapsedQ
  split
  · exact Nat.zero_le _
  · exact Nat.min_le_left _ _

theorem clampInt_mem {lo hi : Int} (order : lo ≤ hi) (x : Int) : lo ≤ clampInt lo hi x ∧ clampInt lo hi x ≤ hi := by
  unfold clampInt
  omega

theorem finalDuty_le (u : Int) : finalDuty u ≤ 1000 := by
  have := clampInt_mem (show (0 : Int) ≤ 1000 by decide) u
  unfold finalDuty
  omega

/-- The integral settled in stage 12 stays within the bound that the setting gives (R107). -/
theorem settleIntegral_mem {st : Settings} (limit : st.iLim ≤ 300) {i : Int} (h : -76800 ≤ i ∧ i ≤ 76800) (dI uRaw u : Int) :
    -76800 ≤ settleIntegral st i dI uRaw u ∧ settleIntegral st i dI uRaw u ≤ 76800 := by
  unfold settleIntegral
  split
  · exact h
  · have := clampInt_mem (show -((st.iLim : Int) * 256) ≤ (st.iLim : Int) * 256 by omega) (i + dI)
    omega

theorem Loop.Bounded.written {k : Loop} {st : Settings} (limit : st.iLim ≤ 300) (h : k.Bounded) (e : Int) (a : Nat)
    (eEff : Int) (dtq b : Nat) : (k.written (outputStages st k.hold k.integral eEff dtq b) e a).Bounded :=
  ⟨h.hold, h.marked, settleIntegral_mem limit h.integral _ _ _, finalDuty_le _, h.settled⟩

theorem State.stepRamp_moves (s : State) (c : Cam) (dtq : Nat) : Moves s (s.stepRamp c dtq) :=
  (Move.control c _ rfl fun h => h.of_timers rfl rfl rfl rfl rfl rfl).moves

theorem State.countStarved_moves (s : State) : Moves s s.countStarved := by
  unfold State.countStarved
  split
  · exact s.withShr_moves _
  · exact .refl s

@[simp] theorem State.stepRamp_camOf_state (s : State) (c : Cam) (dtq : Nat) :
    ((s.stepRamp c dtq).camOf c).state = (s.camOf c).state := by
  simp [State.stepRamp]

/-- The part after stages 1 and 2 of an update: the time taken, and in FOLLOW the ramp stepped (R97, R98). -/
def State.targeted (s : State) (c : Cam) (m : Measurement) : State :=
  let timed := s.onLoop c (fun k => { k with first := false, lastUpdate := m.time })
  if (s.camOf c).state = .follow then timed.stepRamp c (elapsedQ (s.loopOf c).first m.time (s.loopOf c).lastUpdate) else timed

/-- Stages 4 to 13 of an update with this effective error (R100 to R108). -/
def State.driven (s : State) (c : Cam) (e eEff : Int) (dtq : Nat) : State :=
  let asked := s.setDemand c (camDemand eEff)
  let a := authority s.settings (camDemand eEff) (asked.shr.camGrant c) asked.shr.fAvail
  let counted := asked.countStarved
  let r := outputStages s.settings (counted.loopOf c).hold (counted.loopOf c).integral eEff dtq a
  (counted.onLoop c (·.written r e a)).onDrv c (fun k => { k with pending := r.duty })

@[simp] theorem State.targeted_settings (s : State) (c : Cam) (m : Measurement) : (s.targeted c m).settings = s.settings := by
  unfold State.targeted
  simp only
  split <;> simp

theorem State.loopStages_state (s : State) (c : Cam) (m : Measurement) :
    (s.loopStages c m).state = (s.targeted c m).driven c (s.loopStages c m).error
      (effectiveError s.settings.deadband (s.loopStages c m).error) (s.loopStages c m).dtq := by
  unfold State.driven
  rw [State.targeted_settings]
  unfold State.loopStages State.targeted
  simp only [decide_eq_true_eq]

theorem State.targeted_moves (s : State) (c : Cam) (m : Measurement) :
    Moves s (s.targeted c m) ∧ ((s.targeted c m).camOf c).state = (s.camOf c).state := by
  have timed : Moves s (s.onLoop c (fun k => { k with first := false, lastUpdate := m.time })) :=
    (Move.loop c _ rfl fun _ h => ⟨h.hold, h.marked, h.integral, h.duty, h.settled⟩).moves
  unfold State.targeted
  simp only
  split
  · exact ⟨timed.then (State.stepRamp_moves _ c _), State.stepRamp_camOf_state _ c _⟩
  · exact ⟨timed, rfl⟩

@[simp] theorem State.driven_camOf (s : State) (c : Cam) (e eEff : Int) (dtq : Nat) (d : Cam) :
    (s.driven c e eEff dtq).camOf d = s.camOf d :=
  State.camOf_of_camc (by simp [State.driven]) d

theorem State.driven_moves {s : State} {c : Cam} (active : (s.camOf c).state ≠ .off) (e eEff : Int) (dtq : Nat) :
    Moves s (s.driven c e eEff dtq) := by
  have asked : Moves s (s.setDemand c (camDemand eEff)) := (Move.demand c _ (Nat.min_le_left _ _)).moves
  have counted := asked.then (State.countStarved_moves _)
  refine (counted.then (Move.loop c _ rfl fun limit h => ?bounded).moves).then (Move.duty c _ (finalDuty_le _) ?active).moves
  case bounded => exact h.written (by simpa using limit) _ _ _ _ _
  case active => rwa [State.camOf_of_camc (s := s) (by simp)]

/-- The stages, in a state where the cam is under loop control. -/
theorem State.loopStages_moves {s : State} {c : Cam} (active : (s.camOf c).state ≠ .off) (m : Measurement) :
    Moves s (s.loopStages c m).state
    ∧ ((s.loopStages c m).state.camOf c).state = (s.camOf c).state ∧ (s.loopStages c m).dtq ≤ 160 := by
  obtain ⟨targeted, sameState⟩ := s.targeted_moves c m
  rw [State.loopStages_state]
  refine ⟨targeted.then (State.driven_moves (by rwa [sameState]) _ _ _), by rw [State.driven_camOf, sameState], ?_⟩
  exact elapsedQ_le _ _ _

theorem Loop.Bounded.settledAs {k : Loop} (h : k.Bounded) {t : Nat} (bound : t < 4000) : { k with settled := t }.Bounded :=
  ⟨h.hold, h.marked, h.integral, h.duty, bound⟩

theorem State.learnHold_moves (s : State) (c : Cam) (e : Int) {dtq : Nat} (short : dtq ≤ 160) : Moves s (s.learnHold c e dtq) := by
  unfold State.learnHold
  simp only
  split_ifs with moving long
  · exact (Move.loop c _ rfl fun _ h => h.settledAs (by omega)).moves
  · refine Moves.then ?_ (Move.holdStep c).moves
    exact (Move.loop c _ rfl fun _ h => h.settledAs (by have := h.settled; omega)).moves
  · exact (Move.loop c _ rfl fun _ h => h.settledAs (Nat.lt_of_not_le long)).moves

theorem stuckAfter_le {stuck : Nat} (h : stuck ≤ 4000) (e : Int) (dtq : Nat) (met : Bool) : stuckAfter stuck e dtq met ≤ 4000 := by
  unfold stuckAfter
  split_ifs
  · exact Nat.zero_le _
  · exact Nat.min_le_left _ _
  · exact h

theorem State.timeStuck_moves {s : State} {c : Cam} (follow : (s.camOf c).state = .follow) (e : Int) (dtq : Nat) (met : Bool) :
    Moves s (s.timeStuck c e dtq met) := by
  have timed : Moves s (s.onCam c (fun k => { k with stuck := stuckAfter (s.camOf c).stuck e dtq met })) :=
    (Move.control c _ rfl fun h => ⟨h.parked, h.rested, h.settle, h.release, stuckAfter_le h.stuck e dtq met, fun _ => follow⟩).moves
  unfold State.timeStuck
  simp only
  split
  · exact timed.then (State.activate_camToFaulted_moves rfl (.inr (by simp [follow])))
  · exact timed

theorem State.loopUpdate_moves {s : State} {c : Cam} (active : (s.camOf c).state ≠ .off) (m : Measurement) :
    Moves s (s.loopUpdate c m) := by
  obtain ⟨stages, sameState, short⟩ := State.loopStages_moves active m
  unfold State.loopUpdate
  simp only
  split
  next follow =>
    refine (stages.then (State.learnHold_moves _ c _ short)).then (State.timeStuck_moves ?_ _ _ _)
    rw [State.camOf_of_camc (s := (s.loopStages c m).state) (by simp), sameState, follow]
  · exact stages

end Sys2Proof.Machine
end

section
/-!
The phase meter and the tracker read as moves.
-/

set_option Elab.async false

namespace Sys2Proof.Machine

theorem Cam.eq_or_eq_other (c d : Cam) : d = c ∨ d = c.other := by cases c <;> cases d <;> decide

/-! ## The handling of an edge (R49 to R57) -/

/-- A change of a cam's meter that its learning does not rest on. -/
theorem State.onPhm_moves (s : State) (c : Cam) (f : Phm → Phm)
    (kept : (f (s.phmOf c)).offset = (s.phmOf c).offset ∧ (f (s.phmOf c)).status = (s.phmOf c).status
      ∧ (f (s.phmOf c)).statusBefore = (s.phmOf c).statusBefore ∧ (f (s.phmOf c)).collector = (s.phmOf c).collector := by
        exact ⟨rfl, rfl, rfl, rfl⟩) : Moves s (s.onPhm c f) := by
  obtain ⟨offset, status, before, collector⟩ := kept
  exact (Move.meter c f offset status before collector).moves

theorem State.startTally_moves (s : State) (whole : Bool) : Moves s (s.startTally whole) :=
  (s.onPhm_moves .i (fun p => { p with tally := 0, wholeCycle := whole })).then
    (State.onPhm_moves _ .e (fun p => { p with tally := 0, wholeCycle := whole }))

theorem State.learnStart_moves {s : State} (on : s.operating = true) (c : Cam) : Moves s (s.learnStart c) := by
  unfold State.learnStart
  split
  next starts =>
    simp only [State.autoLearns, Bool.and_eq_true, decide_eq_true_eq] at starts
    obtain ⟨⟨-, idle⟩, can⟩ := starts
    exact (Move.learn c .automatic can idle on).moves
  · exact .refl s

theorem State.measure_moves {s : State} (on : s.operating = true) (c : Cam) (m : Measurement) : Moves s (s.measure c m) := by
  have reviewed : Moves s ((s.onPhm c (fun p => { p with measurement := some m })).review c (some m)) :=
    (s.onPhm_moves c _).then (State.review_moves fun _ => on)
  unfold State.measure
  simp only
  split
  next active => exact reviewed.then (State.loopUpdate_moves (by rcases active with h | h <;> simp [h]) m)
  · exact reviewed

theorem State.identified_moves {s : State} (on : s.operating = true) (c : Cam) (t : Time) (angle e ref : Nat) :
    Moves s (s.identified c t angle e ref) := by
  have tallied : Moves s (s.onPhm c (fun p => { p with tally := satInc 255 p.tally })) := s.onPhm_moves c _
  unfold State.identified
  simp only
  refine Moves.then ?_ (Move.collect c _).moves
  split
  · exact tallied.then (State.measure_moves (by exact on) c _)
  · exact tallied.then (State.onPhm_moves _ c _)

@[simp] theorem State.learnStart_operating (s : State) (c : Cam) : (s.learnStart c).operating = s.operating :=
  State.operating_of_pwr (by simp)

theorem State.stampedEdge_moves {s : State} (on : s.operating = true) (c : Cam) (t : Time) (angle : Nat) :
    Moves s (s.stampedEdge c t angle) := by
  unfold State.stampedEdge
  simp only
  refine (State.learnStart_moves on c).then ?_
  split
  · exact State.onPhm_moves _ c _
  · exact State.identified_moves (by simpa using on) c t _ _ _

theorem State.badCycle_moves (s : State) (c : Cam) : Moves s (s.badCycle c) := by
  have counted : Moves s (s.onPhm c (fun p => { p with
      goodRun := 0, badRun := satInc 2 p.badRun, badCycles := satInc 65535 p.badCycles })) := s.onPhm_moves c _
  unfold State.badCycle
  simp only
  split
  · exact (counted.then (State.activate_moves _ rfl)).then (State.camToOff_moves c _)
  · exact counted

theorem State.goodCycle_moves (s : State) (c : Cam) : Moves s (s.goodCycle c) := by
  have counted : Moves s (s.onPhm c (fun p => { p with badRun := 0, goodRun := satInc 2 p.goodRun })) := s.onPhm_moves c _
  unfold State.goodCycle
  simp only
  split
  · exact counted.then (State.deactivate_moves _ rfl)
  · exact counted

theorem State.cycleEndOf_moves (c : Cam) (s : State) : Moves s (s.cycleEndOf c) := by
  unfold State.cycleEndOf
  simp only
  refine Moves.then ?_ (State.onPhm_moves _ c _)
  split_ifs
  · exact s.badCycle_moves c
  · exact s.goodCycle_moves c
  · exact .refl s

/-! ## Leaving and entering synchronisation (R21, R25, R31 to R35, R40, R42) -/

theorem State.releaseCam_moves (c : Cam) (s : State) : Moves s (s.releaseCam c) :=
  (Move.abandon c).moves.then (State.camToOff_moves c _)

theorem State.leaveCycleSync_moves (s : State) : Moves s s.leaveCycleSync := by
  unfold State.leaveCycleSync
  split
  · exact (bothCams_moves State.releaseCam_moves s).then (State.startTally_moves _ _)
  · exact .refl s

theorem Phm.abandon_ended (p : Phm) : p.abandon.Ended := by
  unfold Phm.abandon
  split
  · exact .inr rfl
  next idle => exact .inl idle

/-- The entry of a cam to a state abandons a run or leaves the meter alone. -/
theorem State.enterCam_phmOf (s : State) (c : Cam) (new : CamState) (at_ : Time) (d : Cam) :
    (s.enterCam c new at_).phmOf d = s.phmOf d ∨ (s.enterCam c new at_).phmOf d = (s.phmOf d).abandon := by
  obtain ⟨-, own, -, -, -, others, -⟩ := s.enterCam_spec c new at_
  by_cases same : d = c
  · rw [same, own]
    split
    · exact .inr rfl
    · exact .inl rfl
  · obtain rfl : d = c.other := (Cam.eq_or_eq_other c d).resolve_left same
    exact .inl others

theorem State.camToOff_phmOf (c : Cam) (s : State) (d : Cam) :
    (s.camToOff c).phmOf d = s.phmOf d ∨ (s.camToOff c).phmOf d = (s.phmOf d).abandon := by
  unfold State.camToOff
  split
  · exact s.enterCam_phmOf c .off s.now d
  · exact .inl rfl

theorem State.releaseCam_ended (c : Cam) (s : State) : ((s.releaseCam c).phmOf c).Ended := by
  unfold State.releaseCam
  obtain e | e := (s.onPhm c Phm.abandon).camToOff_phmOf c c
  · rw [e, State.onPhm_phmOf]
    exact Phm.abandon_ended _
  · rw [e]
    exact Phm.abandon_ended _

theorem State.releaseCam_keeps_ended (c : Cam) {s : State} {d : Cam} (h : (s.phmOf d).Ended) :
    ((s.releaseCam c).phmOf d).Ended := by
  by_cases same : d = c
  · rw [same]
    exact s.releaseCam_ended c
  · unfold State.releaseCam
    obtain e | e := (s.onPhm c Phm.abandon).camToOff_phmOf c d
    · rwa [e, State.onPhm_phmOf_ne _ _ _ _ same]
    · rw [e]
      exact Phm.abandon_ended _

/-- No run outlasts CYCLE_SYNC (R64). -/
theorem State.leaveCycleSync_ended {s : State} (sync : s.trk.state = .cycleSync) (c : Cam) :
    (s.leaveCycleSync.phmOf c).Ended := by
  have released : (((s.releaseCam .i).releaseCam .e).phmOf c).Ended := by
    cases c with
    | i => exact State.releaseCam_keeps_ended .e (s.releaseCam_ended .i)
    | e => exact (s.releaseCam .i).releaseCam_ended .e
  unfold State.leaveCycleSync
  rw [if_pos sync]
  cases c <;> exact released

/-- The tracker leaves CYCLE_SYNC, or was not in it. -/
theorem State.leaveTrack_moves (s : State) (f : Trk → Trk) : Moves s (s.leaveCycleSync.withTrk f) := by
  refine s.leaveCycleSync_moves.then (Move.track f fun sync => .inr fun c => ?_).moves
  exact State.leaveCycleSync_ended (by simpa using sync) c

/-- The tracker stays in CYCLE_SYNC, or was not in it. -/
theorem State.withTrk_moves (s : State) (f : Trk → Trk)
    (kept : s.trk.state = .cycleSync → (f s.trk).state = .cycleSync) : Moves s (s.withTrk f) :=
  (Move.track f fun sync => .inl (kept sync)).moves

theorem State.stopTimerOff_moves (s : State) : Moves s s.stopTimerOff := s.withPwr_moves _

theorem State.stopTimerOnStopped_moves (s : State) : Moves s s.stopTimerOnStopped := by
  unfold State.stopTimerOnStopped
  split
  · exact s.withPwr_moves _
  · exact .refl s

theorem State.enterStopped_moves (s : State) : Moves s s.enterStopped :=
  (((s.leaveTrack_moves _).then (State.deactivate_moves _ rfl)).then (State.withdraw_moves _ _)).then
    (State.stopTimerOnStopped_moves _)

theorem State.loseSync_moves (s : State) (lastCrank : Option Time) (tPrev : Option Nat) (stallRef : Time) :
    Moves s (s.loseSync lastCrank tPrev stallRef) :=
  ((s.leaveTrack_moves _).then (State.activate_moves _ rfl)).then (State.withdraw_moves _ _)

theorem State.enterCycleSync_moves (s : State) (h : Half) : Moves s (s.enterCycleSync h) :=
  (((s.withTrk_moves _ fun _ => rfl).then (State.deactivate_moves _ rfl)).then (State.deactivate_moves _ rfl)).then
    (State.startTally_moves _ _)

theorem State.adopt_moves (s : State) (h : Half) : Moves s (s.adopt h) :=
  ((s.withTrk_moves _ fun _ => rfl).then (State.startTally_moves _ _)).then (State.deactivate_moves _ rfl)

theorem State.undecidedRevolution_moves (s : State) : Moves s s.undecidedRevolution := by
  have counted : Moves s (s.withTrk (fun k => { k with half := none, undecided := satInc 255 k.undecided })) :=
    s.withTrk_moves _ id
  unfold State.undecidedRevolution
  simp only
  split
  · exact counted.then (State.activate_moves _ rfl)
  · exact counted

theorem State.fallToCrankSync_moves (s : State) : Moves s s.fallToCrankSync :=
  ((s.leaveTrack_moves _).then (State.withdraw_moves _ _)).then (State.activate_moves _ rfl)

theorem State.cycleCheck_moves (s : State) : Moves s s.cycleCheck := by
  have counted : Moves s (s.withTrk (fun k => { k with mismatches := satInc 65535 k.mismatches })) := s.withTrk_moves _ id
  unfold State.cycleCheck
  simp only
  split_ifs
  · exact (s.withTrk_moves _ fun sync => sync).then (State.deactivate_moves _ rfl)
  · exact counted.then (State.withTrk_moves _ _ fun sync => sync)
  · exact counted.then (State.fallToCrankSync_moves _)

/-! ## Entries of the FIFO (R20 to R29, R42) -/

theorem State.completeRevolution_moves (s : State) (t : Time) : Moves s (s.completeRevolution t) := by
  have timed : Moves s (s.revolutionSpeed t) := s.withTrk_moves _ id
  have cycled : Moves (s.revolutionSpeed t) (s.revolutionSpeed t).revolutionCycleEnd := by
    unfold State.revolutionCycleEnd
    split
    · exact bothCams_moves State.cycleEndOf_moves _
    · exact .refl _
  have evaluated (u : State) : Moves u u.evaluateCounts := by
    unfold State.evaluateCounts
    split
    · exact u.cycleCheck_moves
    · split
      · exact u.enterCycleSync_moves _
      · exact u.undecidedRevolution_moves
  unfold State.completeRevolution State.newRevolution
  exact ((timed.then cycled).then (evaluated _)).then (State.withTrk_moves _ _ fun sync => sync)

theorem State.crankInStopped_moves {s : State} (stopped : s.trk.state = .stopped) (t : Time) : Moves s (s.crankInStopped t) :=
  (s.withTrk_moves _ (by simp [stopped])).then (State.stopTimerOff_moves _)

theorem State.crankInSeek_moves {s : State} (seek : s.trk.state = .seek) (t : Time) : Moves s (s.crankInSeek t) :=
  s.withTrk_moves _ (by simp [seek])

theorem State.reportAtTooth11_moves (s : State) : Moves s s.reportAtTooth11 := by
  unfold State.reportAtTooth11
  split
  · exact s.queue_moves .sync
  · exact .refl s

@[simp] theorem Trk.toothSpeed_state (k : Trk) : k.toothSpeed.state = k.state := by
  unfold Trk.toothSpeed
  split <;> rfl

theorem State.crankInSync_moves (s : State) (t : Time) : Moves s (s.crankInSync t) := by
  unfold State.crankInSync
  simp only
  split_ifs
  · exact (s.withTrk_moves _ (by simp [Trk.accept])).then (State.reportAtTooth11_moves _)
  · exact s.loseSync_moves _ _ _
  · exact (s.withTrk_moves _ fun sync => sync).then (State.completeRevolution_moves _ t)
  · exact s.loseSync_moves _ _ _

theorem State.crankEntry_moves (s : State) (t : Time) : Moves s (s.crankEntry t) := by
  unfold State.crankEntry
  split
  · exact s.enterStopped_moves.then (State.crankInStopped_moves s.enterStopped_state t)
  · split
    next stopped => exact State.crankInStopped_moves stopped t
    next seek => exact State.crankInSeek_moves seek t
    · exact s.crankInSync_moves t
    · exact s.crankInSync_moves t

theorem State.camEntry_moves {s : State} (on : s.operating = true) (c : Cam) (t : Time) : Moves s (s.camEntry c t) := by
  have counted : Moves s (s.countCam c) := s.withTrk_moves _ id
  unfold State.camEntry
  split
  · exact .refl s
  · exact .refl s
  · exact counted
  · exact counted.then (State.stampedEdge_moves (by exact on) c t _)

theorem State.overflowMarker_moves (s : State) (t : Time) : Moves s (s.overflowMarker t) := by
  unfold State.overflowMarker
  split
  · exact s.loseSync_moves _ _ _
  · exact s.loseSync_moves _ _ _
  next stopped => exact (s.withTrk_moves _ (by simp [stopped])).then (State.stopTimerOff_moves _)
  · exact s.withTrk_moves _ fun sync => sync

theorem State.takeReport_moves (s : State) (n : Nat) (payload : List Byte) : Moves s (s.takeReport n payload) := by
  unfold State.takeReport
  split
  · exact .refl s
  next half source _ =>
    have filed : Moves s (s.fileReport n (half, source)) := s.withShr_moves _
    simp only
    split_ifs
    · exact filed.then (State.adopt_moves _ _)
    · exact filed.then (State.raiseEvent_moves _ _)
    · exact filed

end Sys2Proof.Machine
end

section
/-!
The rest of the part read as moves: drivers, scan, line, service, store and power control. `Effect.moves` says that every command is
a run of moves, and `step_keeps_of_moves` that an invariant kept by each move is kept by every step.
-/

set_option Elab.async false

namespace Sys2Proof.Machine

/-! ## Drivers and supply (R143 to R154) -/

theorem DriveSound.of_measured {d : Drv} (h : DriveSound d) {trips : Nat} (bound : trips ≤ 8) (current : Nat) :
    DriveSound { d with meanCurrent := current, tripRun := trips } :=
  ⟨h.applied, h.output, h.stopped, h.dither, bound, h.opens⟩

theorem tripRunAfter_le (tripped : Bool) (run : Nat) : tripRunAfter tripped run ≤ 8 := by
  unfold tripRunAfter
  split
  · exact satInc_le _ _
  · exact Nat.zero_le _

theorem DriveSound.openJudged {d : Drv} (h : DriveSound d) (counts : Bool) : DriveSound (d.openJudged counts) := by
  unfold Drv.openJudged
  split
  · exact ⟨h.applied, h.output, h.stopped, h.dither, h.trips, satInc_le _ _⟩
  · exact ⟨h.applied, h.output, h.stopped, h.dither, h.trips, Nat.zero_le _⟩

theorem ditherPhaseAfter_pos (st : Settings) (active : Nat) (state : CamState) (phase : Nat) :
    1 ≤ ditherPhaseAfter st active state phase := by
  unfold ditherPhaseAfter
  split_ifs <;> omega

theorem appliedDuty_le (c : Nat) (dither : Int) : appliedDuty c dither ≤ 1000 := by
  have := clampInt_mem (show (0 : Int) ≤ 1000 by decide) ((c : Int) + dither)
  unfold appliedDuty
  omega

theorem DriveSound.opened {d : Drv} (h : DriveSound d) (st : Settings) (state : CamState) (millivolts : Nat) (now : Time) :
    DriveSound (d.opened st state millivolts now) :=
  ⟨appliedDuty_le _ _, fun on => ⟨of_decide_eq_true on, rfl⟩, nofun, ditherPhaseAfter_pos _ _ _ _, h.trips, h.opens⟩

theorem DriveSound.off {d : Drv} (h : DriveSound d) : DriveSound { d with output := false } :=
  ⟨h.applied, nofun, fun none => ⟨(h.stopped none).1, (h.stopped none).2.1, rfl, (h.stopped none).2.2.2⟩, h.dither, h.trips,
    h.opens⟩

/-- The comparator acts in a period only, since the output is on (R150). -/
theorem DriveSound.trip {d : Drv} (h : DriveSound d) (on : d.output = true) : DriveSound d.trip := by
  obtain ⟨-, period⟩ := h.output on
  refine ⟨h.applied, nofun, fun none => ?_, h.dither, h.trips, h.opens⟩
  rw [Option.isNone_iff_eq_none] at none
  rw [show d.periodStart = Option.none from none] at period
  cases period

@[simp] theorem Drv.openJudged_periodStart (d : Drv) (counts : Bool) : (d.openJudged counts).periodStart = d.periodStart := by
  unfold Drv.openJudged
  split <;> rfl

@[simp] theorem Drv.openJudged_pending (d : Drv) (counts : Bool) : (d.openJudged counts).pending = d.pending := by
  unfold Drv.openJudged
  split <;> rfl

@[simp] theorem State.enterDrv_periodStart (s : State) (c : Cam) (new : CamState) (d : Drv) :
    (s.enterDrv c new d).periodStart = d.periodStart := by
  cases new <;> rfl

/-- The entry of a cam to a state starts and ends no period. -/
@[simp] theorem State.enterCam_periodStart (s : State) (c : Cam) (new : CamState) (at_ : Time) (d : Cam) :
    ((s.enterCam c new at_).drvOf d).periodStart = (s.drvOf d).periodStart := by
  obtain ⟨-, -, -, own, -, -, -, others, -⟩ := s.enterCam_spec c new at_
  by_cases same : d = c
  · rw [same, own, State.enterDrv_periodStart]
  · obtain rfl : d = c.other := (Cam.eq_or_eq_other c d).resolve_left same
    rw [others]

@[simp] theorem State.raiseLatched_periodStart (s : State) (c : Cam) (k : Cond) (d : Cam) :
    ((s.raiseLatched c k).drvOf d).periodStart = (s.drvOf d).periodStart := by
  have same : (s.activate k).drvOf d = s.drvOf d := State.drvOf_of_drv (by simp) d
  unfold State.raiseLatched State.camToFaulted
  split_ifs
  · rfl
  · rw [State.enterCam_periodStart, same]
  · rw [same]

theorem State.closeTrip_moves {s : State} (on : s.operating = true) (c : Cam) :
    Moves s (s.closeTrip c) ∧ ((s.closeTrip c).drvOf c).periodStart = (s.drvOf c).periodStart := by
  have measured : Moves s (s.onDrv c (fun d => { d with
      meanCurrent := (s.scan.coil.get c).milliamps, tripRun := tripRunAfter d.tripped d.tripRun })) :=
    (Move.drive c _ rfl rfl fun h => h.of_measured (tripRunAfter_le _ _) _).moves
  unfold State.closeTrip
  simp only
  split
  · exact ⟨measured.then (State.raiseLatched_moves rfl (.inl on)), by simp⟩
  · exact ⟨measured, by simp⟩

theorem State.closeOpenLoad_moves {s : State} (on : s.operating = true) (c : Cam) :
    Moves s (s.closeOpenLoad c) ∧ ((s.closeOpenLoad c).drvOf c).periodStart = (s.drvOf c).periodStart := by
  have judged : Moves s (s.onDrv c (fun d => d.openJudged (openLoadPeriod d.applied d.meanCurrent))) :=
    (Move.drive c _ (by simp) (by simp) fun h => h.openJudged _).moves
  unfold State.closeOpenLoad
  simp only
  split
  · exact ⟨judged.then (State.raiseLatched_moves rfl (.inl on)), by simp⟩
  · exact ⟨judged, by simp⟩

@[simp] theorem State.closeTrip_operating (s : State) (c : Cam) : (s.closeTrip c).operating = s.operating :=
  State.operating_of_pwr (by simp)

theorem State.closePeriod_moves {s : State} (on : s.operating = true) (c : Cam) :
    Moves s (s.closePeriod c) ∧ ((s.closePeriod c).drvOf c).periodStart = (s.drvOf c).periodStart := by
  obtain ⟨trip, tripStart⟩ := State.closeTrip_moves on c
  obtain ⟨load, loadStart⟩ := State.closeOpenLoad_moves (s := s.closeTrip c) (by simpa using on) c
  have cleared (u : State) : Moves u (u.onDrv c (fun d => { d with tripped := false })) :=
    (Move.drive c _ rfl rfl fun h => ⟨h.applied, h.output,
      fun none => ⟨(h.stopped none).1, (h.stopped none).2.1, (h.stopped none).2.2.1, rfl⟩, h.dither, h.trips, h.opens⟩).moves
  exact ⟨(trip.then load).then (cleared _), by simp [State.closePeriod, loadStart, tripStart]⟩

theorem State.periodBoundary_moves {s : State} {c : Cam} (due : s.boundaryDue c = true) :
    Moves s ((s.closePeriod c).openPeriod c) := by
  simp only [State.boundaryDue, Bool.and_eq_true, decide_eq_true_eq] at due
  obtain ⟨run, length⟩ := due
  have period : (s.drvOf c).periodStart.isSome = true := by
    cases start : (s.drvOf c).periodStart with
    | none => simp [start] at length
    | some _ => rfl
  obtain ⟨closes, start⟩ := State.closePeriod_moves (s := s) (by simp [State.operating, run]) c
  refine (closes.then (Move.drive c _ rfl ?_ fun h => h.opened _ _ _ _).moves).then (State.withScan_moves _ _)
  rw [start, period]
  rfl

theorem State.supplyLowExpiry_moves (s : State) : Moves s s.supplyLowExpiry :=
  ((s.withSupply_moves _).then (State.activate_moves _ rfl)).then (bothCams_moves State.camToOff_moves _)

/-! ## Scan (R9 to R16) -/

theorem State.chooseSource_moves (s : State) : Moves s s.chooseSource := s.withShr_moves _

theorem State.rechoose_moves (s : State) : Moves s s.rechoose := by
  unfold State.rechoose
  split
  · exact s.chooseSource_moves
  · exact .refl s

theorem State.addCoil_moves (s : State) (c : Cam) (count : Nat) : Moves s (s.addCoil c count) := by
  unfold State.addCoil
  split
  · exact .refl s
  · exact s.withScan_moves _

theorem State.handSupply_moves (s : State) : Moves s s.handSupply := by
  unfold State.handSupply
  split
  · exact s.withSupply_moves _
  · exact .refl s

theorem State.pressureCount_moves (s : State) (count : Nat) : Moves s (s.pressureCount count) := by
  unfold State.pressureCount
  simp only
  split_ifs
  · exact ((s.withScan_moves _).then (State.activate_moves _ rfl)).then (State.rechoose_moves _)
  · exact ((s.withScan_moves _).then (State.deactivate_moves _ rfl)).then (State.rechoose_moves _)
  · exact s.withScan_moves _

theorem State.temperatureCount_moves (s : State) (count : Nat) : Moves s (s.temperatureCount count) := by
  unfold State.temperatureCount
  simp only
  split_ifs
  · exact (s.withScan_moves _).then (State.activate_moves _ rfl)
  · exact (s.withScan_moves _).then (State.deactivate_moves _ rfl)
  · exact s.withScan_moves _

theorem State.endPass_moves (s : State) : Moves s s.endPass := by
  unfold State.endPass
  simp only
  split
  · exact (s.withScan_moves _).then (State.withScan_moves _ _)
  · exact (s.withScan_moves _).then (State.withScan_moves _ _)

/-! ## Power control and capture (R3, R189 to R191) -/

theorem State.enterDoze_moves {s : State} (ready : s.dozeReady = true) : Moves s s.enterDoze := by
  simp only [State.dozeReady, Bool.and_eq_true, decide_eq_true_eq] at ready
  obtain ⟨⟨⟨⟨standby, -⟩, -⟩, -⟩, -⟩ := ready
  exact (Move.doze standby).moves

theorem State.dozeCheck_moves (s : State) : Moves s s.dozeCheck :=
  State.dozeCheck_keeps (P := Moves s) (.refl s) State.enterDoze_moves

theorem State.signalCrank_moves (s : State) : Moves s s.signalCrank := by
  unfold State.signalCrank
  split
  · exact s.withPwr_moves _
  next standby => exact (Move.run standby).moves
  · exact s.stopTimerOff_moves
  all_goals exact .refl s

theorem State.crankEdge_moves (s : State) : Moves s s.crankEdge := by
  unfold State.crankEdge
  split
  · exact (s.withCap_moves _).then (State.signalCrank_moves _)
  · exact s.withCap_moves _

theorem State.camEdge_moves (s : State) (c : Cam) : Moves s (s.camEdge c) := by
  unfold State.camEdge
  split <;> exact s.withCap_moves _

/-! ## Line (chapter 8) -/

theorem State.dropOwnFrame_moves (s : State) : Moves s s.dropOwnFrame := by
  unfold State.dropOwnFrame
  split
  · exact .refl s
  next x _ =>
    have dropped : Moves s (s.withLine (fun l => { l with sending := none, txFailures := satInc 65535 l.txFailures })) :=
      s.withLine_moves _
    simp only
    split
    · exact dropped.then (State.withMon_moves _ _)
    · exact dropped.then (State.withService_moves _ _)
    · exact dropped
    · exact dropped

theorem State.framingError_moves (s : State) : Moves s s.framingError := by
  unfold State.framingError
  exact (s.withLine_moves _ (by dsimp only; split <;> rfl)).then (State.dropOwnFrame_moves _)

theorem State.bitError_moves (s : State) : Moves s s.bitError := s.dropOwnFrame_moves.then (State.withLine_moves _ _)

theorem State.quietRestart_moves (s : State) : Moves s s.quietRestart := by
  unfold State.quietRestart
  split
  · exact s.withPwr_moves _
  · exact .refl s

theorem State.fallingEdge_moves (s : State) : Moves s s.fallingEdge := by
  unfold State.fallingEdge
  split
  · exact .refl s
  · exact s.withLine_moves _
  · exact s.withLine_moves _
  · exact .refl s
  · split
    · exact s.withLine_moves _
    · exact (s.withLine_moves _).then (State.framingError_moves _)

theorem State.idleSettled_moves (s : State) : Moves s s.idleSettled := by
  unfold State.idleSettled
  split
  · exact Move.idle.moves
  · exact .refl s

theorem State.holdSettled_moves (s : State) : Moves s s.holdSettled := by
  unfold State.holdSettled
  split
  · exact Move.held.moves
  · exact .refl s

theorem State.pulledLow_moves (s : State) : Moves s s.pulledLow := by
  unfold State.pulledLow
  simp only
  split
  · exact s.withLine_moves _
  · exact ((s.idleSettled_moves.then (State.withLine_moves _ _)).then (State.quietRestart_moves _)).then
      (State.fallingEdge_moves _)

theorem State.judgeLow_moves (s : State) : Moves s s.judgeLow := by
  unfold State.judgeLow
  simp only
  split_ifs
  · exact s.withLine_moves _
  · exact s.withLine_moves _
  · exact s.framingError_moves

theorem State.riseJudged_moves (s : State) : Moves s s.riseJudged := by
  have risen : Moves s (s.withLine (fun l => { l with othersLow := false, lastRise := s.now })) := s.withLine_moves _
  unfold State.riseJudged
  simp only
  split
  · exact risen.then (State.judgeLow_moves _)
  · split
    · exact risen.then (State.framingError_moves _)
    · exact risen
  all_goals exact risen

theorem State.letGo_moves (s : State) : Moves s s.letGo := by
  unfold State.letGo
  split
  · exact s.withLine_moves _
  · exact s.holdSettled_moves.then (State.riseJudged_moves _)

@[simp] theorem Line.setBuffer_txEnabled (l : Line) (b : Buffer) (r : Option Received) :
    (l.setBuffer b r).txEnabled = l.txEnabled := by
  cases b <;> rfl

theorem State.freeOldest_moves (s : State) : Moves s s.freeOldest := s.withLine_moves _ (Line.setBuffer_txEnabled _ _ _)

theorem State.refreshPeer_moves (s : State) (f : Frame) : Moves s (s.refreshPeer f) := by
  unfold State.refreshPeer
  split
  · exact s.withShr_moves _
  · simp only
    split
    · exact s.withShr_moves _
    · exact (s.withShr_moves _).then (State.rechoose_moves _)

theorem State.takeValid_moves (s : State) (f : Frame) : Moves s (s.takeValid f) := by
  unfold State.takeValid
  split
  · exact s.withLine_moves _
  · exact (s.withLine_moves _ (Line.setBuffer_txEnabled _ _ _)).then (State.refreshPeer_moves _ f)

theorem State.received_moves (s : State) (v : Verdict) : Moves s (s.received v) := by
  unfold State.received
  cases v with
  | crcError | malformed | unknownKind => dsimp only; exact s.withLine_moves _
  | clash => exact s.raiseEvent_moves _
  | valid f => exact s.takeValid_moves f

theorem State.noteComposed_moves (s : State) (k : Slot) : Moves s (s.noteComposed k) := by
  unfold State.noteComposed
  cases k with
  | status => dsimp only; exact s.withMon_moves _
  | reply => exact s.withService_moves _
  | sync =>
    dsimp only
    split
    · exact Aside.moves (.of_records (by rfl))
    · exact .refl s
  | share => exact .refl s

theorem State.loseArbitration_moves (s : State) (x : Transmission) : Moves s (s.loseArbitration x) := by
  have lost := (s.withLine_moves (fun l => { l with sending := none, arbLosses := satInc 65535 l.arbLosses }.release s.now)).then
    (State.queue_moves _ x.slot)
  unfold State.loseArbitration
  simp only
  split
  · exact lost.then (State.withMon_moves _ _)
  · exact lost.then (State.withService_moves _ _)
  · exact lost
  · exact lost

/-- A pending flag cleared at a completed STATUS (R179) leaves every condition's activity and count alone. -/
theorem State.changeMon_moves (s : State) (f : Mon → Mon) (active : ∀ k, ((f s.mon).get k).active = (s.mon.get k).active)
    (count : ∀ k, ((f s.mon).get k).count ≤ (s.mon.get k).count) : Moves s (s.changeMon f) := by
  have same (k : Cond) : (s.changeMon f).active k = s.active k := by
    unfold State.active
    rw [State.changeMon_mon, active]
  exact Aside.moves {
    straps := by simp, settings := by simp, trk := by simp, phm := by simp, cams := by simp, loop := by simp, drv := by simp
    demand := by simp, power := by simp, image := by simp, images := by simp, fault := by simp, tx := by simp
    stuck := same _
    storeFault := same _
    conditions := fun h => by
      obtain ⟨counts, events⟩ := (conditionsSound_iff_get s).mp h
      refine (conditionsSound_iff_get _).mpr ⟨fun k => ?_, fun k event => ?_⟩
      · rw [State.changeMon_mon]
        exact (count k).trans (counts k)
      · rw [same]
        exact events k event }

theorem Vector.get_set_eq {α : Type} {n : Nat} (v : Vector α n) (i : Nat) (h : i < n) (x : α) (j : Fin n) :
    (v.set i x h).get j = if i = j.val then x else v.get j := by
  show (v.set i x h)[j.val] = _
  rw [Vector.getElem_set]
  rfl

theorem State.statusCompleted_moves (s : State) : Moves s s.statusCompleted := by
  have noted : Moves s (s.withMon (fun m => { m with noted := none })) := s.withMon_moves _
  unfold State.statusCompleted
  simp only
  split
  · split
    next n _ bound =>
      have get (m : Mon) (k : Cond) :
          ({ m with records := m.records.set n { m.records.get ⟨n, bound⟩ with pending := false } : Mon }.get k).active
            = (m.get k).active
          ∧ ({ m with records := m.records.set n { m.records.get ⟨n, bound⟩ with pending := false } : Mon }.get k).count
            = (m.get k).count := by
        simp only [Mon.get, Vector.get_set_eq]
        split
        next same => rw [show (⟨n, bound⟩ : Fin 20) = k.idx from Fin.ext same]; exact ⟨rfl, rfl⟩
        · exact ⟨rfl, rfl⟩
      exact noted.then (State.changeMon_moves _ _ (fun k => (get _ k).1) fun k => (get _ k).2.le)
    · exact noted
  · exact noted

theorem State.ownerTold_moves (s : State) (k : Slot) : Moves s (s.ownerTold k) := by
  cases k with
  | status => exact s.statusCompleted_moves
  | reply => exact s.withService_moves _
  | sync | share => exact .refl s

end Sys2Proof.Machine
end

section
/-!
Service requests, the store and the start sequence read as moves, and with them every command and every step.
-/

set_option Elab.async false

namespace Sys2Proof.Machine

/-! ## Service requests (R187) -/

theorem State.serves_operating {s : State} {w : Received} (served : s.serves w = true) : s.freeOldest.operating = true := by
  simp only [State.serves, Bool.and_eq_true] at served
  obtain ⟨⟨on, -⟩, -⟩ := served
  exact (State.operating_of_pwr (by simp)).trans on

theorem State.answer_moves (s : State) (f : Frame) (result : Result) (data : List Byte) : Moves s (s.answer f result data) :=
  (s.withService_moves _).then (State.queue_moves _ _)

theorem State.readCam_moves (s : State) (f : Frame) : Moves s (s.readCam f) := by
  unfold State.readCam
  simp only
  split_ifs <;> exact s.answer_moves _ _ _

theorem State.readTracker_moves (s : State) (f : Frame) : Moves s (s.readTracker f) := by
  unfold State.readTracker
  split <;> exact s.answer_moves _ _ _

theorem State.drawn_moves (s : State) (n : Nat) : Moves s { s with freeDraws := n } := Aside.moves (.of_records (by rfl))

theorem State.readPeer_moves (s : State) (f : Frame) : Moves s (s.readPeer f) := by
  unfold State.readPeer
  simp only
  split
  · exact s.answer_moves _ _ _
  · split
    · exact s.answer_moves _ _ _
    · split
      · exact (s.answer_moves _ _ _).then (State.drawn_moves _ _)
      · exact s.answer_moves _ _ _

theorem State.readCondition_moves (s : State) (f : Frame) : Moves s (s.readCondition f) := by
  unfold State.readCondition
  simp only
  split <;> exact s.answer_moves _ _ _

theorem State.readCounters_moves (s : State) (f : Frame) : Moves s (s.readCounters f) := by
  unfold State.readCounters
  simp only
  split <;> exact s.answer_moves _ _ _

theorem State.readSetting_moves (s : State) (f : Frame) : Moves s (s.readSetting f) := by
  unfold State.readSetting
  simp only
  split_ifs <;> exact s.answer_moves _ _ _

/-- What a request asks for has one of the lengths accepted for its code (R187). -/
theorem requestOf_eq_writeSetting {payload : List Byte} (h : requestOf payload = some .writeSetting) : payload.length = 11 := by
  unfold requestOf requestOfCode at h
  split at h
  next r lengths code =>
    split at h
    next accepted =>
      obtain rfl : r = .writeSetting := Option.some.inj h
      split at code <;> cases code
      exact List.mem_singleton.mp accepted
    · cases h
  · cases h

theorem State.request_asks {s : State} {r : Option Request} {w : Received} (asked : s.request r = some w) :
    s.waiting .request = some w ∧ requestOf w.frame.payload = r := by
  unfold State.request at asked
  split at asked
  next v waits =>
    split at asked
    next asks =>
      obtain rfl : v = w := Option.some.inj asked
      exact ⟨waits, asks⟩
    · cases asked
  · cases asked

theorem State.writeSetting_moves {s : State} {f : Frame} (length : f.payload.length = 11) : Moves s (s.writeSetting f) := by
  unfold State.writeSetting
  simp only
  split_ifs with unknown
  · exact s.answer_moves _ _ _
  · exact s.answer_moves _ _ _
  · exact (Move.edit _ _ (Nat.le_of_not_lt unknown) (by simp [length])).moves.then (State.answer_moves _ _ _ _)

theorem State.learnPark_moves {s : State} (on : s.operating = true) (f : Frame) : Moves s (s.learnPark f) := by
  unfold State.learnPark
  simp only
  split_ifs with _ idle can
  · exact s.answer_moves _ _ _
  · exact s.answer_moves _ _ _
  · exact (Move.learn _ _ can idle on).moves.then (State.answer_moves _ _ _ _)
  · exact s.answer_moves _ _ _

theorem State.releaseFaulted_moves (c : Cam) (s : State) : Moves s (s.releaseFaulted c) := by
  unfold State.releaseFaulted
  split
  next faulted => exact (Move.enter c .off s.now (.inr (by simp [faulted])) (.inr (by simp [faulted]))).moves
  · exact .refl s

/-! ### The records after a clearing (R180) -/

/-- From `m` to `n` a clearing changes no record that is no latched one of a cam, but for pending and count where it was not
active. -/
structure Mon.ClearedTo (m n : Mon) : Prop where
  count    : ∀ k, (n.get k).count ≤ (m.get k).count
  inactive : ∀ k, (m.get k).active = false → (n.get k).active = false
  level    : ∀ k, (∀ c, k ≠ .coilShort c ∧ k ≠ .openLoad c ∧ k ≠ .phaseStuck c) → (n.get k).active = (m.get k).active

theorem Mon.ClearedTo.refl (m : Mon) : m.ClearedTo m := ⟨fun _ => le_rfl, fun _ h => h, fun _ _ => rfl⟩

theorem Mon.ClearedTo.trans {l m n : Mon} (h : l.ClearedTo m) (h' : m.ClearedTo n) : l.ClearedTo n :=
  ⟨fun k => (h'.count k).trans (h.count k), fun k idle => h'.inactive k (h.inactive k idle),
    fun k level => (h'.level k level).trans (h.level k level)⟩

theorem Mon.get_put_eq (m : Mon) (j k : Cond) (r : CondRecord) : (m.put k r).get j = if j = k then r else m.get j := by
  split
  next same => rw [same, Mon.get_put]
  next other => exact Mon.get_put_ne _ _ _ _ other

theorem CondRecord.released_count (r : CondRecord) : r.released.count = r.count := by
  unfold CondRecord.released
  split <;> rfl

theorem CondRecord.released_active (r : CondRecord) : r.released.active = false := by
  unfold CondRecord.released
  split
  · rfl
  next idle => exact Bool.eq_false_of_not_eq_true idle

/-- Step 2 of R180 on one latched record. -/
theorem Mon.put_released_clearedTo (m : Mon) {k : Cond} (latched : ∃ c, k = .coilShort c ∨ k = .openLoad c ∨ k = .phaseStuck c) :
    m.ClearedTo (m.put k (m.get k).released) := by
  refine ⟨fun j => ?_, fun j idle => ?_, fun j level => ?_⟩
  · rw [Mon.get_put_eq]
    split
    next same => rw [same, CondRecord.released_count]
    · exact le_rfl
  · rw [Mon.get_put_eq]
    split
    · exact CondRecord.released_active _
    · exact idle
  · rw [Mon.get_put_eq]
    split
    next same =>
      obtain ⟨c, h⟩ := latched
      obtain ⟨a, b, d⟩ := level c
      rw [same] at a b d
      rcases h with h | h | h
      · exact absurd h a
      · exact absurd h b
      · exact absurd h d
    · rfl

theorem Mon.release_clearedTo (m : Mon) (c : Cam) : m.ClearedTo (m.release c) :=
  ((m.put_released_clearedTo ⟨c, .inl rfl⟩).trans (Mon.put_released_clearedTo _ ⟨c, .inr (.inl rfl)⟩)).trans
    (Mon.put_released_clearedTo _ ⟨c, .inr (.inr rfl)⟩)

/-- Step 1 of R180. -/
theorem Mon.get_map_cleared (m : Mon) (k : Cond) :
    ({ m with records := m.records.map CondRecord.cleared } : Mon).get k = (m.get k).cleared := by
  show (m.records.map CondRecord.cleared)[k.idx.val] = _
  rw [Vector.getElem_map]
  rfl

theorem CondRecord.cleared_active (r : CondRecord) : r.cleared.active = r.active := by
  unfold CondRecord.cleared
  split <;> rfl

theorem CondRecord.cleared_count_le (r : CondRecord) : r.cleared.count ≤ r.count := by
  unfold CondRecord.cleared
  split
  · exact le_rfl
  · exact Nat.zero_le _

theorem Mon.map_cleared_clearedTo (m : Mon) : m.ClearedTo { m with records := m.records.map CondRecord.cleared } := by
  refine ⟨fun k => ?_, fun k idle => ?_, fun k _ => ?_⟩ <;> rw [Mon.get_map_cleared]
  · exact CondRecord.cleared_count_le _
  · rwa [CondRecord.cleared_active]
  · exact CondRecord.cleared_active _

theorem Mon.clear_clearedTo (m : Mon) (faulted : PerCam Bool) : m.ClearedTo (m.clear faulted) := by
  have release (b : Bool) (n : Mon) (c : Cam) : n.ClearedTo (if b then n.release c else n) := by
    split
    · exact n.release_clearedTo c
    · exact .refl n
  exact (m.map_cleared_clearedTo.trans (release faulted.i _ .i)).trans (release faulted.e _ .e)

theorem State.clearConditions_moves (s : State) : Moves s s.clearConditions := by
  refine Moves.then ?_ (bothCams_moves State.releaseFaulted_moves _)
  generalize h : (⟨decide ((s.camOf .i).state = .faulted), decide ((s.camOf .e).state = .faulted)⟩ : PerCam Bool) = faulted
  have cleared := s.mon.clear_clearedTo faulted
  exact Aside.moves {
    straps := by simp, settings := by simp, trk := by simp, phm := by simp, cams := by simp, loop := by simp, drv := by simp
    demand := by simp, power := by simp, image := by simp, images := by simp, fault := by simp, tx := by simp
    stuck := by
      unfold State.active
      rw [State.changeMon_mon]
      exact cleared.level _ fun c => ⟨nofun, nofun, nofun⟩
    storeFault := by
      unfold State.active
      rw [State.changeMon_mon]
      exact cleared.level _ fun c => ⟨nofun, nofun, nofun⟩
    conditions := fun h => by
      obtain ⟨counts, events⟩ := (conditionsSound_iff_get s).mp h
      refine (conditionsSound_iff_get _).mpr ⟨fun k => ?_, fun k event => ?_⟩
      · rw [State.changeMon_mon]
        exact (cleared.count k).trans (counts k)
      · unfold State.active
        rw [State.changeMon_mon]
        exact cleared.inactive k (events k event) }

/-! ## Flow share unit -/

theorem State.deleteExpiry_moves (s : State) (n : Nat) : Moves s (s.deleteExpiry n) := by
  have raised : Moves s (if s.lostPeer n then s.raiseEvent .peerLost else s) := by
    split
    · exact s.raiseEvent_moves _
    · exact .refl s
  exact (raised.then (State.withShr_moves _ _)).then (State.rechoose_moves _)

/-! ## Store load and wake (R184, R190, R191) -/

theorem Stored.checked_length {size : Nat} {stored : Stored} {image : List Byte} (h : stored.checked size = some image) :
    image.length = size - 2 := by
  unfold Stored.checked at h
  split at h
  · split at h
    next whole =>
      obtain rfl := Option.some.inj h
      simp only [List.length_take]
      omega
    · cases h
  · cases h

theorem bytesOfNum_length (k n : Nat) : (bytesOfNum k n).length = k := by
  induction k generalizing n with
  | zero => rfl
  | succ k ih => simp [bytesOfNum, ih]

@[simp] theorem encodeGroup_length (st : Settings) (g : Nat) : (encodeGroup st g).length = 8 := bytesOfNum_length _ _

theorem encodeSettings_length (st : Settings) : (encodeSettings st).length = 64 := by simp [encodeSettings]

theorem loadConfig_length (stored : Stored) : (loadConfig stored).2.1.length = 64 := by
  unfold loadConfig
  split
  next image whole =>
    split
    · exact Stored.checked_length whole
    · exact encodeSettings_length _
  · exact encodeSettings_length _

theorem encode_take_four (r : CamRecord) :
    r.encode.take 4 = [BitVec.ofInt 8 r.offset, if r.learned then 1 else 0] ++ bytesOfNum 2 r.hold := by
  simp [CamRecord.encode, bytesOfNum]

/-- A number of 16 bits as its two bytes. -/
theorem bytesOfNum_two_word16 (hi lo : Byte) : bytesOfNum 2 (word16 hi lo) = [hi, lo] := by
  have high : word16 hi lo / 256 = hi.toNat := by unfold word16; omega
  simp only [bytesOfNum, high, List.nil_append, List.singleton_append, List.cons.injEq, and_true]
  constructor
  · simp
  · apply BitVec.eq_of_toNat_eq
    simp only [BitVec.toNat_ofNat, word16]
    omega

/-- The record a good copy holds is that of its bytes; its spare bytes are not looked at (R184). -/
theorem CamRecord.decode_encode_take {bytes : List Byte} {r : CamRecord} (h : CamRecord.decode bytes = some r)
    (length : bytes.length = 6) : bytes.take 4 = r.encode.take 4 := by
  match bytes, length with
  | [b0, b1, b2, b3, b4, b5], _ =>
    simp only [CamRecord.decode, List.getD_cons_zero, List.getD_cons_succ] at h
    split at h
    next ranges =>
      obtain ⟨-, -, status, -, -⟩ := ranges
      obtain rfl := Option.some.inj h
      rw [encode_take_four]
      simp only [BitVec.ofInt_toInt, bytesOfNum_two_word16, decide_eq_true_eq]
      have flag : b1 = if b1.toNat = 1 then 1 else 0 := by
        apply BitVec.eq_of_toNat_eq
        split
        next one => simpa using one
        next other => show b1.toNat = 0; omega
      rw [← flag]
      rfl
    · cases h

/-- A loaded image carries the values that the load hands to their owners (R184). -/
theorem loadCam_image (stored : Stored) : (loadCam stored).2.1.take 4 = (loadCam stored).1.encode.take 4 := by
  unfold loadCam
  split
  next image whole =>
    split
    next r decoded => exact CamRecord.decode_encode_take decoded (Stored.checked_length whole)
    · rfl
  · rfl

theorem CamRecord.decode_mem {bytes : List Byte} {r : CamRecord} (h : CamRecord.decode bytes = some r) :
    (-96 ≤ r.offset ∧ r.offset ≤ 96) ∧ 300 ≤ r.hold ∧ r.hold ≤ 700 := by
  simp only [CamRecord.decode] at h
  split at h
  next ranges =>
    obtain ⟨low, high, -, least, most⟩ := ranges
    obtain rfl := Option.some.inj h
    exact ⟨⟨low, high⟩, least, most⟩
  · cases h

theorem loadCam_mem (stored : Stored) :
    (-96 ≤ (loadCam stored).1.offset ∧ (loadCam stored).1.offset ≤ 96)
    ∧ 300 ≤ (loadCam stored).1.hold ∧ (loadCam stored).1.hold ≤ 700 := by
  unfold loadCam
  split
  next image _ =>
    split
    next r decoded => exact CamRecord.decode_mem decoded
    · decide
  · decide

/-- The state with the three records read and taken, before STORE_FAULT is told of the marks (R184). -/
def State.recordsTaken (s : State) : State :=
  { s with
    settings := (loadConfig s.stored.config).1
    phm := ⟨s.phm.i.loaded (loadCam s.stored.cams.i).1, s.phm.e.loaded (loadCam s.stored.cams.e).1⟩
    loop := ⟨s.loop.i.loaded (loadCam s.stored.cams.i).1, s.loop.e.loaded (loadCam s.stored.cams.e).1⟩
    store := { s.store with
      configImage := (loadConfig s.stored.config).2.1
      camImages := ⟨(loadCam s.stored.cams.i).2.1, (loadCam s.stored.cams.e).2.1⟩
      dirty := s.loadMarks
      fault := s.loadMarks } }

theorem State.loadRecords_eq (s : State) : s.loadRecords = s.recordsTaken.tellStoreFault := rfl

theorem State.recordsTaken_camRecord (s : State) (c : Cam) :
    s.recordsTaken.camRecord c = (loadCam (s.stored.cams.get c)).1 := by
  have record (p : Phm) (k : Loop) (r : CamRecord) :
      ({ offset := (p.loaded r).offset
         learned := decide ((p.loaded r).status = .learned
           ∨ ((p.loaded r).status = .learning ∧ (p.loaded r).statusBefore = some .learned))
         hold := (k.loaded r).hold } : CamRecord) = r := by
    obtain ⟨offset, learned, hold⟩ := r
    cases learned <;> simp [Phm.loaded, Loop.loaded]
  cases c with
  | i => exact record s.phm.i s.loop.i _
  | e => exact record s.phm.e s.loop.e _

theorem State.recordsTaken_imaged (s : State) : Imaged s.recordsTaken := by
  refine ⟨loadConfig_length _, fun c => ?_⟩
  rw [State.recordsTaken_camRecord]
  cases c with
  | i => exact loadCam_image _
  | e => exact loadCam_image _

/-- What the images mirror is the offset, the stored status and the hold duty. -/
theorem Imaged.of_blocks {s t : State} (h : Imaged s) (phm : t.phm = s.phm) (loop : t.loop = s.loop)
    (image : t.store.configImage = s.store.configImage) (images : t.store.camImages = s.store.camImages) : Imaged t := by
  have record (c : Cam) : t.camRecord c = s.camRecord c := by
    unfold State.camRecord State.phmOf State.loopOf
    rw [phm, loop]
  refine ⟨by rw [image]; exact h.size, fun c => ?_⟩
  rw [images, record]
  exact h.images c

theorem State.loadRecords_imaged (s : State) : Imaged s.loadRecords :=
  s.recordsTaken_imaged.of_blocks (by simp [State.loadRecords_eq]) (by simp [State.loadRecords_eq])
    (by simp [State.loadRecords_eq]) (by simp [State.loadRecords_eq])

theorem State.enterStandby_power (s : State) : s.enterStandby.pwr.power = .standby := rfl

/-- The state at the end of the start sequence, before STANDBY is entered (R73, R117, R172). -/
def State.started (s : State) : State :=
  (((s.withCamc (fun k => { k with ageStart := some s.now })).chooseSource).withLine (fun l => { l with life := .listen })).withPwr
    (fun p => { p with sequence := none, listenTimer := some ⟨s.now, 100000⟩ })

theorem State.finishStart_eq (s : State) : s.finishStart =
    if s.started.enterStandby.pwr.crankMark then
      s.started.enterStandby.enterRun.withPwr (fun p => { p with crankMark := false })
    else s.started.enterStandby := rfl

theorem State.started_moves (s : State) : Moves s s.started :=
  (((s.withCamc_moves _).then (State.chooseSource_moves _)).then (State.withLine_moves _ _)).then (State.withPwr_moves _ _)

theorem State.started_imaged {s : State} (imaged : Imaged s) : Imaged s.started :=
  imaged.of_blocks (by simp [State.started]) (by simp [State.started]) (by simp [State.started]) (by simp [State.started])

theorem State.finishStart_moves {s : State} (imaged : Imaged s) : Moves s s.finishStart := by
  have standby : Moves s s.started.enterStandby :=
    s.started_moves.then (Move.standby fun _ => State.started_imaged imaged).moves
  rw [State.finishStart_eq]
  split
  · exact (standby.then (Move.run (State.enterStandby_power _)).moves).then (State.withPwr_moves _ _)
  · exact standby

theorem State.wakeUp_moves {s : State} (waking : s.pwr.power = .waking) : Moves s s.wakeUp := by
  have restarted : Moves s { s with now := 0 } := Aside.moves (.of_records (by rfl))
  have stands : Moves { s with now := 0 } ({ s with now := 0 } : State).enterStandby :=
    (Move.standby (by simp [waking])).moves
  unfold State.wakeUp
  exact ((((((restarted.then stands).then (State.withScan_moves _ _)).then (State.withLine_moves _ _)).then
    (State.withCamc_moves _ _)).then (State.withPwr_moves _ _)).then (State.queue_moves _ _))

/-! ## Every command and every step -/

theorem State.headEntry_operating {s : State} {e : Entry} (head : s.headEntry = some e) : s.takeHead.operating = true := by
  unfold State.headEntry at head
  split at head
  next on => exact (State.operating_of_pwr (by simp)).trans on
  · cases head

/-- Every command is a run of moves. -/
theorem Effect.moves {c : Instr} {s t : State} (effect : Effect s c t) : Moves s t := by
  have taken : Moves s s.takeHead := s.withCap_moves _
  have freed : Moves s s.freeOldest := s.freeOldest_moves
  cases effect with
  | nothing => exact .refl s
  | crankEdge => exact s.crankEdge_moves
  | camEdge c => exact s.camEdge_moves c
  | crankFilterForget | camFilterForget => exact s.withCap_moves _
  | takeCrankEntry t => exact taken.then (State.crankEntry_moves _ t)
  | takeCamEntry c t head => exact taken.then (State.camEntry_moves (State.headEntry_operating head) c t)
  | takeOverflowMarker t => exact taken.then (State.overflowMarker_moves _ t)
  | stallTimeout => exact s.enterStopped_moves
  | cycleReport r => exact freed.then (State.takeReport_moves _ _ _)
  | coilCurrentConversion c count => exact (s.addCoil_moves c _).then (State.withScan_moves _ _)
  | supplyConversion count => exact ((s.withScan_moves _).then (State.handSupply_moves _)).then (State.withScan_moves _ _)
  | pressureDiscarded count => exact s.withScan_moves _
  | pressureConversion count => exact (s.pressureCount_moves _).then (State.withScan_moves _ _)
  | temperatureConversion count =>
    exact ((s.temperatureCount_moves _).then (State.withCamc_moves _ _)).then (State.endPass_moves _)
  | scanPassStart => exact s.withScan_moves _
  | demandFrame w => exact freed.then (State.takeDemand_moves _ w)
  | demandTimeout => exact s.demandExpiry_moves
  | holdExpiry => exact s.toLossPark_moves
  | releaseExpiry c due =>
    simp only [State.releaseDue, Bool.and_eq_true, decide_eq_true_eq] at due
    obtain ⟨⟨runs, release⟩, -⟩ := due
    exact (Move.enter c .follow s.now (.inl runs) (.inr (by simp [release]))).moves
  | restedMark c due =>
    simp only [State.restedDue, Bool.and_eq_true, decide_eq_true_eq] at due
    obtain ⟨⟨parked, -⟩, -⟩ := due
    exact (Move.control c _ rfl fun h => ⟨h.parked, fun _ => parked, h.settle, h.release, h.stuck, h.idle⟩).moves
  | shareFrame r => exact (freed.then (State.withShr_moves _ _)).then (State.rechoose_moves _)
  | shareTimer => exact (s.withShr_moves _).then (State.queue_moves _ _)
  | peerStale n => exact (s.withShr_moves _).then (State.rechoose_moves _)
  | peerDelete n => exact s.deleteExpiry_moves _
  | periodBoundary c due => exact State.periodBoundary_moves due
  | onTimeEnd c => exact (Move.drive c _ rfl rfl DriveSound.off).moves
  | currentTrip c milliamps on => exact (Move.drive c _ rfl rfl fun h => h.trip on).moves
  | supplyLowExpiry => exact s.supplyLowExpiry_moves
  | supplyRecoveryExpiry => exact (s.withSupply_moves _).then (State.deactivate_moves _ rfl)
  | framingError => exact s.framingError_moves.then (State.dozeCheck_moves _)
  | lineIdle => exact Move.idle.moves
  | lineHeld => exact Move.held.moves
  | frameReceived bytes => exact (s.withLine_moves _).then (State.received_moves _ _)
  | transmitStart k => exact (s.withLine_moves _).then (State.noteComposed_moves _ k)
  | arbitrationLoss x => exact (s.loseArbitration_moves x).then (State.dozeCheck_moves _)
  | bitError => exact s.bitError_moves
  | transmitComplete x =>
    exact ((s.withLine_moves _).then (State.ownerTold_moves _ _)).then (State.dozeCheck_moves _)
  | listenEnds => exact s.withPwr_moves _
  | listenExpiry => exact ((s.withPwr_moves _).then (State.withLine_moves _ _)).then (State.queue_moves _ _)
  | statusTimer => exact (s.withMon_moves _).then (State.queue_moves _ _)
  | unserved => exact freed
  | readCam w => exact freed.then (State.readCam_moves _ _)
  | readTracker w => exact freed.then (State.readTracker_moves _ _)
  | readPeer w => exact freed.then (State.readPeer_moves _ _)
  | readCondition w => exact freed.then (State.readCondition_moves _ _)
  | readCounters w => exact freed.then (State.readCounters_moves _ _)
  | readSetting w => exact freed.then (State.readSetting_moves _ _)
  | writeSetting w asked =>
    exact freed.then (State.writeSetting_moves (requestOf_eq_writeSetting (State.request_asks asked).2))
  | learnPark w _ served => exact freed.then (State.learnPark_moves (State.serves_operating served) _)
  | clearConditions w => exact (freed.then (State.clearConditions_moves _)).then (State.answer_moves _ _ _ _)
  | unknownRequest w => exact freed.then (State.answer_moves _ _ _ _)
  | storeWriteStart r =>
    exact Aside.moves (.of_records (t := s.startWrite r) (by simp) (image := rfl) (images := rfl) (fault := rfl))
  | storeWriteEnd w readBack => exact (Move.written w readBack).moves.then (State.dozeCheck_moves _)
  | stopTimer running => exact (Move.standby (by simp [running])).moves
  | quietTimer => exact (s.withPwr_moves _).then (State.dozeCheck_moves _)
  | wakeEdge asleep => exact (Move.wake asleep).moves
  | wakeComplete waking => exact State.wakeUp_moves waking
  | reset cause => exact (Move.reset cause).moves
  | resetRelease held => exact (Move.release held).moves
  | startDelayEnd pins delayed => exact (Move.start pins delayed).moves
  | storeLoadComplete due =>
    simp only [State.loadDue, Bool.and_eq_true, decide_eq_true_eq] at due
    obtain ⟨loading, -⟩ := due
    exact (Move.load loading).moves.then (State.finishStart_moves s.loadRecords_imaged)
  | lineFallingEdge => exact s.pulledLow_moves.then (State.dozeCheck_moves _)
  | othersRelease => exact s.letGo_moves
  | startOfFrame => exact s.letGo_moves.then (State.dozeCheck_moves _)

@[simp] theorem State.clockTick_power (s : State) : s.clockTick.pwr.power = s.pwr.power := by
  unfold State.clockTick
  split <;> rfl

@[simp] theorem State.clockTick_txEnabled (s : State) : s.clockTick.line.txEnabled = s.line.txEnabled := by
  unfold State.clockTick
  split <;> simp

theorem State.clockTick_moves (s : State) : Moves s s.clockTick := Aside.moves (.of_records (by simp))

theorem State.tick_moves (s : State) : Moves s s.tick :=
  tick_keeps (P := Moves s) s.clockTick_moves fun ready => s.clockTick_moves.then (State.enterDoze_moves ready)

/-- An invariant that every move keeps is kept by every step. -/
theorem step_keeps_of_moves {P : State → Prop} (move : ∀ s t, P s → Move s t → P t) (s t : State) (kept : P s)
    (run : step s = .next t) : P t :=
  step_keeps (P := P) (fun s _ h => (Aside.moves (.of_records (by rfl))).keeps move h)
    (fun _ _ _ h effect => effect.moves.keeps move h) (fun s h => s.tick_moves.keeps move h) s t kept run

end Sys2Proof.Machine
end

section
/-!
What each move of the cam chain does to one cam's records, and the invariants of the cam machines and of MON.
-/

set_option Elab.async false

namespace Sys2Proof.Machine

/-! ## The records of a cam after a move -/

/-- After an entry each cam's record is as entered or as it was (R82). -/
theorem State.enterCam_camOf (s : State) (c : Cam) (new : CamState) (at_ : Time) (d : Cam) :
    (d = c ∧ (s.enterCam c new at_).camOf d = s.enterCtl c new at_ (s.camOf c))
    ∨ (d ≠ c ∧ (s.enterCam c new at_).camOf d = s.camOf d) := by
  obtain ⟨own, -, -, -, others, -⟩ := s.enterCam_spec c new at_
  rcases Cam.eq_or_eq_other c d with rfl | rfl
  · exact .inl ⟨rfl, own⟩
  · exact .inr ⟨by cases c <;> nofun, others⟩

theorem State.enterCam_loopOf (s : State) (c : Cam) (new : CamState) (at_ : Time) (d : Cam) :
    (s.enterCam c new at_).loopOf d = (if d = c then s.enterLoop (s.camOf c).state new (s.loopOf c) else s.loopOf d) := by
  obtain ⟨-, -, own, -, -, -, others, -⟩ := s.enterCam_spec c new at_
  rcases Cam.eq_or_eq_other c d with rfl | rfl
  · rw [own, if_pos rfl]
  · rw [others, if_neg (by cases c <;> nofun)]

theorem State.enterCam_drvOf (s : State) (c : Cam) (new : CamState) (at_ : Time) (d : Cam) :
    (s.enterCam c new at_).drvOf d = (if d = c then s.enterDrv c new (s.drvOf c) else s.drvOf d) := by
  obtain ⟨-, -, -, own, -, -, -, others, -⟩ := s.enterCam_spec c new at_
  rcases Cam.eq_or_eq_other c d with rfl | rfl
  · rw [own, if_pos rfl]
  · rw [others, if_neg (by cases c <;> nofun)]

theorem State.onCam_camOf_eq (s : State) (c d : Cam) (f : CamCtl → CamCtl) :
    (s.onCam c f).camOf d = if d = c then f (s.camOf d) else s.camOf d := by
  split
  next same => rw [same, State.onCam_camOf]
  next other => exact State.onCam_camOf_ne _ _ _ _ other

theorem State.onPhm_phmOf_eq (s : State) (c d : Cam) (f : Phm → Phm) :
    (s.onPhm c f).phmOf d = if d = c then f (s.phmOf d) else s.phmOf d := by
  split
  next same => rw [same, State.onPhm_phmOf]
  next other => exact State.onPhm_phmOf_ne _ _ _ _ other

theorem State.onLoop_loopOf_eq (s : State) (c d : Cam) (f : Loop → Loop) :
    (s.onLoop c f).loopOf d = if d = c then f (s.loopOf d) else s.loopOf d := by
  split
  next same => rw [same, State.onLoop_loopOf]
  next other => exact State.onLoop_loopOf_ne _ _ _ _ other

theorem State.onDrv_drvOf_eq (s : State) (c d : Cam) (f : Drv → Drv) :
    (s.onDrv c f).drvOf d = if d = c then f (s.drvOf d) else s.drvOf d := by
  split
  next same => rw [same, State.onDrv_drvOf]
  next other => exact State.onDrv_drvOf_ne _ _ _ _ other

/-! ## Cam machines (R80, R84, R86, R90) -/

theorem camsSound_iff (s : State) : CamsSound s ↔ ∀ c, CamSound (s.camOf c) :=
  ⟨fun ⟨i, e⟩ c => by cases c <;> assumption, fun h => ⟨h .i, h .e⟩⟩

/-- An entry leaves each timer exactly where the new state has it, whatever stood before. -/
theorem State.enterCtl_sound (s : State) (c : Cam) (new : CamState) (at_ : Time) (k : CamCtl) :
    CamSound (s.enterCtl c new at_ k) := by
  constructor <;> cases new <;> simp [State.enterCtl]

theorem Move.camSound {s t : State} (h : ∀ c, CamSound (s.camOf c)) (move : Move s t) (d : Cam) : CamSound (t.camOf d) := by
  have kept {t : State} (same : t.camc.cams = s.camc.cams) : CamSound (t.camOf d) := by
    rw [show t.camOf d = s.camOf d by unfold State.camOf; rw [same]]
    exact h d
  cases move with
  | aside same => exact kept same.cams
  | enter c new at_ =>
    obtain ⟨-, e⟩ | ⟨-, e⟩ := s.enterCam_camOf c new at_ d
    · rw [e]
      exact s.enterCtl_sound _ _ _ _
    · rw [e]
      exact h d
  | control c f _ sound =>
    rw [State.onCam_camOf_eq]
    split
    next same => exact same ▸ sound (h c)
    · exact h d
  | reset => cases d <;> constructor <;> simp [State.assertReset, State.reset, State.camOf, PerCam.both, PerCam.get]
  | doze => exact kept rfl
  | wake | release | start | standby => exact kept rfl
  | track | meter | abandon | learn | collect | loop | holdStep | demand | duty | drive | idle | held | edit | written | run
  | load => exact kept (by simp [State.startRun])

/-- Settles O8: an entry sets the timers of the new state (`State.enterCtl_sound`); no other move sets one outside its state. -/
theorem everyStepKeepsCamsSound : Obligations.EveryStepKeepsCamsSound := by
  unfold Obligations.EveryStepKeepsCamsSound
  simp only [camsSound_iff]
  exact step_keeps_of_moves (P := fun s => ∀ c, CamSound (s.camOf c)) fun _ _ h move => move.camSound h

/-! ## A machine that takes no transition (R80, R143) -/

theorem FixedCamsOff.of_blocks {s t : State} (h : FixedCamsOff s) (straps : t.straps = s.straps)
    (power : t.pwr.power = .held ∨ t.pwr.power = .startDelay ∨ t.pwr.power = .loading →
      s.pwr.power = .held ∨ s.pwr.power = .startDelay ∨ s.pwr.power = .loading)
    (state : ∀ c, (s.camOf c).state = .off → (t.camOf c).state = .off)
    (pending : ∀ c, (s.camOf c).state = .off → (s.drvOf c).pending = 0 → (t.drvOf c).pending = 0) : FixedCamsOff t := by
  refine ⟨fun c stands => ?_, fun early c => ?_⟩
  · obtain ⟨off, idle⟩ := h.fixed c (by rwa [← State.machineRuns_of_straps straps])
    exact ⟨state c off, pending c off idle⟩
  · obtain ⟨off, idle⟩ := h.start (power early) c
    exact ⟨state c off, pending c off idle⟩

theorem FixedCamsOff.of_same {s t : State} (h : FixedCamsOff s) (straps : t.straps = s.straps) (power : t.pwr.power = s.pwr.power)
    (cams : t.camc.cams = s.camc.cams) (drv : t.drv = s.drv) : FixedCamsOff t :=
  h.of_blocks straps (by rw [power]; exact id) (fun c => by unfold State.camOf; rw [cams]; exact id)
    fun c _ => by unfold State.drvOf; rw [drv]; exact id

/-- Before the store load has completed the part is not awake. -/
theorem State.operating_iff (s : State) : s.operating = true ↔ s.pwr.power = .standby ∨ s.pwr.power = .run := decide_eq_true_iff

/-- Neither a fixed machine nor one before the end of the load is ever entered anew. -/
theorem FixedCamsOff.enter {s : State} (h : FixedCamsOff s) {c : Cam} (runs : s.machineRuns c = true ∨ (s.camOf c).state ≠ .off)
    (on : s.operating = true ∨ (s.camOf c).state ≠ .off) (new : CamState) (at_ : Time) : FixedCamsOff (s.enterCam c new at_) := by
  have moves : s.machineRuns c ≠ false := by
    rcases runs with runs | active
    · simp [runs]
    · exact fun stands => active (h.fixed c stands).1
  have awake : ¬(s.pwr.power = .held ∨ s.pwr.power = .startDelay ∨ s.pwr.power = .loading) := by
    rcases on with on | active
    · rw [State.operating_iff] at on
      rcases on with on | on <;> simp [on]
    · exact fun early => active (h.start early c).1
  have same : (s.enterCam c new at_).pwr = s.pwr := by simp
  refine ⟨fun d stands => ?_, fun early => absurd (same ▸ early) awake⟩
  rw [State.machineRuns_of_straps (s := s) (by simp)] at stands
  have other : d ≠ c := by
    rintro rfl
    exact moves stands
  obtain ⟨e, -⟩ | ⟨-, e⟩ := s.enterCam_camOf c new at_ d
  · exact absurd e other
  · rw [e, State.enterCam_drvOf, if_neg other]
    exact h.fixed d stands

theorem State.openPeriod_pending (c : Cam) (s : State) (d : Cam) : ((s.openPeriod c).drvOf d).pending = (s.drvOf d).pending := by
  show ((s.onDrv c _).drvOf d).pending = _
  rw [State.onDrv_drvOf_eq]
  split <;> rfl

theorem State.enterRun_pending (s : State) (d : Cam) : (s.enterRun.drvOf d).pending = (s.drvOf d).pending := by
  unfold State.enterRun State.bothCams
  simp only
  rw [State.openPeriod_pending, State.openPeriod_pending]
  rfl

@[simp] theorem State.openPeriod_camOf (c : Cam) (s : State) (d : Cam) : (s.openPeriod c).camOf d = s.camOf d := rfl

theorem State.stopDrivers_pending (s : State) (d : Cam) : (s.stopDrivers.drvOf d).pending = (s.drvOf d).pending := by
  cases d <;> rfl

theorem State.enterDoze_drv (s : State) : s.enterDoze.drv = s.stopDrivers.drv := by simp [State.enterDoze, State.stopDrivers]

theorem State.enterRun_camOf (s : State) (c : Cam) : s.enterRun.camOf c = s.camOf c := by
  simp [State.camOf]

theorem State.enterStandby_drv (s : State) : s.enterStandby.drv = s.stopDrivers.drv := by simp [State.enterStandby]

theorem State.enterDoze_camOf (s : State) (c : Cam) : s.enterDoze.camOf c = s.camOf c := by
  simp [State.enterDoze, State.camOf, Camc.dozed]

theorem Move.fixedCamsOff {s t : State} (h : FixedCamsOff s) (move : Move s t) : FixedCamsOff t := by
  cases move with
  | aside same => exact h.of_same same.straps same.power same.cams same.drv
  | enter c new at_ runs on => exact h.enter runs on new at_
  | control c f state =>
    refine h.of_blocks rfl id (fun d off => ?_) fun _ _ idle => idle
    rw [State.onCam_camOf_eq]
    split
    next same => rw [same, state, ← same, off]
    · exact off
  | duty c n _ active =>
    refine h.of_blocks rfl id (fun _ => id) fun d off idle => ?_
    rw [State.onDrv_drvOf_eq, if_neg (by rintro rfl; exact active off), idle]
  | drive c f pending =>
    refine h.of_blocks rfl id (fun _ => id) fun d off idle => ?_
    rw [State.onDrv_drvOf_eq]
    split
    next same => rw [same, pending, ← same, idle]
    · exact idle
  | run standby =>
    refine h.of_blocks (by simp) (fun early => ?_) (fun c off => by rwa [s.enterRun_camOf c])
      fun c _ idle => (s.enterRun_pending c).trans idle
    exact absurd early (by simp [State.enterRun, State.bothCams])
  | standby =>
    refine h.of_blocks (by simp) (fun early => ?_) (fun c off => by rwa [State.camOf_of_camc (s := s) (by simp) c])
      fun c _ idle => ?_
    · exact absurd early (by simp [State.enterStandby_power])
    · rwa [State.drvOf_of_drv s.enterStandby_drv, State.stopDrivers_pending]
  | doze =>
    refine h.of_blocks (by simp) (fun early => ?_) (fun c off => by rwa [s.enterDoze_camOf c]) fun c _ idle => ?_
    · exact absurd early (by simp [State.enterDoze])
    · rwa [State.drvOf_of_drv s.enterDoze_drv, State.stopDrivers_pending]
  | wake => exact h.of_blocks rfl (by simp) (fun _ => id) fun _ _ => id
  | reset =>
    refine ⟨fun c _ => ?_, fun _ c => ?_⟩ <;> cases c <;> exact ⟨rfl, rfl⟩
  | release held => exact h.of_blocks rfl (fun _ => .inl held) (fun _ => id) fun _ _ => id
  | start pins delayed =>
    have off := h.start (.inr (.inl delayed))
    exact ⟨fun c _ => off c, fun _ => off⟩
  | track | meter | abandon | learn | collect | loop | holdStep | demand | idle | held | edit | written | load =>
    exact h.of_same (by simp [State.startRun]) (by simp [State.startRun]) (by simp [State.startRun]) (by simp [State.startRun])

/-- Settles O9: what moves a machine or writes a duty is made only of machines that take transitions, after the load
(`FixedCamsOff.enter`). -/
theorem everyStepKeepsFixedCamsOff : Obligations.EveryStepKeepsFixedCamsOff := by
  unfold Obligations.EveryStepKeepsFixedCamsOff
  exact step_keeps_of_moves fun _ _ h move => move.fixedCamsOff h

/-! ## Condition records (R174) -/

theorem ConditionsSound.collect {s : State} (h : ConditionsSound s) (c : Cam) (raw : Int) : ConditionsSound (s.collect c raw) := by
  unfold State.collect State.evaluateRun
  simp only
  split_ifs
  · exact h.of_records (by simp)
  · refine ConditionsSound.raiseEvent (h.of_records ?_) _
    simp
  · exact h.of_records (by simp)
  · exact h

theorem ConditionsSound.tellStoreFault {s : State} (h : ConditionsSound s) : ConditionsSound s.tellStoreFault := by
  unfold State.tellStoreFault
  split
  · exact h.activate (by simp)
  · exact h.deactivate _

theorem Move.conditionsSound {s t : State} (h : ConditionsSound s) (move : Move s t) : ConditionsSound t := by
  cases move with
  | aside same => exact same.conditions h
  | collect c raw => exact h.collect c raw
  | idle =>
    have enabled : ConditionsSound (s.withLine (fun l => { l with txEnabled := true, receiver := .idle })) := h.of_records rfl
    exact enabled.deactivate _
  | held =>
    have stuck : ConditionsSound (s.activate .lineStuck) := h.activate (by simp)
    exact stuck.of_records rfl
  | written =>
    unfold State.endWrite
    exact ConditionsSound.tellStoreFault (h.of_records (by simp))
  | load =>
    rw [State.loadRecords_eq]
    exact ConditionsSound.tellStoreFault (h.of_records (by simp [State.recordsTaken]))
  | reset =>
    exact ⟨fun k => by simp [State.assertReset, State.reset, Vector.get], fun k _ => by
      simp [State.active, Mon.get, State.assertReset, State.reset, Vector.get]⟩
  | run | standby | doze => exact h.of_records (by simp [State.enterRun, State.bothCams, State.enterStandby, State.enterDoze])
  | track | meter | abandon | learn | enter | control | loop | holdStep | demand | duty | drive | edit | wake | release | start =>
    exact h.of_records (by simp [State.startRun])

/-- Settles O12: MON's three operations keep `ConditionsSound`, since no owner activates an event. -/
theorem everyStepKeepsConditionsSound : Obligations.EveryStepKeepsConditionsSound := by
  unfold Obligations.EveryStepKeepsConditionsSound
  exact step_keeps_of_moves fun _ _ h move => move.conditionsSound h

end Sys2Proof.Machine
end

section
/-!
The invariants of LOOP and the duties, of park learning, of the valve drivers, and of what mirrors other blocks.
-/

set_option Elab.async false

namespace Sys2Proof.Machine

/-! ## LOOP and the duties (R93, R105 to R113) -/

theorem loopSound_iff (s : State) : LoopSound s ↔
    (s.settings.iLim ≤ 300 ∧ s.settings.releaseOffset ≤ 200)
    ∧ ∀ c, (s.loopOf c).Bounded ∧ s.shr.demand.get c ≤ 500 ∧ (s.drvOf c).pending ≤ 1000 :=
  ⟨fun ⟨bound, offset, hold, marked, integral, duty, settled, demand, pending⟩ =>
    ⟨⟨bound, offset⟩, fun c => ⟨⟨hold c, marked c, integral c, duty c, settled c⟩, demand c, pending c⟩⟩,
   fun ⟨⟨bound, offset⟩, h⟩ => ⟨bound, offset, fun c => (h c).1.hold, fun c => (h c).1.marked, fun c => (h c).1.integral,
    fun c => (h c).1.duty, fun c => (h c).1.settled, fun c => (h c).2.1, fun c => (h c).2.2⟩⟩

theorem LoopSound.of_blocks {s t : State} (h : LoopSound s) (settings : t.settings = s.settings)
    (loop : ∀ c, (s.loopOf c).Bounded → (t.loopOf c).Bounded)
    (demand : ∀ c, s.shr.demand.get c ≤ 500 → t.shr.demand.get c ≤ 500)
    (pending : ∀ c, (s.drvOf c).pending ≤ 1000 → (t.drvOf c).pending ≤ 1000) : LoopSound t := by
  obtain ⟨limits, each⟩ := (loopSound_iff s).mp h
  refine (loopSound_iff t).mpr ⟨by rwa [settings], fun c => ?_⟩
  obtain ⟨bounded, asked, duty⟩ := each c
  exact ⟨loop c bounded, demand c asked, pending c duty⟩

theorem LoopSound.of_same {s t : State} (h : LoopSound s) (settings : t.settings = s.settings) (loop : t.loop = s.loop)
    (demand : t.shr.demand = s.shr.demand) (drv : t.drv = s.drv) : LoopSound t :=
  h.of_blocks settings (fun c b => by rwa [State.loopOf_of_loop loop]) (fun c b => by rwa [demand])
    fun c b => by rwa [State.drvOf_of_drv drv]

theorem Loop.Bounded.holdStep {k : Loop} (h : k.Bounded) : k.holdStep.Bounded := by
  obtain ⟨hold, marked, integral, duty, settled⟩ := h
  by_cases raised : 256 ≤ k.integral ∧ k.hold < 700
  · rw [Loop.holdStep_of_raise raised.1 raised.2]
    exact ⟨by dsimp only; omega, marked, by dsimp only; omega, duty, settled⟩
  · by_cases lowered : k.integral ≤ -256 ∧ 300 < k.hold
    · rw [Loop.holdStep_of_lower lowered.1 lowered.2]
      exact ⟨by dsimp only; omega, marked, by dsimp only; omega, duty, settled⟩
    · rw [Loop.holdStep_of_neither raised lowered]
      exact ⟨hold, marked, integral, duty, settled⟩

/-- A hold step changes LOOP's record; a new hold duty goes into the CAM image, and where it has drifted it is marked and the record
dirty (R113, R114, R183). -/
theorem State.holdStep_cases (s : State) (c : Cam) :
    ((s.loopOf c).holdStep.hold = (s.loopOf c).hold ∧ s.holdStep c = s.onLoop c Loop.holdStep)
    ∨ ((s.loopOf c).holdStep.hold ≠ (s.loopOf c).hold ∧ (s.loopOf c).holdStep.drifted = false
      ∧ s.holdStep c = (s.onLoop c Loop.holdStep).refreshImage c)
    ∨ ((s.loopOf c).holdStep.hold ≠ (s.loopOf c).hold ∧ (s.loopOf c).holdStep.drifted = true
      ∧ s.holdStep c = (((s.onLoop c Loop.holdStep).refreshImage c).onLoop c (fun k => { k with marked := k.hold })).markDirty
          (.cam c)) := by
  have stepped : (s.onLoop c Loop.holdStep).loopOf c = (s.loopOf c).holdStep := State.onLoop_loopOf _ _ _
  have refreshed : ((s.onLoop c Loop.holdStep).refreshImage c).loopOf c = (s.loopOf c).holdStep :=
    (State.loopOf_of_loop (by simp) c).trans stepped
  unfold State.holdStep
  simp only [stepped, refreshed]
  split_ifs with same drift
  · exact .inl ⟨same, rfl⟩
  · exact .inr (.inr ⟨same, drift, rfl⟩)
  · exact .inr (.inl ⟨same, Bool.eq_false_of_not_eq_true drift, rfl⟩)

theorem LoopSound.onLoop {s : State} (h : LoopSound s) (c : Cam) {f : Loop → Loop}
    (bounded : (s.loopOf c).Bounded → (f (s.loopOf c)).Bounded) : LoopSound (s.onLoop c f) := by
  refine h.of_blocks rfl (fun d kept => ?_) (fun _ => id) fun _ => id
  rw [State.onLoop_loopOf_eq]
  split
  next same => rw [same] at kept ⊢; exact bounded kept
  · exact kept

theorem LoopSound.holdStep {s : State} (h : LoopSound s) (c : Cam) : LoopSound (s.holdStep c) := by
  have stepped : LoopSound (s.onLoop c Loop.holdStep) := h.onLoop c Loop.Bounded.holdStep
  have refreshed : LoopSound ((s.onLoop c Loop.holdStep).refreshImage c) := stepped.of_same rfl rfl rfl rfl
  obtain ⟨-, e⟩ | ⟨-, -, e⟩ | ⟨-, -, e⟩ := s.holdStep_cases c <;> rw [e]
  · exact stepped
  · exact refreshed
  · have marked : LoopSound (((s.onLoop c Loop.holdStep).refreshImage c).onLoop c (fun k => { k with marked := k.hold })) :=
      refreshed.onLoop c fun b => ⟨b.hold, b.hold, b.integral, b.duty, b.settled⟩
    exact marked.of_same rfl rfl rfl rfl

theorem LoopSound.enter {s : State} (h : LoopSound s) (c : Cam) (new : CamState) (at_ : Time) :
    LoopSound (s.enterCam c new at_) := by
  obtain ⟨⟨-, offset⟩, each⟩ := (loopSound_iff s).mp h
  obtain ⟨bounded, -, -⟩ := each c
  refine h.of_blocks (by simp) (fun d kept => ?_) (fun d kept => ?_) fun d kept => ?_
  · rw [State.enterCam_loopOf]
    split
    · refine ⟨bounded.hold, bounded.marked, ?_, bounded.duty, (by decide : 0 < 4000)⟩
      have := bounded.integral
      show -76800 ≤ (if new = .parking then _ else _) ∧ (if new = .parking then _ else _) ≤ 76800
      split <;> omega
    · exact kept
  · obtain ⟨-, -, -, -, -, -, -, -, -, shr⟩ := s.enterCam_spec c new at_
    rw [shr]
    split
    · rcases Cam.eq_or_eq_other c d with rfl | rfl
      · exact (PerCam.get_set s.shr.demand d 0).trans_le (Nat.zero_le _)
      · exact (PerCam.get_set_other s.shr.demand c 0).trans_le kept
    · exact kept
  · rw [State.enterCam_drvOf]
    split
    next same =>
      subst same
      have := bounded.hold
      cases new <;> simp only [State.enterDrv] <;> omega
    · exact kept

theorem clampNat_le {lo hi : Nat} (order : lo ≤ hi) (x : Nat) : clampNat lo hi x ≤ hi := by
  unfold clampNat
  omega

theorem loadConfig_limits (stored : Stored) :
    (loadConfig stored).1.iLim ≤ 300 ∧ (loadConfig stored).1.releaseOffset ≤ 200 := by
  unfold loadConfig
  split
  · split
    · exact ⟨clampNat_le (by decide) _, clampNat_le (by decide) _⟩
    · decide
  · decide

theorem LoopSound.load {s : State} (h : LoopSound s) : LoopSound s.loadRecords := by
  obtain ⟨-, each⟩ := (loopSound_iff s).mp h
  have taken : LoopSound s.recordsTaken := by
    refine (loopSound_iff _).mpr ⟨loadConfig_limits _, fun c => ?_⟩
    obtain ⟨bounded, asked, duty⟩ := each c
    obtain ⟨-, hold⟩ := loadCam_mem (s.stored.cams.get c)
    refine ⟨?_, asked, duty⟩
    cases c <;> exact ⟨hold, hold, bounded.integral, bounded.duty, bounded.settled⟩
  rw [State.loadRecords_eq]
  exact taken.of_same (by simp) (by simp) (by simp) (by simp)

theorem loopSound_reset : LoopSound State.reset := by
  refine (loopSound_iff _).mpr ⟨by decide, fun c => ?_⟩
  cases c <;> exact ⟨⟨by decide, by decide, by decide, by decide, by decide⟩, by decide, by decide⟩

theorem Move.loopSound {s t : State} (h : LoopSound s) (move : Move s t) : LoopSound t := by
  obtain ⟨⟨limit, -⟩, -⟩ := (loopSound_iff s).mp h
  cases move with
  | aside same => exact h.of_same same.settings same.loop same.demand same.drv
  | enter c new at_ => exact h.enter c new at_
  | loop c f _ bounded => exact h.onLoop c (bounded limit)
  | holdStep c => exact h.holdStep c
  | demand c d bound =>
    refine h.of_blocks (by simp) (fun _ b => by rwa [State.loopOf_of_loop (s := s) (by simp)]) (fun other kept => ?_)
      fun _ b => by rwa [State.drvOf_of_drv (s := s) (by simp)]
    rw [State.setDemand_shr]
    rcases Cam.eq_or_eq_other c other with rfl | rfl
    · exact (PerCam.get_set s.shr.demand other d).trans_le bound
    · exact (PerCam.get_set_other s.shr.demand c d).trans_le kept
  | duty c n bound =>
    refine h.of_blocks rfl (fun _ => id) (fun _ => id) fun d kept => ?_
    rw [State.onDrv_drvOf_eq]
    split
    · exact bound
    · exact kept
  | drive c f pending =>
    refine h.of_blocks rfl (fun _ => id) (fun _ => id) fun d kept => ?_
    rw [State.onDrv_drvOf_eq]
    split
    next same => rw [same] at kept ⊢; rwa [pending]
    · exact kept
  | run =>
    refine h.of_blocks (by simp) (fun c b => by rwa [State.loopOf_of_loop (s := s) (by simp) c]) (fun c b => ?_)
      fun c b => (s.enterRun_pending c).trans_le b
    simpa [State.enterRun, State.bothCams] using b
  | standby =>
    refine h.of_blocks (by simp) (fun c b => by rwa [State.loopOf_of_loop (s := s) (by simp) c]) (fun c b => ?_) fun c b => ?_
    · simpa [State.enterStandby, State.stopDrivers] using b
    · rwa [State.drvOf_of_drv s.enterStandby_drv, State.stopDrivers_pending]
  | doze =>
    refine h.of_blocks (by simp) (fun c b => by rwa [State.loopOf_of_loop (s := s) (by simp) c]) (fun c b => ?_) fun c b => ?_
    · simpa [State.enterDoze, Shr.dozed, State.stopDrivers] using b
    · rwa [State.drvOf_of_drv s.enterDoze_drv, State.stopDrivers_pending]
  | reset cause => exact loopSound_reset.of_same rfl rfl rfl rfl
  | load => exact h.load
  | track | meter | abandon | learn | collect | control | idle | held | edit | written | wake | release | start =>
    exact h.of_same (by simp [State.startRun]) (by simp [State.startRun]) (by simp [State.startRun]) (by simp [State.startRun])

/-- Settles O15: the stages keep `Loop.Bounded` (`Loop.Bounded.written`, `Loop.Bounded.holdStep`), and every duty written is
within 0..1000. -/
theorem everyStepKeepsLoopSound : Obligations.EveryStepKeepsLoopSound := by
  unfold Obligations.EveryStepKeepsLoopSound
  exact step_keeps_of_moves fun _ _ h move => move.loopSound h

end Sys2Proof.Machine
end

section
/-!
The invariant of park learning: how far a run may go on, and what each operation of chapter 3 makes of one.
-/

set_option Elab.async false

namespace Sys2Proof.Machine

/-! ## The rounded mean (R61, R62) -/

/-- Settles O21: the quotient of `|s| + 16` by 32 is the nearest whole number to `|s| / 32`, its half rounded up, and the sign is
put back after. -/
theorem learnedOffsetIsTheRoundedMean : Obligations.LearnedOffsetIsTheRoundedMean := by
  unfold Obligations.LearnedOffsetIsTheRoundedMean
  intro s
  unfold roundedMean
  split <;> omega

/-! ## One cam's learning (R58, R59, R61, R64) -/

/-- A cam may be LEARNING: PARKED, in CYCLE_SYNC, after the store load. -/
def State.mayLearn (s : State) (c : Cam) : Prop :=
  ((s.camOf c).state = .parked ∧ s.trk.state = .cycleSync)
  ∧ ¬(s.pwr.power = .held ∨ s.pwr.power = .startDelay ∨ s.pwr.power = .loading)

/-- One cam's learning is sound where `may` is whether the cam may be LEARNING. -/
structure Phm.Learns (p : Phm) (may : Prop) : Prop where
  before    : p.status = .learning ↔ p.statusBefore.isSome = true
  nested    : p.statusBefore ≠ some .learning
  may       : p.status = .learning → may
  collected : p.collector ≠ [] → p.status = .learning
  fewer     : p.collector.length < 32
  offset    : -96 ≤ p.offset ∧ p.offset ≤ 96

theorem learnSound_iff (s : State) : LearnSound s ↔ ∀ c, (s.phmOf c).Learns (s.mayLearn c) := by
  constructor
  · rintro ⟨before, nested, parked, collected, fewer, offset, start⟩ c
    exact ⟨before c, nested c, fun run => ⟨parked c run, fun early => start early c run⟩, collected c, fewer c, offset c⟩
  · intro h
    exact ⟨fun c => (h c).before, fun c => (h c).nested, fun c run => ((h c).may run).1, fun c => (h c).collected,
      fun c => (h c).fewer, fun c => (h c).offset, fun early c run => ((h c).may run).2 early⟩

namespace Phm.Learns

variable {p q : Phm} {m n : Prop}

/-- A run may go on where it might before; without a run nothing is asked. -/
theorem mono (h : p.Learns m) (may : p.status = .learning → m → n) : p.Learns n :=
  ⟨h.before, h.nested, fun run => may run (h.may run), h.collected, h.fewer, h.offset⟩

theorem of_fields (h : p.Learns m) (offset : q.offset = p.offset) (status : q.status = p.status)
    (before : q.statusBefore = p.statusBefore) (collector : q.collector = p.collector) : q.Learns m := by
  refine ⟨?_, ?_, ?_, ?_, ?_, ?_⟩
  · rw [status, before]; exact h.before
  · rw [before]; exact h.nested
  · rw [status]; exact h.may
  · rw [status, collector]; exact h.collected
  · rw [collector]; exact h.fewer
  · rw [offset]; exact h.offset

theorem not_learning_of_ended (h : p.Learns m) (ended : p.Ended) : p.status ≠ .learning := by
  rcases ended with idle | none
  · exact idle
  · intro run
    have := h.before.mp run
    simp [none] at this

/-- The status a run returns to is never LEARNING. -/
theorem statusAfter_ne (h : p.Learns m) : p.statusAfter ≠ .learning := by
  unfold Phm.statusAfter
  cases e : p.statusBefore with
  | none => nofun
  | some b => exact fun again => h.nested (by rw [e, ← again]; rfl)

/-- A record with no run and nothing collected. -/
theorem of_idle (status : p.status ≠ .learning) (before : p.statusBefore = none) (collector : p.collector = [])
    (offset : -96 ≤ p.offset ∧ p.offset ≤ 96) : p.Learns m :=
  ⟨by simp [status, before], by simp [before], fun run => absurd run status, by simp [collector], by simp [collector], offset⟩

theorem abandon (h : p.Learns m) : p.abandon.Learns n := by
  unfold Phm.abandon
  split
  · exact of_idle h.statusAfter_ne rfl rfl h.offset
  next idle => exact h.mono fun run => absurd run idle

theorem startRun (h : p.Learns m) (idle : p.status ≠ .learning) (may : n) (o : LearnOrigin) : (p.startRun o).Learns n :=
  ⟨by simp [Phm.startRun], fun e => idle (Option.some.inj e), fun _ => may, by simp [Phm.startRun], by simp [Phm.startRun],
    h.offset⟩

theorem fail (h : p.Learns m) : p.fail.Learns m := of_idle h.statusAfter_ne rfl rfl h.offset

theorem collect (h : p.Learns m) (run : p.status = .learning) (raw : Int) (fewer : (p.collector ++ [raw]).length < 32) :
    Learns { p with collector := p.collector ++ [raw] } m :=
  ⟨h.before, h.nested, h.may, fun _ => run, fewer, h.offset⟩

end Phm.Learns

/-- A successful run leaves LEARNED with an offset in range, whatever stood before. -/
theorem Phm.succeed_learns (p : Phm) {m : Prop} (ok : runSucceeds p.collector = true) : p.succeed.Learns m := by
  obtain ⟨-, low, high⟩ := of_decide_eq_true ok
  obtain ⟨-, -, -, -, range⟩ := learnedOffsetIsTheRoundedMean p.collector.sum
  exact Phm.Learns.of_idle nofun rfl rfl (range low high)

theorem Phm.Learns.failed_collect {p : Phm} {m : Prop} (h : p.Learns m) (raw : Int) :
    (Phm.fail { p with collector := p.collector ++ [raw] }).Learns m :=
  Phm.Learns.of_idle h.statusAfter_ne rfl rfl h.offset

/-- The record of a LEARNING cam with one more value, evaluated at the 32nd. -/
def Phm.collected (p : Phm) (raw : Int) : Phm :=
  let q : Phm := { p with collector := p.collector ++ [raw] }
  if 32 ≤ q.collector.length then (if runSucceeds q.collector then q.succeed else q.fail) else q

@[simp] theorem State.raiseEvent_phmOf (s : State) (k : Cond) (d : Cam) : (s.raiseEvent k).phmOf d = s.phmOf d := by
  simp [State.phmOf]

@[simp] theorem State.markDirty_phmOf (s : State) (r : Rec) (d : Cam) : (s.markDirty r).phmOf d = s.phmOf d := rfl

@[simp] theorem State.refreshImage_phmOf (s : State) (c d : Cam) : (s.refreshImage c).phmOf d = s.phmOf d := rfl

theorem State.collect_phmOf (s : State) (c : Cam) (raw : Int) (d : Cam) :
    (s.collect c raw).phmOf d
      = (s.onPhm c fun p => if p.status = .learning then p.collected raw else p).phmOf d := by
  unfold State.collect State.evaluateRun Phm.collected
  rw [State.onPhm_phmOf_eq]
  by_cases same : d = c
  · subst same
    simp only [State.onPhm_phmOf]
    split_ifs <;> simp
  · simp only [if_neg same]
    split_ifs <;> simp [State.onPhm_phmOf_ne _ _ _ _ same]

theorem Phm.Learns.withValue {p : Phm} {m : Prop} (h : p.Learns m) (run : p.status = .learning) (raw : Int) :
    (p.collected raw).Learns m := by
  unfold Phm.collected
  simp only
  split_ifs with full ok
  · exact Phm.succeed_learns _ ok
  · exact h.failed_collect raw
  · exact h.collect run raw (by omega)

/-! ## Every move (R58, R64) -/

theorem State.mayLearn_of_blocks {s t : State} (trk : t.trk = s.trk) (power : t.pwr.power = s.pwr.power) {c : Cam}
    (state : (t.camOf c).state = (s.camOf c).state) : t.mayLearn c = s.mayLearn c := by
  unfold State.mayLearn
  rw [trk, power, state]

theorem LearnSound.of_same {s t : State} (h : LearnSound s) (phm : t.phm = s.phm)
    (may : ∀ c, s.mayLearn c → t.mayLearn c) : LearnSound t := by
  rw [learnSound_iff] at h ⊢
  intro c
  rw [State.phmOf_of_phm phm]
  exact (h c).mono fun _ => may c

theorem LearnSound.of_blocks {s t : State} (h : LearnSound s) (phm : t.phm = s.phm) (trk : t.trk = s.trk)
    (power : t.pwr.power = s.pwr.power) (state : ∀ c, (t.camOf c).state = (s.camOf c).state) : LearnSound t :=
  h.of_same phm fun c => by rw [State.mayLearn_of_blocks trk power (state c)]; exact id

/-- A change of one cam's record that leaves the rest of the learning alone. -/
theorem LearnSound.onPhm {s : State} (h : LearnSound s) (c : Cam) {f : Phm → Phm}
    (learns : (s.phmOf c).Learns (s.mayLearn c) → (f (s.phmOf c)).Learns (s.mayLearn c)) : LearnSound (s.onPhm c f) := by
  rw [learnSound_iff] at h ⊢
  intro d
  have may : (s.onPhm c f).mayLearn d = s.mayLearn d := rfl
  rw [may, State.onPhm_phmOf_eq]
  split
  next same => subst same; exact learns (h d)
  · exact h d

/-- A cam that leaves PARKED has its run abandoned; one that did not stand in PARKED had none. -/
theorem LearnSound.enter {s : State} (h : LearnSound s) (c : Cam) (new : CamState) (at_ : Time) :
    LearnSound (s.enterCam c new at_) := by
  rw [learnSound_iff] at h ⊢
  intro d
  have trk : (s.enterCam c new at_).trk = s.trk := by simp
  have pwr : (s.enterCam c new at_).pwr = s.pwr := by simp
  obtain ⟨-, own, -, -, ownState, others, -⟩ := s.enterCam_spec c new at_
  rcases Cam.eq_or_eq_other c d with rfl | rfl
  · rw [own]
    split
    · exact (h d).abandon
    next stays =>
      refine (h d).mono fun _ ⟨⟨parked, sync⟩, late⟩ => ⟨⟨?_, by rwa [trk]⟩, by rwa [pwr]⟩
      have : new = .parked := by
        by_contra leaves
        exact stays ⟨parked, leaves⟩
      simpa using this
  · rw [others, State.mayLearn_of_blocks trk (by rw [pwr]) (congrArg CamCtl.state ownState)]
    exact h _

theorem LearnSound.collect {s : State} (h : LearnSound s) (c : Cam) (raw : Int) : LearnSound (s.collect c raw) := by
  have collected : LearnSound (s.onPhm c fun p => if p.status = .learning then p.collected raw else p) :=
    h.onPhm c fun learns => by
      split
      next run => exact learns.withValue run raw
      · exact learns
  rw [learnSound_iff] at collected ⊢
  intro d
  rw [State.collect_phmOf, State.mayLearn_of_blocks (s := s) (by simp) (by simp) (by rw [State.camOf_of_camc (s := s) (by simp)])]
  exact collected d

theorem Phm.loaded_status_ne (p : Phm) (r : CamRecord) : (p.loaded r).status ≠ .learning := by
  unfold Phm.loaded
  cases r.learned <;> nofun

theorem LearnSound.load {s : State} (h : LearnSound s) (loading : s.pwr.power = .loading) : LearnSound s.loadRecords := by
  have before := (learnSound_iff s).mp h
  have taken : LearnSound s.recordsTaken := by
    rw [learnSound_iff]
    intro c
    have idle := h.start (.inr (.inr loading)) c
    have collector : (s.phmOf c).collector = [] := by
      by_contra some
      exact idle ((before c).collected some)
    have none : (s.phmOf c).statusBefore = none := by
      by_contra some
      exact idle ((before c).before.mpr (Option.isSome_iff_ne_none.mpr some))
    obtain ⟨range, -⟩ := loadCam_mem (s.stored.cams.get c)
    cases c <;> exact Phm.Learns.of_idle (Phm.loaded_status_ne _ _) none collector range
  rw [State.loadRecords_eq]
  exact taken.of_blocks (by simp) (by simp) (by simp) fun c => by rw [State.camOf_of_camc (s := s.recordsTaken) (by simp)]

theorem learnSound_reset : LearnSound State.reset := by
  rw [learnSound_iff]
  intro c
  cases c <;> exact Phm.Learns.of_idle nofun rfl rfl (by decide)

theorem LearnSound.track {s : State} (h : LearnSound s) {f : Trk → Trk}
    (sync : s.trk.state = .cycleSync → (f s.trk).state = .cycleSync ∨ ∀ c, (s.phmOf c).Ended) : LearnSound (s.withTrk f) := by
  rw [learnSound_iff] at h ⊢
  intro c
  refine (h c).mono fun run ⟨⟨parked, synced⟩, late⟩ => ⟨⟨parked, ?_⟩, late⟩
  rcases sync synced with kept | ended
  · exact kept
  · exact absurd run ((h c).not_learning_of_ended (ended c))

theorem State.enterDoze_phmOf (s : State) (c : Cam) : s.enterDoze.phmOf c = (s.phmOf c).dozed := by
  cases c <;> simp [State.enterDoze, State.phmOf, PerCam.get]

theorem State.enterDoze_power (s : State) : s.enterDoze.pwr.power = .doze := by simp [State.enterDoze]

theorem State.enterRun_power (s : State) : s.enterRun.pwr.power = .run := by simp [State.enterRun, State.bothCams]

theorem Move.learnSound {s t : State} (h : LearnSound s) (move : Move s t) : LearnSound t := by
  have each := (learnSound_iff s).mp h
  cases move with
  | aside same => exact h.of_blocks same.phm same.trk same.power fun c => by unfold State.camOf; rw [same.cams]
  | track f sync => exact h.track sync
  | meter c f offset status before collector => exact h.onPhm c fun learns => learns.of_fields offset status before collector
  | abandon c => exact h.onPhm c fun learns => learns.abandon
  | learn c o can idle on =>
    obtain ⟨parked, -, sync, -⟩ := of_decide_eq_true can
    rw [State.operating_iff] at on
    refine h.onPhm c fun learns => learns.startRun idle ⟨⟨parked, sync⟩, ?_⟩ o
    rcases on with on | on <;> simp [on]
  | collect c raw => exact h.collect c raw
  | enter c new at_ => exact h.enter c new at_
  | control c f state =>
    refine h.of_blocks rfl rfl rfl fun d => ?_
    rw [State.onCam_camOf_eq]
    split
    next same => rw [same, state]
    · rfl
  | reset => exact learnSound_reset.of_same rfl fun c => by cases c <;> nofun
  | load loading => exact h.load loading
  | run standby =>
    exact h.of_same (by simp) fun c ⟨⟨parked, sync⟩, _⟩ =>
      ⟨⟨by rwa [s.enterRun_camOf c], by simpa using sync⟩, by simp [State.enterRun_power]⟩
  | standby =>
    exact h.of_same (by simp) fun c ⟨⟨parked, sync⟩, _⟩ =>
      ⟨⟨by rwa [State.camOf_of_camc (s := s) (by simp)], by simpa using sync⟩, by simp [State.enterStandby_power]⟩
  | doze standby =>
    refine (learnSound_iff _).mpr fun c => ?_
    have slept : (s.enterDoze.phmOf c).Learns (s.mayLearn c) := by
      rw [State.enterDoze_phmOf]
      exact (each c).of_fields rfl rfl rfl rfl
    exact slept.mono fun _ ⟨⟨parked, sync⟩, _⟩ =>
      ⟨⟨by rwa [s.enterDoze_camOf c], by simpa using sync⟩, by simp [State.enterDoze_power]⟩
  | wake asleep => exact h.of_same rfl fun c ⟨stands, _⟩ => ⟨stands, by simp [State.withPwr]⟩
  | release held => exact h.of_same rfl fun c ⟨_, late⟩ => absurd (.inl held) late
  | start pins delayed => exact h.of_same rfl fun c ⟨_, late⟩ => absurd (.inr (.inl delayed)) late
  | loop | holdStep | demand | duty | drive | idle | held | edit | written =>
    exact h.of_blocks (by simp) (by simp) (by simp) fun c => by rw [State.camOf_of_camc (s := s) (by simp)]

/-- Settles O16: an entry that leaves PARKED, and a loss of CYCLE_SYNC, abandon the run first (`LearnSound.enter`,
`LearnSound.track`); the 32nd value ends it. -/
theorem everyStepKeepsLearnSound : Obligations.EveryStepKeepsLearnSound := by
  unfold Obligations.EveryStepKeepsLearnSound
  exact step_keeps_of_moves fun _ _ h move => move.learnSound h

end Sys2Proof.Machine
end

section
/-!
The invariant of the valve driver channels, and of what mirrors other blocks: STORE_FAULT, LINE_STUCK and the store's images.
-/

set_option Elab.async false

namespace Sys2Proof.Machine

/-! ## Both channels (R143, R148) -/

theorem drivesSound_iff (s : State) : DrivesSound s ↔
    ∀ c, DriveSound (s.drvOf c) ∧ ((s.drvOf c).periodStart.isSome = true ↔ s.pwr.power = .run) :=
  ⟨fun ⟨i, e, runI, runE⟩ c => by cases c <;> exact ⟨by assumption, by assumption⟩,
   fun h => ⟨(h .i).1, (h .e).1, (h .i).2, (h .e).2⟩⟩

theorem DrivesSound.of_each {s t : State} (h : DrivesSound s) (power : t.pwr.power = s.pwr.power)
    (each : ∀ c, DriveSound (s.drvOf c) →
      DriveSound (t.drvOf c) ∧ (t.drvOf c).periodStart.isSome = (s.drvOf c).periodStart.isSome) : DrivesSound t := by
  rw [drivesSound_iff] at h ⊢
  intro c
  obtain ⟨sound, run⟩ := h c
  obtain ⟨sound', same⟩ := each c sound
  exact ⟨sound', by rw [same, power]; exact run⟩

/-- Where the part is not in RUN before and after, nothing is asked of the power state. -/
theorem DrivesSound.of_resting {s t : State} (h : DrivesSound s) (before : s.pwr.power ≠ .run) (after : t.pwr.power ≠ .run)
    (drv : t.drv = s.drv) : DrivesSound t := by
  rw [drivesSound_iff] at h ⊢
  intro c
  obtain ⟨sound, run⟩ := h c
  rw [State.drvOf_of_drv drv]
  exact ⟨sound, by simp [run, before, after]⟩

theorem DriveSound.withPending {d : Drv} (h : DriveSound d) (n : Nat) : DriveSound { d with pending := n } :=
  ⟨h.applied, h.output, h.stopped, h.dither, h.trips, h.opens⟩

theorem DriveSound.entered {d : Drv} (h : DriveSound d) (s : State) (c : Cam) (new : CamState) : DriveSound (s.enterDrv c new d) := by
  cases new with
  | off | parked | release => exact h.withPending _
  | parking | follow => exact h
  | faulted => exact ⟨Nat.zero_le _, nofun, fun none => ⟨rfl, rfl, rfl, (h.stopped none).2.2.2⟩, h.dither, h.trips, h.opens⟩

theorem Drv.stopped_sound (d : Drv) : DriveSound d.stopped :=
  ⟨Nat.zero_le _, nofun, fun _ => ⟨rfl, rfl, rfl, rfl⟩, Nat.le_refl 1, Nat.zero_le _, Nat.zero_le _⟩

theorem State.stopDrivers_drvOf (s : State) (c : Cam) : s.stopDrivers.drvOf c = (s.drvOf c).stopped := by cases c <;> rfl

/-- Both channels stopped, in a power state other than RUN. -/
theorem DrivesSound.of_stopped {s t : State} (drv : t.drv = s.stopDrivers.drv) (power : t.pwr.power ≠ .run) : DrivesSound t := by
  rw [drivesSound_iff]
  intro c
  rw [State.drvOf_of_drv drv, State.stopDrivers_drvOf]
  exact ⟨Drv.stopped_sound _, by simp [Drv.stopped, power]⟩

theorem State.openPeriod_drvOf (s : State) (c d : Cam) : (s.openPeriod c).drvOf d
    = if d = c then (s.drvOf d).opened s.settings (s.camOf c).state s.scan.millivolts s.now else s.drvOf d :=
  State.onDrv_drvOf_eq s c d _

@[simp] theorem Scan.onRun_millivolts (k : Scan) (now : Time) : (k.onRun now).millivolts = k.millivolts := by
  unfold Scan.onRun
  split <;> rfl

@[simp] theorem Scan.millivolts_withCoil (k : Scan) (coil : PerCam CoilSum) : { k with coil := coil }.millivolts = k.millivolts := rfl

/-- The first period of each channel opens on entry to RUN (R143, R145). -/
theorem State.enterRun_drvOf (s : State) (c : Cam) :
    s.enterRun.drvOf c = (s.drvOf c).opened s.settings (s.camOf c).state s.scan.millivolts s.now := by
  unfold State.enterRun State.bothCams
  simp only [State.openPeriod_drvOf]
  cases c <;> simp [State.openPeriod, State.camOf, State.drvOf]

theorem drivesSound_reset : DrivesSound State.reset := by
  rw [drivesSound_iff]
  intro c
  cases c <;> exact ⟨by constructor <;> decide, by decide⟩

theorem Move.drivesSound {s t : State} (h : DrivesSound s) (move : Move s t) : DrivesSound t := by
  cases move with
  | aside same => exact h.of_each same.power fun c sound => by rw [State.drvOf_of_drv same.drv]; exact ⟨sound, rfl⟩
  | enter c new at_ =>
    refine h.of_each (by simp) fun d sound => ?_
    rw [State.enterCam_drvOf]
    split
    next same => subst same; exact ⟨sound.entered s d new, by simp⟩
    · exact ⟨sound, rfl⟩
  | duty c n =>
    refine h.of_each rfl fun d sound => ?_
    rw [State.onDrv_drvOf_eq]
    split
    · exact ⟨sound.withPending n, rfl⟩
    · exact ⟨sound, rfl⟩
  | drive c f _ period kept =>
    refine h.of_each rfl fun d sound => ?_
    rw [State.onDrv_drvOf_eq]
    split
    next same => subst same; exact ⟨kept sound, period⟩
    · exact ⟨sound, rfl⟩
  | run =>
    rw [drivesSound_iff] at h ⊢
    intro c
    rw [State.enterRun_drvOf]
    exact ⟨(h c).1.opened _ _ _ _, by simp [State.enterRun_power, Drv.opened]⟩
  | standby => exact .of_stopped s.enterStandby_drv (by simp [State.enterStandby_power])
  | doze => exact .of_stopped s.enterDoze_drv (by simp [State.enterDoze_power])
  | reset => exact drivesSound_reset.of_resting (by decide) nofun rfl
  | wake asleep => exact h.of_resting (by simp [asleep]) nofun rfl
  | release held => exact h.of_resting (by simp [held]) nofun rfl
  | start _ delayed => exact h.of_resting (by simp [delayed]) (by simp [State.startUp]) rfl
  | track | meter | abandon | learn | collect | control | loop | holdStep | demand | idle | held | edit | written | load =>
    exact h.of_each (by simp [State.startRun]) fun c sound => by
      rw [State.drvOf_of_drv (s := s) (by simp [State.startRun])]
      exact ⟨sound, rfl⟩

/-- Settles O10: periods start and stop with RUN, and no channel's record leaves its ranges (`DriveSound.opened`,
`DriveSound.entered`, `Drv.stopped_sound`). -/
theorem everyStepKeepsDrivesSound : Obligations.EveryStepKeepsDrivesSound := by
  unfold Obligations.EveryStepKeepsDrivesSound
  exact step_keeps_of_moves fun _ _ h move => move.drivesSound h

end Sys2Proof.Machine
end

section
/-!
The invariant of what mirrors other blocks: STORE_FAULT and the fault marks, LINE_STUCK and the transmitter, the store's RAM images
and the values of their owners.
-/

set_option Elab.async false

namespace Sys2Proof.Machine

/-! ## The owners' values (R183) -/

/-- The store load has not completed. -/
def State.early (s : State) : Prop := s.pwr.power = .held ∨ s.pwr.power = .startDelay ∨ s.pwr.power = .loading

theorem ownersAgree_iff (s : State) : OwnersAgree s ↔
    (s.active .storeFault = s.store.anyFault ∧ s.active .lineStuck = !s.line.txEnabled) ∧ (¬s.early → Imaged s) := by
  unfold State.early
  constructor
  · rintro ⟨store, line, size, images⟩
    refine ⟨⟨store, line⟩, fun late => ?_⟩
    obtain ⟨held, delayed, loading⟩ := not_or.mp late |>.imp id not_or.mp
    exact ⟨size held delayed loading, images held delayed loading⟩
  · rintro ⟨⟨store, line⟩, imaged⟩
    have late (a : s.pwr.power ≠ .held) (b : s.pwr.power ≠ .startDelay) (c : s.pwr.power ≠ .loading) : Imaged s :=
      imaged (not_or.mpr ⟨a, not_or.mpr ⟨b, c⟩⟩)
    exact ⟨store, line, fun a b c => (late a b c).size, fun a b c => (late a b c).images⟩

theorem State.early_of_power {s t : State} (power : t.pwr.power = s.pwr.power) : t.early = s.early := by
  unfold State.early
  rw [power]

/-- A move that leaves both conditions and what they stand for alone. -/
theorem OwnersAgree.of_imaged {s t : State} (h : OwnersAgree s) (imaged : ¬t.early → (¬s.early → Imaged s) → Imaged t)
    (marks : t.active .storeFault = s.active .storeFault := by simp [State.active, Mon.get])
    (fault : t.store.fault = s.store.fault := by simp)
    (stuck : t.active .lineStuck = s.active .lineStuck := by simp [State.active, Mon.get])
    (tx : t.line.txEnabled = s.line.txEnabled := by simp) : OwnersAgree t := by
  rw [ownersAgree_iff] at h ⊢
  obtain ⟨⟨store, line⟩, before⟩ := h
  refine ⟨⟨?_, ?_⟩, fun late => imaged late before⟩
  · unfold Store.anyFault at store ⊢
    rw [marks, fault]
    exact store
  · rw [stuck, tx]
    exact line

theorem Imaged.of_records {s t : State} (h : Imaged s) (records : ∀ c, t.camRecord c = s.camRecord c)
    (image : t.store.configImage = s.store.configImage := by simp)
    (images : t.store.camImages = s.store.camImages := by simp) : Imaged t := by
  refine ⟨by rw [image]; exact h.size, fun c => ?_⟩
  rw [images, records]
  exact h.images c

/-- A move within a power state that keeps the CAM records' values and their images. -/
theorem OwnersAgree.of_records {s t : State} (h : OwnersAgree s) (records : ∀ c, t.camRecord c = s.camRecord c)
    (power : t.pwr.power = s.pwr.power := by simp)
    (image : t.store.configImage = s.store.configImage := by simp)
    (images : t.store.camImages = s.store.camImages := by simp)
    (marks : t.active .storeFault = s.active .storeFault := by simp [State.active, Mon.get])
    (fault : t.store.fault = s.store.fault := by simp)
    (stuck : t.active .lineStuck = s.active .lineStuck := by simp [State.active, Mon.get])
    (tx : t.line.txEnabled = s.line.txEnabled := by simp) : OwnersAgree t :=
  h.of_imaged (fun late before => (before (by rwa [← State.early_of_power power])).of_records records image images)
    marks fault stuck tx

/-! ## The CAM record of the owners' values -/

/-- What a CAM record holds of PHM's record: the offset and whether LEARNED stands or will stand again. -/
def Phm.kept (p : Phm) : Int × Bool :=
  (p.offset, decide (p.status = .learned ∨ (p.status = .learning ∧ p.statusBefore = some .learned)))

theorem State.camRecord_eq_of {s t : State} {c : Cam} (phm : (t.phmOf c).kept = (s.phmOf c).kept)
    (hold : (t.loopOf c).hold = (s.loopOf c).hold) : t.camRecord c = s.camRecord c := by
  obtain ⟨offset, learned⟩ := Prod.mk.inj phm
  unfold State.camRecord
  rw [offset, learned, hold]

theorem State.camRecord_of_blocks {s t : State} (phm : t.phm = s.phm) (loop : t.loop = s.loop) (c : Cam) :
    t.camRecord c = s.camRecord c :=
  State.camRecord_eq_of (by rw [State.phmOf_of_phm phm]) (by rw [State.loopOf_of_loop loop])

/-- A run that ends without success returns to what the record held (R63, R64). -/
theorem Phm.kept_returned {p q : Phm} (run : p.status = .learning) (offset : q.offset = p.offset) (status : q.status = p.statusAfter)
    (before : q.statusBefore = none) : q.kept = p.kept := by
  unfold Phm.kept
  rw [offset, status, before, run]
  unfold Phm.statusAfter
  rcases p.statusBefore with _ | b
  · rfl
  · cases b <;> rfl

theorem Phm.kept_abandon (p : Phm) : p.abandon.kept = p.kept := by
  unfold Phm.abandon
  split
  next run => exact Phm.kept_returned run rfl rfl rfl
  · rfl

theorem Phm.kept_startRun {p : Phm} (idle : p.status ≠ .learning) (o : LearnOrigin) : (p.startRun o).kept = p.kept := by
  unfold Phm.kept Phm.startRun
  simp [idle]

theorem OwnersAgree.onPhm {s : State} (h : OwnersAgree s) (c : Cam) {f : Phm → Phm}
    (kept : (f (s.phmOf c)).kept = (s.phmOf c).kept) : OwnersAgree (s.onPhm c f) :=
  h.of_records fun d => State.camRecord_eq_of (by
    rw [State.onPhm_phmOf_eq]
    split
    next same => subst same; exact kept
    · rfl) rfl

theorem OwnersAgree.enter {s : State} (h : OwnersAgree s) (c : Cam) (new : CamState) (at_ : Time) :
    OwnersAgree (s.enterCam c new at_) := by
  refine h.of_records fun d => State.camRecord_eq_of ?_ ?_
  · obtain e | e := s.enterCam_phmOf c new at_ d <;> rw [e]
    exact Phm.kept_abandon _
  · rw [State.enterCam_loopOf]
    split
    next same => subst same; rfl
    · rfl

/-! ## Images brought up to date -/

/-- Where the owners' values change for one cam and its image is brought up to date, the images agree again (R183). -/
theorem Imaged.refresh {s t : State} (h : Imaged s) (c : Cam) (other : ∀ d, d ≠ c → t.camRecord d = s.camRecord d)
    (image : t.store.configImage = s.store.configImage := by simp)
    (images : t.store.camImages = s.store.camImages := by simp) : Imaged (t.refreshImage c) := by
  refine ⟨by rw [← h.size, ← image]; rfl, fun d => ?_⟩
  show ((t.store.camImages.set c _).get d).take 4 = (t.camRecord d).encode.take 4
  by_cases same : d = c
  · subst same
    rw [PerCam.get_set]
  · rw [PerCam.get_set_ne _ _ _ _ same, images, other d same]
    exact h.images d

theorem OwnersAgree.collect {s : State} (h : OwnersAgree s) (c : Cam) (raw : Int) : OwnersAgree (s.collect c raw) := by
  unfold State.collect State.evaluateRun
  simp only
  split_ifs with run full ok
  · refine h.of_imaged (fun late before => ?_) rfl rfl rfl rfl
    have refreshed : Imaged (((s.onPhm c fun p => { p with collector := p.collector ++ [raw] }).onPhm c Phm.succeed).refreshImage c) :=
      (before late).refresh c fun d other =>
        State.camRecord_eq_of (by rw [State.onPhm_phmOf_ne _ _ _ _ other, State.onPhm_phmOf_ne _ _ _ _ other]) rfl
    exact refreshed.of_records fun _ => rfl
  · have collected := h.onPhm c (f := fun p => { p with collector := p.collector ++ [raw] }) rfl
    have failed := collected.onPhm c (f := Phm.fail) (Phm.kept_returned (by rwa [State.onPhm_phmOf]) rfl rfl rfl)
    refine failed.of_records (fun d => State.camRecord_of_blocks (by simp) (by simp) d) (marks := ?_) (stuck := ?_)
    · exact State.raiseEvent_active _ _ _
    · exact State.raiseEvent_active _ _ _
  · exact h.onPhm c rfl
  · exact h

theorem OwnersAgree.holdStep {s : State} (h : OwnersAgree s) (c : Cam) : OwnersAgree (s.holdStep c) := by
  have other (d : Cam) (ne : d ≠ c) : (s.onLoop c Loop.holdStep).camRecord d = s.camRecord d :=
    State.camRecord_eq_of rfl (by rw [State.onLoop_loopOf_ne _ _ _ _ ne])
  obtain ⟨same, e⟩ | ⟨-, -, e⟩ | ⟨-, -, e⟩ := s.holdStep_cases c <;> rw [e]
  · refine h.of_records fun d => State.camRecord_eq_of rfl ?_
    rw [State.onLoop_loopOf_eq]
    split
    next own => subst own; exact same
    · rfl
  · exact h.of_imaged fun late before => (before late).refresh c other
  · refine h.of_imaged fun late before => ((before late).refresh c other).of_records fun d => State.camRecord_eq_of rfl ?_
    show (((((s.onLoop c Loop.holdStep).refreshImage c).onLoop c _).markDirty (.cam c)).loopOf d).hold = _
    show ((((s.onLoop c Loop.holdStep).refreshImage c).onLoop c _).loopOf d).hold = _
    rw [State.onLoop_loopOf_eq]
    split <;> rfl

theorem State.tellStoreFault_active (s : State) : s.tellStoreFault.active .storeFault = s.store.anyFault := by
  unfold State.tellStoreFault
  split
  next some => rw [State.activate_active, some]
  next none => rw [State.deactivate_active, Bool.eq_false_of_not_eq_true none]

theorem State.tellStoreFault_active_lineStuck (s : State) : s.tellStoreFault.active .lineStuck = s.active .lineStuck := by
  unfold State.tellStoreFault
  split
  · exact State.activate_active_ne _ _ _ nofun
  · exact State.deactivate_active_ne _ _ _ nofun

/-- STORE_FAULT told of whatever fault marks stand (R183). -/
theorem OwnersAgree.told {s t : State} (h : OwnersAgree s) (mon : t.mon = s.mon) (tx : t.line.txEnabled = s.line.txEnabled)
    (imaged : ¬t.early → (¬s.early → Imaged s) → Imaged t) :
    OwnersAgree t.tellStoreFault := by
  obtain ⟨⟨-, line⟩, before⟩ := (ownersAgree_iff s).mp h
  refine (ownersAgree_iff _).mpr ⟨⟨?_, ?_⟩, fun late => ?_⟩
  · rw [State.tellStoreFault_active]
    simp
  · rw [State.tellStoreFault_active_lineStuck]
    simpa [State.active, mon, tx] using line
  · refine (imaged ?_ before).of_records fun c => State.camRecord_of_blocks (by simp) (by simp) c
    rwa [← State.early_of_power (s := t) (t := t.tellStoreFault) (by simp)]

theorem OwnersAgree.idle {s : State} (h : OwnersAgree s) : OwnersAgree s.lineIdle := by
  obtain ⟨⟨store, -⟩, before⟩ := (ownersAgree_iff s).mp h
  refine (ownersAgree_iff _).mpr ⟨⟨?_, ?_⟩, fun late => ?_⟩
  · rw [show s.lineIdle.active .storeFault = s.active .storeFault from State.deactivate_active_ne _ _ _ nofun, store]
    simp [State.lineIdle]
  · simp [State.lineIdle]
  · refine (before ?_).of_records fun c => State.camRecord_of_blocks (by simp) (by simp) c
    rwa [← State.early_of_power (s := s) (t := s.lineIdle) (by simp)]

theorem OwnersAgree.held {s : State} (h : OwnersAgree s) : OwnersAgree s.lineHeld := by
  obtain ⟨⟨store, -⟩, before⟩ := (ownersAgree_iff s).mp h
  refine (ownersAgree_iff _).mpr ⟨⟨?_, ?_⟩, fun late => ?_⟩
  · rw [show s.lineHeld.active .storeFault = s.active .storeFault from State.activate_active_ne _ _ _ nofun, store]
    simp [State.lineHeld]
  · show (s.activate .lineStuck).active .lineStuck = _
    rw [State.activate_active]
    rfl
  · refine (before ?_).of_records fun c => State.camRecord_of_blocks (by simp) (by simp) c
    rwa [← State.early_of_power (s := s) (t := s.lineHeld) (by simp)]

/-- A group replaced by eight bytes leaves the image its length (R182). -/
theorem replaceGroup_length {image bytes : List Byte} {g : Nat} (size : image.length = 64) (known : g ≤ 7)
    (whole : bytes.length = 8) : (replaceGroup image g bytes).length = 64 := by
  unfold replaceGroup
  simp only [List.length_append, List.length_take, List.length_drop, size, whole]
  omega

theorem State.active_of_records {s t : State} (records : t.mon.records = s.mon.records) (k : Cond) : t.active k = s.active k := by
  unfold State.active Mon.get
  rw [records]

theorem State.enterRun_records (s : State) : s.enterRun.mon.records = s.mon.records := by
  simp [State.enterRun, State.bothCams]

theorem State.enterStandby_records (s : State) : s.enterStandby.mon.records = s.mon.records := by simp [State.enterStandby]

theorem State.enterDoze_records (s : State) : s.enterDoze.mon.records = s.mon.records := by simp [State.enterDoze]

theorem State.enterDoze_txEnabled (s : State) : s.enterDoze.line.txEnabled = s.line.txEnabled := by
  simp [State.enterDoze, Line.dozed]

/-! ## Every move -/

theorem ownersAgree_reset : OwnersAgree State.reset := by
  rw [ownersAgree_iff]
  exact ⟨by decide, fun late => absurd (.inr (.inl rfl)) late⟩

theorem Move.ownersAgree {s t : State} (h : OwnersAgree s) (move : Move s t) : OwnersAgree t := by
  have unmoved {t : State} (phm : t.phm = s.phm) (loop : t.loop = s.loop) (c : Cam) : t.camRecord c = s.camRecord c :=
    State.camRecord_of_blocks phm loop c
  cases move with
  | aside same =>
    exact h.of_records (unmoved same.phm same.loop) same.power same.image same.images same.storeFault same.fault same.stuck same.tx
  | meter c f offset status before => exact h.onPhm c (by unfold Phm.kept; rw [offset, status, before])
  | abandon c => exact h.onPhm c (Phm.kept_abandon _)
  | learn c o _ idle => exact h.onPhm c (Phm.kept_startRun idle o)
  | collect c raw => exact h.collect c raw
  | enter c new at_ => exact h.enter c new at_
  | loop c f hold =>
    refine h.of_records fun d => State.camRecord_eq_of rfl ?_
    rw [State.onLoop_loopOf_eq]
    split
    next same => subst same; exact hold
    · rfl
  | holdStep c => exact h.holdStep c
  | idle => exact h.idle
  | held => exact h.held
  | edit group bytes known whole =>
    exact h.of_imaged (fun late before => ⟨replaceGroup_length (before late).size known whole, (before late).images⟩)
      rfl rfl rfl rfl
  | written w readBack =>
    unfold State.endWrite
    refine h.told rfl rfl fun late before => ?_
    split <;> exact (before late).of_records fun _ => rfl
  | run standby =>
    exact h.of_imaged (fun _ before => (before (by simp [State.early, standby])).of_records (unmoved (by simp) (by simp)))
      (marks := State.active_of_records s.enterRun_records _) (stuck := State.active_of_records s.enterRun_records _)
  | standby imaged =>
    refine h.of_imaged (fun _ before => ?_) (marks := State.active_of_records s.enterStandby_records _)
      (stuck := State.active_of_records s.enterStandby_records _)
    have now : Imaged s := by
      by_cases early : s.early
      · exact imaged early
      · exact before early
    exact now.of_records (unmoved (by simp) (by simp))
  | doze standby =>
    refine h.of_imaged (fun _ before => ?_) (marks := State.active_of_records s.enterDoze_records _)
      (stuck := State.active_of_records s.enterDoze_records _) (tx := s.enterDoze_txEnabled)
    refine (before (by simp [State.early, standby])).of_records fun c => State.camRecord_eq_of ?_ ?_
    · rw [State.enterDoze_phmOf]
      rfl
    · rw [State.loopOf_of_loop (s := s) (by simp)]
  | wake asleep => exact h.of_imaged fun _ before => (before (by simp [State.early, asleep])).of_records fun _ => rfl
  | reset => exact ownersAgree_reset.of_imaged (s := State.reset) (fun late => absurd (.inl rfl) late) rfl rfl rfl rfl
  | release => exact h.of_imaged (fun late => absurd (.inr (.inl rfl)) late) rfl rfl rfl rfl
  | start pins => exact h.of_imaged (fun late => absurd (.inr (.inr rfl)) late) rfl rfl rfl rfl
  | load loading =>
    have told : OwnersAgree s.recordsTaken.tellStoreFault := h.told rfl rfl fun late => absurd (.inr (.inr loading)) late
    exact told
  | track | control | demand | duty | drive => exact h.of_records (unmoved (by simp) (by simp))

/-- Settles O13: what changes a mirrored value brings its mirror up to date in the same move (`Imaged.refresh`,
`OwnersAgree.told`, `OwnersAgree.idle`, `OwnersAgree.held`). -/
theorem everyStepKeepsOwnersAgree : Obligations.EveryStepKeepsOwnersAgree := by
  unfold Obligations.EveryStepKeepsOwnersAgree
  exact step_keeps_of_moves fun _ _ h move => move.ownersAgree h

end Sys2Proof.Machine
end

section
/-!
The invariant of the line controller: which of LINE's fields it speaks of, what each of LINE's operations makes of them, and that the
receiver of a dark part stays off.
-/

set_option Elab.async false

namespace Sys2Proof.Machine

/-! ## What the invariant sees of the line -/

/-- The fields of LINE that its invariant speaks of. -/
def Line.view (l : Line) : Receiver × Option Transmission × Life × Nat × Option Timer × Bool × Bool :=
  (l.receiver, l.sending, l.life, l.seq, l.drive, l.aborting, l.othersLow)

/-- The line of a station with number `own`, apart from the power state (R158, R160, R168, R170, R172). -/
structure Line.Sound (l : Line) (own : Nat) : Prop where
  seq     : l.seq ≤ 15
  sending : l.sending.isSome = true → l.receiver = .frame ∧ l.life = .active
  active  : l.life = .active → own ≠ 0
  drive   : l.drive.isSome = true → l.receiver ≠ .off
  abort   : l.aborting = true → l.drive.isSome = true ∧ l.sending = none
  quiet   : l.receiver = .idle → l.low = false
  pulled  : l.receiver = .start → l.othersLow = true ∧ l.drive = none

theorem Line.Sound.of_view {l m : Line} {own : Nat} (h : l.Sound own) (same : m.view = l.view) : m.Sound own := by
  simp only [Line.view, Prod.mk.injEq] at same
  obtain ⟨receiver, sending, life, seq, drive, aborting, others⟩ := same
  have low : m.low = l.low := by simp only [Line.low, others, drive]
  constructor
  · rw [seq]; exact h.seq
  · rw [sending, receiver, life]; exact h.sending
  · rw [life]; exact h.active
  · rw [drive, receiver]; exact h.drive
  · rw [aborting, drive, sending]; exact h.abort
  · rw [receiver, low]; exact h.quiet
  · rw [receiver, others, drive]; exact h.pulled

/-- A dark part's receiver is off, and it sends nothing (R160, R168). -/
def State.Silent (s : State) : Prop := s.dark = true → s.line.receiver = .off ∧ s.line.sending = none

/-- Before the end of the store load a station listens, with no expiry set (R172, R191). -/
def State.Listening (s : State) : Prop := s.early → s.line.life = .listen ∧ s.pwr.listenTimer = none

theorem lineSound_iff (s : State) : LineSound s ↔ s.line.Sound s.own ∧ s.Silent ∧ s.Listening := by
  constructor
  · rintro ⟨seq, sending, active, dark, start, drive, abort, quiet, pulled⟩
    exact ⟨⟨seq, sending, active, drive, abort, quiet, pulled⟩, dark, start⟩
  · rintro ⟨⟨seq, sending, active, drive, abort, quiet, pulled⟩, dark, start⟩
    exact ⟨seq, sending, active, dark, start, drive, abort, quiet, pulled⟩

theorem State.own_of_straps {s t : State} (straps : t.straps = s.straps) : t.own = s.own := by
  unfold State.own
  rw [straps]

theorem State.dark_of_power {s t : State} (power : t.pwr.power = s.pwr.power) : t.dark = s.dark := by
  unfold State.dark State.sensing
  rw [power]

/-- An awake part: the receiver may be on. -/
theorem State.Silent.awake {s : State} (h : s.Silent) (on : s.line.receiver ≠ .off) : s.dark = false :=
  Bool.eq_false_of_not_eq_true fun dark => on (h dark).1

/-- Where the line stands as the invariant sees it, and straps and power state too. -/
theorem LineSound.of_view {s t : State} (h : LineSound s) (view : t.line.view = s.line.view := by simp [Line.view])
    (straps : t.straps = s.straps := by simp) (power : t.pwr.power = s.pwr.power := by simp)
    (timer : t.pwr.listenTimer = s.pwr.listenTimer := by simp) : LineSound t := by
  rw [lineSound_iff] at h ⊢
  obtain ⟨sound, silent, listening⟩ := h
  have fields := view
  simp only [Line.view, Prod.mk.injEq] at fields
  obtain ⟨receiver, sending, life, -⟩ := fields
  refine ⟨?_, ?_, ?_⟩
  · rw [State.own_of_straps straps]
    exact sound.of_view view
  · unfold State.Silent
    rw [State.dark_of_power power, receiver, sending]
    exact silent
  · unfold State.Listening
    rw [State.early_of_power power, life, timer]
    exact listening

/-- With the receiver on, an operation has to keep the line sound and the life state. -/
theorem LineSound.of_on {s t : State} (h : LineSound s) (on : s.line.receiver ≠ .off) (line : s.line.Sound s.own → t.line.Sound s.own)
    (life : t.line.life = s.line.life := by simp) (straps : t.straps = s.straps := by simp)
    (power : t.pwr.power = s.pwr.power := by simp) (timer : t.pwr.listenTimer = s.pwr.listenTimer := by simp) : LineSound t := by
  rw [lineSound_iff] at h ⊢
  obtain ⟨sound, silent, listening⟩ := h
  refine ⟨?_, fun dark => ?_, ?_⟩
  · rw [State.own_of_straps straps]
    exact line sound
  · rw [State.dark_of_power power, silent.awake on] at dark
    cases dark
  · unfold State.Listening
    rw [State.early_of_power power, life, timer]
    exact listening

/-! ## The operations of the line controller -/

/-- What a frame dropped in the middle leaves of the line (R170). -/
theorem State.dropOwnFrame_line (s : State) : s.dropOwnFrame.line
    = if s.line.sending.isSome then { s.line with sending := none, txFailures := satInc 65535 s.line.txFailures } else s.line := by
  unfold State.dropOwnFrame
  cases sending : s.line.sending with
  | none => simp
  | some x => cases slot : x.slot <;> simp [slot]

/-- What a framing error leaves of the line: the receiver in WAIT_IDLE, an own frame dropped and its drive released (R159, R170). -/
theorem State.framingError_line (s : State) : s.framingError.line
    = let l : Line := { s.line with framing := satInc 65535 s.line.framing }.wait
      if s.line.sending.isSome then
        { l.release s.now with sending := none, txFailures := satInc 65535 s.line.txFailures }
      else l := by
  unfold State.framingError
  rw [State.dropOwnFrame_line]
  cases sending : s.line.sending <;> simp [sending, Line.wait, Line.release]

namespace Line.Sound

variable {l : Line} {own : Nat}

/-- The receiver goes to WAIT_IDLE with no own frame on the line. -/
theorem waiting (h : l.Sound own) (idle : l.sending = none) : l.wait.Sound own where
  seq := h.seq
  sending some := by simp [Line.wait, idle] at some
  active := h.active
  drive _ := nofun
  abort := h.abort
  quiet := nofun
  pulled := nofun

/-- Nothing is sent and nothing driven, in a state of the receiver that does not look at the line's level. -/
theorem quietly (h : l.Sound own) {m : Line} (seq : m.seq ≤ 15) (life : m.life = l.life) (sending : m.sending = none)
    (drive : m.drive = none) (aborting : m.aborting = false) (idle : m.receiver ≠ .idle) (start : m.receiver ≠ .start) :
    m.Sound own where
  seq := seq
  sending some := by simp [sending] at some
  active active := h.active (life ▸ active)
  drive some := by simp [drive] at some
  abort some := by simp [aborting] at some
  quiet is := absurd is idle
  pulled is := absurd is start

/-- The other stations pull the line low, where the receiver is not in IDLE. -/
theorem pull (h : l.Sound own) (idle : l.receiver ≠ .idle) : Line.Sound { l with othersLow := true } own where
  seq := h.seq
  sending := h.sending
  active := h.active
  drive := h.drive
  abort := h.abort
  quiet is := absurd is idle
  pulled is := ⟨rfl, (h.pulled is).2⟩

/-- In IDLE nothing is driven, aborted or sent. -/
theorem idle_free (h : l.Sound own) (idle : l.receiver = .idle) :
    l.drive = none ∧ l.aborting = false ∧ l.sending = none ∧ l.othersLow = false := by
  have low := h.quiet idle
  simp only [Line.low, Bool.or_eq_false_iff] at low
  obtain ⟨others, drive⟩ := low
  refine ⟨by simpa using drive, ?_, ?_, others⟩
  · by_contra aborts
    have := (h.abort (by simpa using aborts)).1
    simp [drive] at this
  · by_contra sends
    have := (h.sending (Option.isSome_iff_ne_none.mpr sends)).1
    simp [idle] at this

end Line.Sound

theorem Line.Sound.framingError {s : State} {own : Nat} (h : s.line.Sound own) : s.framingError.line.Sound own := by
  rw [State.framingError_line]
  simp only
  split
  · exact h.quietly h.seq rfl rfl rfl rfl nofun nofun
  next idle =>
    have free : s.line.sending = none := by simpa using idle
    exact (h.of_view (m := { s.line with framing := satInc 65535 s.line.framing }) rfl).waiting free

/-- A drive that ends: only a 2Tb low's mark goes with it. -/
theorem Line.Sound.release {l : Line} {own : Nat} (h : l.Sound own) (now : Time) : (l.release now).Sound own where
  seq := h.seq
  sending := h.sending
  active := h.active
  drive some := by simp at some
  abort some := by simp at some
  quiet is := by
    obtain ⟨-, -, -, others⟩ := h.idle_free is
    simpa using others
  pulled is := ⟨(h.pulled is).1, rfl⟩

/-- A sending station in FRAME drives. -/
theorem Line.Sound.driven {l m : Line} {own : Nat} (h : l.Sound own) (sends : l.sending.isSome = true)
    (seq : m.seq = l.seq) (sending : m.sending = l.sending) (life : m.life = l.life) (receiver : m.receiver = l.receiver)
    (aborting : m.aborting = l.aborting) : m.Sound own := by
  have frame := (h.sending sends).1
  have whole : l.aborting ≠ true := fun aborts => by simp [(h.abort aborts).2] at sends
  constructor
  · rw [seq]; exact h.seq
  · rw [sending, receiver, life]; exact h.sending
  · rw [life]; exact h.active
  · intro _; rw [receiver, frame]; nofun
  · rw [aborting]; exact fun aborts => absurd aborts whole
  · rw [receiver, frame]; nofun
  · rw [receiver, frame]; nofun

theorem Line.Sound.beginBit {l : Line} {own : Nat} (h : l.Sound own) (now : Time) (tb : Nat) : (l.beginBit now tb).Sound own := by
  cases sending : l.sending with
  | none => exact h.of_view (by simp [Line.view, Line.beginBit, sending])
  | some x => exact h.driven (by simp [sending]) rfl rfl rfl rfl rfl

theorem Line.Sound.tick {l : Line} {own : Nat} (h : l.Sound own) (now : Time) (tb : Nat) : (l.tick now tb).Sound own := by
  have released : (l.releaseDue now).Sound own := by
    unfold Line.releaseDue
    split
    · exact h.release now
    · exact h
  have driven : ((l.releaseDue now).driveNext now tb).Sound own := by
    unfold Line.driveNext
    split
    · exact released
    next x sending =>
      have sends : (l.releaseDue now).sending.isSome = true := by rw [sending]; rfl
      generalize (if (l.releaseDue now).dataBits = 0 then 2 * tb else tb) = gap
      split
      · split
        · exact released.driven sends rfl rfl rfl rfl rfl
        · exact released.beginBit now tb
      · exact released
  have sampled : (((l.releaseDue now).driveNext now tb).sample now tb).drive = ((l.releaseDue now).driveNext now tb).drive := by
    unfold Line.sample
    split <;> rfl
  exact driven.of_view (by simp only [Line.view, Line.tick, Line.sample_frame, sampled])

/-! ## Effects on the line -/

@[simp] theorem Line.setBuffer_frame (l : Line) (b : Buffer) (r : Option Received) :
    (l.setBuffer b r).receiver = l.receiver ∧ (l.setBuffer b r).sending = l.sending ∧ (l.setBuffer b r).life = l.life
    ∧ (l.setBuffer b r).seq = l.seq ∧ (l.setBuffer b r).drive = l.drive ∧ (l.setBuffer b r).aborting = l.aborting
    ∧ (l.setBuffer b r).othersLow = l.othersLow := by
  cases b <;> simp [Line.setBuffer]

@[simp] theorem State.freeOldest_line (s : State) : s.freeOldest.line = s.line.setBuffer s.line.oldestBuffer none := rfl

/-! ## Power state and listen timer -/

@[simp] theorem State.stopTimerOnStopped_power (s : State) : s.stopTimerOnStopped.pwr.power = s.pwr.power
    ∧ s.stopTimerOnStopped.pwr.listenTimer = s.pwr.listenTimer := by
  unfold State.stopTimerOnStopped
  split <;> simp

@[simp] theorem State.stopTimerOff_power (s : State) : s.stopTimerOff.pwr.power = s.pwr.power
    ∧ s.stopTimerOff.pwr.listenTimer = s.pwr.listenTimer := ⟨rfl, rfl⟩

@[simp] theorem State.enterStopped_power (s : State) : s.enterStopped.pwr.power = s.pwr.power
    ∧ s.enterStopped.pwr.listenTimer = s.pwr.listenTimer := by simp [State.enterStopped]

@[simp] theorem State.crankInStopped_power (s : State) (t : Time) : (s.crankInStopped t).pwr.power = s.pwr.power
    ∧ (s.crankInStopped t).pwr.listenTimer = s.pwr.listenTimer := by simp [State.crankInStopped]

@[simp] theorem State.crankEntry_power (s : State) (t : Time) : (s.crankEntry t).pwr.power = s.pwr.power
    ∧ (s.crankEntry t).pwr.listenTimer = s.pwr.listenTimer := by
  unfold State.crankEntry
  (repeat' split) <;> simp

@[simp] theorem State.overflowMarker_power (s : State) (t : Time) : (s.overflowMarker t).pwr.power = s.pwr.power
    ∧ (s.overflowMarker t).pwr.listenTimer = s.pwr.listenTimer := by
  unfold State.overflowMarker
  split <;> simp

/-! ## Edges (R159, R160) -/

namespace Line.Sound

variable {l : Line} {own : Nat}

/-- In START nothing is driven, aborted or sent. -/
theorem start_free (h : l.Sound own) (start : l.receiver = .start) : l.drive = none ∧ l.aborting = false ∧ l.sending = none := by
  obtain ⟨-, drive⟩ := h.pulled start
  refine ⟨drive, ?_, ?_⟩
  · by_contra aborts
    have := (h.abort (by simpa using aborts)).1
    simp [drive] at this
  · by_contra sends
    have := (h.sending (Option.isSome_iff_ne_none.mpr sends)).1
    simp [start] at this

/-- The other stations let go of the line, where no low is measured. -/
theorem letUp (h : l.Sound own) (start : l.receiver ≠ .start) : Line.Sound { l with othersLow := false } own where
  seq := h.seq
  sending := h.sending
  active := h.active
  drive := h.drive
  abort := h.abort
  quiet is := by simp [Line.low, (h.idle_free is).1]
  pulled is := absurd is start

end Line.Sound

@[simp] theorem State.lineIdle_view (s : State) : s.lineIdle.line.view = { s.line with receiver := .idle }.view := by
  unfold State.lineIdle
  simp [Line.view]

@[simp] theorem State.lineHeld_view (s : State) : s.lineHeld.line.view = s.line.view := by
  unfold State.lineHeld
  simp [Line.view]

/-- The receiver enters IDLE on a high line (R160). -/
theorem Line.Sound.idle {s : State} {own : Nat} (h : s.line.Sound own) (low : s.line.low = false) (wait : s.line.receiver = .waitIdle) :
    s.lineIdle.line.Sound own := by
  have free : s.line.sending = none := by
    by_contra sends
    have := (h.sending (Option.isSome_iff_ne_none.mpr sends)).1
    simp [wait] at this
  have sound : Line.Sound { s.line with receiver := .idle } own :=
    ⟨h.seq, fun some => by simp [free] at some, h.active, fun _ => nofun, h.abort, fun _ => low, nofun⟩
  exact sound.of_view s.lineIdle_view

theorem Line.Sound.held {s : State} {own : Nat} (h : s.line.Sound own) : s.lineHeld.line.Sound own := h.of_view s.lineHeld_view

theorem Line.Sound.idleSettled {s : State} {own : Nat} (h : s.line.Sound own) : s.idleSettled.line.Sound own := by
  obtain e | ⟨wait, low, -, e⟩ := s.idleSettled_cases
  · rwa [e]
  · rw [e]
    exact h.idle low wait

theorem Line.Sound.fallingEdge {l : Line} {own : Nat} (h : l.Sound own) {s : State}
    (line : s.line = { l with othersLow := true }) : s.fallingEdge.line.Sound own := by
  have receiver : s.line.receiver = l.receiver := by rw [line]
  unfold State.fallingEdge
  split
  next off => rw [line]; exact h.pull (by rw [← receiver, off]; nofun)
  next wait =>
    exact (h.pull (by rw [← receiver, wait]; nofun)).of_view (by simp [Line.view, line])
  next idle =>
    obtain ⟨drive, aborting, sending, -⟩ := h.idle_free (receiver ▸ idle)
    have started : Line.Sound { l with receiver := .start, othersLow := true } own :=
      ⟨h.seq, fun some => by simp [sending] at some, h.active, fun some => by simp [drive] at some,
        fun some => by simp [aborting] at some, nofun, fun _ => ⟨rfl, drive⟩⟩
    exact started.of_view (by simp [Line.view, line])
  next start => rw [line]; exact h.pull (by rw [← receiver, start]; nofun)
  next frame =>
    have pulled := h.pull (by rw [← receiver, frame]; nofun)
    split
    · rw [← line] at pulled
      exact pulled.beginBit _ _
    · exact (pulled.of_view (m := (s.withLine fun l => { l with lastFall := s.now }).line) (by simp [Line.view, line])).framingError

theorem Line.Sound.pulledLow {s : State} {own : Nat} (h : s.line.Sound own) : s.pulledLow.line.Sound own := by
  unfold State.pulledLow
  simp only
  split
  next low => exact h.pull fun idle => by simp [h.quiet idle] at low
  · exact h.idleSettled.fallingEdge (by unfold State.quietRestart; split <;> rfl)

theorem Line.Sound.riseJudged {s : State} {own : Nat} (h : s.line.Sound own) : s.riseJudged.line.Sound own := by
  unfold State.riseJudged
  simp only
  split
  next start =>
    obtain ⟨drive, aborting, sending⟩ := h.start_free start
    unfold State.judgeLow
    simp only
    split_ifs
    · exact h.quietly h.seq rfl sending drive aborting nofun nofun
    · exact h.quietly h.seq rfl sending drive aborting nofun nofun
    · rw [State.framingError_line]
      simp only
      split
      next sends => exact absurd sends (by simp [sending])
      exact h.quietly h.seq rfl sending drive aborting nofun nofun
  next frame =>
    have risen : Line.Sound { s.line with othersLow := false, lastRise := s.now } own :=
      (h.letUp (by simp [frame])).of_view rfl
    split
    · exact Line.Sound.framingError (s := s.withLine fun l => { l with othersLow := false, lastRise := s.now }) risen
    · exact risen
  next off => exact (h.letUp (by simp [off])).of_view rfl
  next wait => exact (h.letUp (by simp [wait])).of_view rfl
  next idle => exact (h.letUp (by simp [idle])).of_view rfl

theorem Line.Sound.letGo {s : State} {own : Nat} (h : s.line.Sound own) : s.letGo.line.Sound own := by
  unfold State.letGo
  split
  next drives => exact h.letUp fun start => by simp [(h.pulled start).2] at drives
  · obtain e | ⟨-, -, -, e⟩ := s.holdSettled_cases
    · rw [e]; exact h.riseJudged
    · rw [e]; exact h.held.riseJudged

/-! ## The receiver of a dark part (R2, R160, R172) -/

theorem State.Silent.of_power {s t : State} (h : s.Silent) (power : t.pwr.power = s.pwr.power := by simp)
    (receiver : t.line.receiver = s.line.receiver := by simp) (sending : t.line.sending = s.line.sending := by simp) : t.Silent := by
  unfold State.Silent
  rw [State.dark_of_power power, receiver, sending]
  exact h

/-- The receiver was on: the part is awake. -/
theorem State.Silent.of_on {s t : State} (h : s.Silent) (on : s.line.receiver ≠ .off)
    (power : t.pwr.power = s.pwr.power := by simp) : t.Silent := fun dark => by
  rw [State.dark_of_power power, h.awake on] at dark
  cases dark

theorem State.Silent.of_awake {t : State} (awake : t.pwr.power = .loading ∨ t.pwr.power = .standby ∨ t.pwr.power = .run) :
    t.Silent := fun dark => by simp [State.dark, State.sensing, awake] at dark

@[simp] theorem State.enterDoze_line (s : State) : s.enterDoze.line = s.line.dozed := by simp [State.enterDoze]

theorem State.enterDoze_silent (s : State) : s.enterDoze.Silent := fun _ => by simp [Line.dozed]

theorem State.framingDue_on {s : State} (due : s.framingDue = true) : s.line.receiver ≠ .off := by
  intro off
  simp [State.framingDue, off] at due

theorem State.idleReached_iff {s : State} : s.idleReached = true ↔
    s.line.receiver = .waitIdle ∧ s.line.low = false ∧ 12 * s.tb ≤ elapsed s.now s.line.lastRise := by
  simp [State.idleReached, and_assoc]

theorem State.sampledNow_frame {s : State} (sampled : s.sampledNow = true) : s.line.receiver = .frame := by
  simp only [State.sampledNow, Line.atSample, Bool.and_eq_true, decide_eq_true_eq] at sampled
  exact sampled.1.1

/-- The frame being sent, at the moment of a sample. -/
theorem State.sendingSample_eq_some {s : State} {x : Transmission} : s.sendingSample = some x ↔
    s.sampledNow = true ∧ s.line.sending = some x := by
  unfold State.sendingSample
  split <;> simp_all

theorem State.arbitrationLost_eq_some {s : State} {x : Transmission} : s.arbitrationLost = some x ↔
    s.sendingSample = some x ∧ s.line.dataBits ≤ 8 ∧ x.bit s.line.dataBits = true ∧ s.line.lastSample = false := by
  unfold State.arbitrationLost
  split
  · simp only [Option.ite_none_right_eq_some, *]
    grind
  · simp_all

theorem State.lastBit_eq_some {s : State} {x : Transmission} : s.lastBit = some x ↔
    s.sendingSample = some x ∧ s.line.dataBits = 8 * x.bytes.length ∧ s.line.lastSample = x.bit s.line.dataBits := by
  unfold State.lastBit
  split
  · simp only [Option.ite_none_right_eq_some, *]
    grind
  · simp_all

theorem State.bitErrorSampled_iff {s : State} : s.bitErrorSampled = true ↔
    ∃ x, s.sendingSample = some x ∧ 9 ≤ s.line.dataBits ∧ s.line.dataBits ≤ 8 * x.bytes.length
      ∧ s.line.lastSample ≠ x.bit s.line.dataBits := by
  unfold State.bitErrorSampled
  split <;> simp_all

theorem State.transmits_eq_some {s : State} {k : Slot} : s.transmits = some k ↔
    (s.line.life = .active ∧ s.line.txEnabled = true ∧ s.line.receiver = .idle) ∧ s.line.slots.first = some k := by
  unfold State.transmits
  split <;> simp_all

theorem State.receives_frame {s : State} {bytes : List Byte} (due : s.receives bytes = true) :
    s.line.receiver = .frame ∧ s.line.sending = none ∧ s.line.aborting = false := by
  simp only [State.receives, Bool.and_eq_true, Option.isNone_iff_eq_none, Bool.not_eq_true'] at due
  obtain ⟨⟨⟨⟨sampled, free⟩, whole⟩, -⟩, -⟩ := due
  exact ⟨State.sampledNow_frame sampled, free, whole⟩

theorem State.fallingEdge_off {s : State} (off : s.line.receiver = .off) : s.fallingEdge = s := by
  unfold State.fallingEdge
  rw [off]

/-- An edge leaves a receiver that is off where it is. -/
theorem State.pulledLow_off {s : State} (off : s.line.receiver = .off) :
    s.pulledLow.line = { s.line with othersLow := true } := by
  unfold State.pulledLow
  simp only
  split
  · rfl
  · have still : s.idleSettled = s := by
      obtain e | ⟨wait, -⟩ := s.idleSettled_cases
      · exact e
      · simp [off] at wait
    rw [still, State.fallingEdge_off (by simpa using off)]
    simp

theorem State.letGo_off {s : State} (off : s.line.receiver = .off) :
    s.letGo.line.receiver = .off ∧ s.letGo.line.sending = s.line.sending := by
  unfold State.letGo
  split
  · exact ⟨off, rfl⟩
  · have still : s.holdSettled = s := by
      obtain e | ⟨on, -⟩ := s.holdSettled_cases
      · exact e
      · exact absurd off on
    rw [still]
    unfold State.riseJudged
    simp [off]

end Sys2Proof.Machine
end

section
/-!
Every step keeps the line's invariant.
-/

set_option Elab.async false

namespace Sys2Proof.Machine

theorem dueAt_isSome {d : Option Timer} {now : Time} (due : dueAt d now = true) : d.isSome = true := by
  cases d with
  | none => simp [dueAt] at due
  | some => rfl

theorem State.finishStart_power (s : State) : s.finishStart.pwr.power = .standby ∨ s.finishStart.pwr.power = .run := by
  rw [State.finishStart_eq]
  split
  · exact .inr (by simp [State.enterRun_power])
  · exact .inl (by simp [State.enterStandby_power])

/-- A crank edge moves the part between awake power states only (R189). -/
theorem State.crankEdge_power (s : State) :
    s.crankEdge.pwr.power = s.pwr.power ∨ s.pwr.power = .standby ∧ s.crankEdge.pwr.power = .run := by
  unfold State.crankEdge State.signalCrank
  split
  · split
    next loading => exact .inl (by simp)
    next standby => exact .inr ⟨by simpa using standby, by simp [State.enterRun_power]⟩
    next run => exact .inl (by simp)
    all_goals exact .inl rfl
  · exact .inl (by simp)

@[simp] theorem State.enterRun_listenTimer (s : State) : s.enterRun.pwr.listenTimer = s.pwr.listenTimer := by
  simp [State.enterRun, State.bothCams]

@[simp] theorem State.enterStandby_listenTimer (s : State) : s.enterStandby.pwr.listenTimer = s.pwr.listenTimer := by
  simp [State.enterStandby]

@[simp] theorem State.crankEdge_listenTimer (s : State) : s.crankEdge.pwr.listenTimer = s.pwr.listenTimer := by
  unfold State.crankEdge State.signalCrank
  (repeat' split) <;> simp

@[simp] theorem State.quietRestart_power (s : State) : s.quietRestart.pwr.power = s.pwr.power
    ∧ s.quietRestart.pwr.listenTimer = s.pwr.listenTimer := by
  unfold State.quietRestart
  split <;> simp

@[simp] theorem State.pulledLow_power (s : State) : s.pulledLow.pwr.power = s.pwr.power
    ∧ s.pulledLow.pwr.listenTimer = s.pwr.listenTimer := by
  unfold State.pulledLow
  simp only
  split <;> simp

theorem State.pulledLow_silent (s : State) (h : s.Silent) : s.pulledLow.Silent := by
  by_cases off : s.line.receiver = .off
  · have line := State.pulledLow_off off
    exact h.of_power (by simp) (by rw [line]) (by rw [line])
  · exact h.of_on off

theorem State.letGo_silent (s : State) (h : s.Silent) : s.letGo.Silent := by
  by_cases off : s.line.receiver = .off
  · obtain ⟨receiver, sending⟩ := State.letGo_off off
    exact h.of_power (by simp) (receiver.trans off.symm) sending
  · exact h.of_on off

/-- The receiver of a dark part stays off, whatever command comes (R2, R160). -/
theorem effect_silent {c : Instr} {s t : State} (h : s.Silent) (effect : Effect s c t) : t.Silent := by
  have doze {u : State} (kept : u.Silent) : u.dozeCheck.Silent := State.dozeCheck_keeps kept fun _ => u.enterDoze_silent
  cases effect with
  | crankEdge on =>
    obtain same | ⟨-, run⟩ := s.crankEdge_power
    · exact h.of_power same
    · exact .of_awake (.inr (.inr run))
  | framingError due => exact doze (h.of_on (State.framingDue_on due))
  | lineIdle due =>
    obtain ⟨wait, -⟩ := State.idleReached_iff.mp due
    exact h.of_on (by simp [wait])
  | lineHeld => exact h.of_power (by simp) (by simp [State.lineHeld]) (by simp [State.lineHeld])
  | frameReceived bytes due => exact h.of_on (by simp [State.receives_frame due])
  | transmitStart k due =>
    obtain ⟨⟨-, -, idle⟩, -⟩ := State.transmits_eq_some.mp due
    exact h.of_on (by simp [idle])
  | arbitrationLoss x due =>
    obtain ⟨sample, -⟩ := State.arbitrationLost_eq_some.mp due
    exact doze (h.of_on (by simp [State.sampledNow_frame (State.sendingSample_eq_some.mp sample).1]))
  | bitError due =>
    obtain ⟨x, sample, -⟩ := State.bitErrorSampled_iff.mp due
    exact h.of_on (by simp [State.sampledNow_frame (State.sendingSample_eq_some.mp sample).1])
  | transmitComplete x due =>
    obtain ⟨sample, -⟩ := State.lastBit_eq_some.mp due
    exact doze (h.of_on (by simp [State.sampledNow_frame (State.sendingSample_eq_some.mp sample).1]))
  | lineFallingEdge => exact doze (s.pulledLow_silent h)
  | othersRelease => exact s.letGo_silent h
  | startOfFrame => exact doze (s.letGo_silent h)
  | storeWriteEnd w readBack => exact doze (h.of_power)
  | stopTimer => exact .of_awake (.inr (.inl rfl))
  | quietTimer => exact doze (h.of_power)
  | wakeEdge asleep => exact fun _ => h (by simp [State.dark, State.sensing, asleep])
  | wakeComplete => exact .of_awake (.inr (.inl rfl))
  | reset => exact fun _ => ⟨rfl, rfl⟩
  | resetRelease held => exact fun _ => h (by simp [State.dark, State.sensing, held])
  | startDelayEnd => exact .of_awake (.inl rfl)
  | storeLoadComplete => exact .of_awake (.inr (State.finishStart_power _))
  | _ => exact h.of_power

/-! ## Each operation (R158, R160, R168, R170, R172) -/

theorem Line.Sound.own_of {l : Line} {s t : State} (h : l.Sound s.own) (straps : t.straps = s.straps) : l.Sound t.own := by
  rwa [State.own_of_straps straps]

/-- A frame received whole (R160, R163). -/
theorem Line.Sound.complete {s : State} {own : Nat} (h : s.line.Sound own) (free : s.line.sending = none) (bytes : List Byte) :
    (s.completeFrame bytes).line.Sound own := by
  refine (h.waiting free).of_view ?_
  unfold State.completeFrame State.received State.takeValid
  (repeat' split) <;> simp [Line.view, Line.place]

/-- A transmission begins in IDLE, on a high line (R168). -/
theorem Line.Sound.start {s : State} {own : Nat} (h : s.line.Sound own) {k : Slot} (due : s.transmits = some k) :
    (s.startTransmission k).line.Sound own := by
  obtain ⟨⟨active, -, idle⟩, -⟩ := State.transmits_eq_some.mp due
  obtain ⟨-, aborting, -, -⟩ := h.idle_free idle
  have begun : Line.Sound { s.line with
      receiver := .frame, sending := some ⟨k, (s.compose k).bytes⟩, drive := some ⟨s.now, 6 * (s.tb / 4)⟩ } own :=
    ⟨h.seq, fun _ => ⟨rfl, active⟩, h.active, fun _ => nofun, fun aborts => by simp [aborting] at aborts, nofun, nofun⟩
  refine begun.of_view ?_
  unfold State.startTransmission State.noteComposed
  (repeat' split) <;> simp [Line.view]

/-- A lost arbitration leaves the receiver in FRAME (R169). -/
theorem Line.Sound.lost {s : State} {own : Nat} (h : s.line.Sound own) (frame : s.line.receiver = .frame) (x : Transmission) :
    (s.loseArbitration x).line.Sound own := by
  have lost : Line.Sound { s.line.release s.now with sending := none } own :=
    h.quietly h.seq rfl rfl rfl rfl (by simp [frame]) (by simp [frame])
  refine lost.of_view ?_
  unfold State.loseArbitration
  simp only
  split <;> simp [Line.view, Line.release]

/-- The 2Tb low of a bit error (R170). -/
theorem Line.Sound.aborted {s : State} {own : Nat} (h : s.line.Sound own) (frame : s.line.receiver = .frame)
    (sends : s.line.sending.isSome = true) : s.bitError.line.Sound own := by
  have aborted : Line.Sound { s.line with sending := none, aborting := true, drive := some ⟨s.line.lastFall, 2 * s.tb⟩ } own :=
    ⟨h.seq, nofun, h.active, fun _ => by simp [frame], fun _ => ⟨rfl, rfl⟩, by simp [frame], by simp [frame]⟩
  refine aborted.of_view ?_
  simp [State.bitError, State.dropOwnFrame_line, sends, Line.view]

/-- A completed transmission advances the sequence number modulo 16 (R171). -/
theorem Line.Sound.completed {s : State} {own : Nat} (h : s.line.Sound own) (x : Transmission)
    (sends : s.line.sending.isSome = true) : (s.completeTransmission x).line.Sound own := by
  have whole : s.line.aborting ≠ true := fun aborts => by simp [(h.abort aborts).2] at sends
  have waits : Line.Sound { s.line with sending := none, receiver := .waitIdle, seq := (s.line.seq + 1) % 16 } own :=
    ⟨by dsimp only; omega, nofun, h.active, fun _ => nofun, fun aborts => absurd aborts whole, nofun, nofun⟩
  refine waits.of_view ?_
  simp [State.completeTransmission, Line.view, Line.wait]

theorem LineSound.doze {s : State} (h : LineSound s) : LineSound s.enterDoze := by
  obtain ⟨sound, -, -⟩ := (lineSound_iff s).mp h
  refine (lineSound_iff _).mpr ⟨?_, s.enterDoze_silent, fun early => by simp [State.early, State.enterDoze_power] at early⟩
  rw [State.enterDoze_line, State.own_of_straps (s := s) (by simp)]
  exact sound.quietly sound.seq rfl rfl rfl rfl nofun nofun

theorem LineSound.dozeCheck {s : State} (h : LineSound s) : LineSound s.dozeCheck :=
  State.dozeCheck_keeps h fun _ => h.doze

/-- In the dark nothing is driven, aborted or sent. -/
theorem LineSound.dark_free {s : State} (h : LineSound s) (dark : s.dark = true) :
    s.line.sending = none ∧ s.line.drive = none ∧ s.line.aborting = false := by
  obtain ⟨off, sending⟩ := h.dark dark
  have drive : s.line.drive = none := by
    by_contra drives
    exact h.drive (Option.isSome_iff_ne_none.mpr drives) off
  refine ⟨sending, drive, ?_⟩
  by_contra aborts
  have := (h.abort (by simpa using aborts)).1
  simp [drive] at this

/-- The receiver comes on (R160, R190, R191). -/
theorem LineSound.listen {s : State} (h : LineSound s) (dark : s.dark = true) (now : Time) {own : Nat}
    (active : s.line.life = .active → own ≠ 0) : (s.line.listenFrom now).Sound own := by
  obtain ⟨sending, drive, aborting⟩ := h.dark_free dark
  exact ⟨h.seq, fun some => by simp [Line.listenFrom, sending] at some, active, fun some => by simp [Line.listenFrom, drive] at some,
    fun some => by simp [Line.listenFrom, aborting] at some, nofun, nofun⟩

theorem LineSound.finishStart {s : State} (h : LineSound s) (early : s.early) : LineSound s.finishStart := by
  obtain ⟨sound, -, -⟩ := (lineSound_iff s).mp h
  have free : s.line.sending.isSome ≠ true := fun sends => by
    have := (sound.sending sends).2
    simp [(h.start early).1] at this
  have awake := s.finishStart_power
  refine (lineSound_iff _).mpr ⟨?_, .of_awake (.inr awake), fun again => ?_⟩
  · rw [State.own_of_straps (s := s) (by simp)]
    have listens : Line.Sound { s.line with life := .listen } s.own :=
      ⟨sound.seq, fun sends => absurd sends free, nofun, sound.drive, sound.abort, sound.quiet, sound.pulled⟩
    refine listens.of_view ?_
    rw [State.finishStart_eq]
    split <;> simp [Line.view, State.started, State.enterStandby]
  · unfold State.early at again
    rcases awake with on | on <;> simp [on] at again

theorem State.wakeUp_power (s : State) : s.wakeUp.pwr.power = .standby := by simp [State.wakeUp, State.enterStandby_power]

theorem State.wakeUp_view (s : State) : s.wakeUp.line.view = (s.line.listenFrom 0).view := by
  simp [State.wakeUp, Line.view, Line.listenFrom]

theorem State.framingError_life (s : State) : s.framingError.line.life = s.line.life := by
  rw [State.framingError_line]
  simp only
  split <;> rfl

@[simp] theorem State.idleSettled_life (s : State) : s.idleSettled.line.life = s.line.life := by
  unfold State.idleSettled State.lineIdle
  split <;> simp

@[simp] theorem State.holdSettled_life (s : State) : s.holdSettled.line.life = s.line.life := by
  unfold State.holdSettled State.lineHeld
  split <;> simp

theorem State.pulledLow_life (s : State) : s.pulledLow.line.life = s.line.life := by
  unfold State.pulledLow State.fallingEdge
  simp only
  (repeat' split) <;> simp [State.framingError_life, Line.beginBit]

theorem State.letGo_life (s : State) : s.letGo.line.life = s.line.life := by
  unfold State.letGo State.riseJudged State.judgeLow
  simp only
  (repeat' split) <;> simp [State.framingError_life, Line.wait]

theorem LineSound.letGo {s : State} (h : LineSound s) : LineSound s.letGo := by
  obtain ⟨sound, silent, listening⟩ := (lineSound_iff s).mp h
  refine (lineSound_iff _).mpr ⟨?_, s.letGo_silent silent, ?_⟩
  · rw [State.own_of_straps (s := s) (by simp)]
    exact sound.letGo
  · unfold State.Listening
    rw [State.early_of_power (s := s) (by simp), State.letGo_life, show s.letGo.pwr = s.pwr by simp]
    exact listening

theorem lineSound_effect {c : Instr} {s t : State} (h : LineSound s) (effect : Effect s c t) : LineSound t := by
  obtain ⟨sound, silent, listening⟩ := (lineSound_iff s).mp h
  have silent' := effect_silent silent effect
  have expired (due : dueAt s.pwr.listenTimer s.now = true) : ¬s.early := fun early => by
    have := dueAt_isSome due
    simp [(listening early).2] at this
  cases effect with
  | nothing => exact h
  | crankEdge =>
    refine (lineSound_iff _).mpr ⟨?_, silent', fun early => ?_⟩
    · rw [State.own_of_straps (s := s) (by simp)]
      exact sound.of_view (by simp [Line.view])
    · unfold State.early at early
      obtain same | ⟨-, run⟩ := s.crankEdge_power
      · rw [same] at early
        simpa using listening early
      · simp [run] at early
  | framingError due => exact (h.of_on (State.framingDue_on due) (·.framingError) s.framingError_life).dozeCheck
  | lineIdle due =>
    obtain ⟨wait, low, -⟩ := State.idleReached_iff.mp due
    exact h.of_on (by simp [wait]) (·.idle low wait) (by simp [State.lineIdle])
  | lineHeld => exact h.of_view (by simp)
  | frameReceived bytes due =>
    obtain ⟨frame, free, -⟩ := State.receives_frame due
    exact h.of_on (by simp [frame]) (·.complete free bytes) (by
      unfold State.completeFrame State.received State.takeValid
      (repeat' split) <;> simp [Line.place, Line.wait])
  | transmitStart k due =>
    obtain ⟨⟨-, -, idle⟩, -⟩ := State.transmits_eq_some.mp due
    exact h.of_on (by simp [idle]) (·.start due) (by
      unfold State.startTransmission State.noteComposed
      (repeat' split) <;> simp)
  | arbitrationLoss x due =>
    obtain ⟨sample, -⟩ := State.arbitrationLost_eq_some.mp due
    have frame := State.sampledNow_frame (State.sendingSample_eq_some.mp sample).1
    exact (h.of_on (by simp [frame]) (·.lost frame x) (by
      unfold State.loseArbitration
      simp only
      split <;> simp)).dozeCheck
  | bitError due =>
    obtain ⟨x, sample, -⟩ := State.bitErrorSampled_iff.mp due
    obtain ⟨sampled, sends⟩ := State.sendingSample_eq_some.mp sample
    have frame := State.sampledNow_frame sampled
    exact h.of_on (by simp [frame]) (·.aborted frame (by simp [sends])) (by simp [State.bitError, State.dropOwnFrame_line, sends])
  | transmitComplete x due =>
    obtain ⟨sample, -⟩ := State.lastBit_eq_some.mp due
    obtain ⟨sampled, sends⟩ := State.sendingSample_eq_some.mp sample
    have frame := State.sampledNow_frame sampled
    exact (h.of_on (by simp [frame]) (·.completed x (by simp [sends])) (by simp [State.completeTransmission, Line.wait])).dozeCheck
  | listenEnds due => exact (lineSound_iff _).mpr ⟨sound, silent', fun early => absurd early (expired due)⟩
  | listenExpiry due number =>
    refine (lineSound_iff _).mpr ⟨?_, silent', fun early => absurd early (expired due)⟩
    exact ⟨sound.seq, fun sends => ⟨(sound.sending sends).1, rfl⟩, fun _ => number, sound.drive, sound.abort, sound.quiet,
      sound.pulled⟩
  | storeWriteEnd w readBack => exact LineSound.dozeCheck h.of_view
  | stopTimer =>
    refine (lineSound_iff _).mpr ⟨?_, silent', fun early => by simp [State.early, State.enterStandby_power] at early⟩
    rw [State.own_of_straps (s := s) (by simp)]
    exact sound.of_view (by simp [Line.view, State.enterStandby])
  | quietTimer => exact LineSound.dozeCheck h.of_view
  | wakeEdge => exact (lineSound_iff _).mpr ⟨sound, silent', fun early => by simp [State.early] at early⟩
  | wakeComplete waking =>
    refine (lineSound_iff _).mpr ⟨?_, silent', fun early => by simp [State.early, State.wakeUp_power] at early⟩
    rw [State.own_of_straps (s := s) (by simp)]
    exact (h.listen (by simp [State.dark, State.sensing, waking]) 0 h.active).of_view s.wakeUp_view
  | reset =>
    exact (lineSound_iff _).mpr ⟨⟨Nat.zero_le _, nofun, nofun, nofun, nofun, nofun, nofun⟩, silent', fun _ => ⟨rfl, rfl⟩⟩
  | resetRelease held => exact (lineSound_iff _).mpr ⟨sound, silent', fun _ => listening (.inl held)⟩
  | startDelayEnd pins delayed =>
    have early : s.early := .inr (.inl delayed)
    refine (lineSound_iff _).mpr ⟨?_, silent', fun _ => listening early⟩
    exact h.listen (by simp [State.dark, State.sensing, delayed]) s.now fun active => by simp [(listening early).1] at active
  | storeLoadComplete due =>
    obtain ⟨loading, -⟩ := Bool.and_eq_true_iff.mp due
    have loaded : LineSound s.loadRecords := h.of_view
    exact loaded.finishStart (by rw [State.early_of_power (s := s) (by simp)]; exact .inr (.inr (of_decide_eq_true loading)))
  | lineFallingEdge =>
    refine LineSound.dozeCheck ((lineSound_iff _).mpr ⟨?_, s.pulledLow_silent silent, ?_⟩)
    · rw [State.own_of_straps (s := s) (by simp)]
      exact sound.pulledLow
    · unfold State.Listening
      rw [State.early_of_power (s := s) (by simp), State.pulledLow_life, (s.pulledLow_power).2]
      exact listening
  | othersRelease => exact h.letGo
  | startOfFrame => exact h.letGo.dozeCheck
  | _ => exact h.of_view

/-! ## Ticks and the queue -/

theorem LineSound.clockTick {s : State} (h : LineSound s) : LineSound s.clockTick := by
  obtain ⟨sound, silent, listening⟩ := (lineSound_iff s).mp h
  have ticked : LineSound ({ s with now := s.now + 1 }.withLine (·.tick (s.now + 1) s.tb)) :=
    (lineSound_iff _).mpr ⟨sound.tick _ _, silent.of_power, by simpa [State.Listening, State.early] using listening⟩
  unfold State.clockTick
  split
  · exact h
  · exact h
  · exact h.of_view
  · exact h.of_view rfl rfl rfl rfl
  all_goals exact ticked

/-- Settles O14: the receiver stays off in the dark (`effect_silent`), and every operation of the line controller keeps
`Line.Sound`. -/
theorem everyStepKeepsLineSound : Obligations.EveryStepKeepsLineSound := by
  unfold Obligations.EveryStepKeepsLineSound
  exact step_keeps (fun _ _ h => h.of_view rfl rfl rfl rfl) (fun _ _ _ h effect => lineSound_effect h effect)
    fun _ h => tick_keeps h.clockTick fun _ => h.clockTick.doze

end Sys2Proof.Machine
end

section
/-!
Which commands leave the peer table alone: of SHR's record, the cam chain changes the demands and the starved count only, the source's
choice the source only.
-/

set_option Elab.async false

namespace Sys2Proof.Machine

@[simp] theorem State.chooseSource_table (s : State) :
    (State.chooseSource s).shr.peers = s.shr.peers
    ∧ (State.chooseSource s).shr.filings = s.shr.filings := by
  simp [State.chooseSource]

@[simp] theorem State.rechoose_table (s : State) :
    (State.rechoose s).shr.peers = s.shr.peers
    ∧ (State.rechoose s).shr.filings = s.shr.filings := by
  simp only [State.rechoose]
  (repeat' split) <;> simp

@[simp] theorem State.setDemand_table (s : State) (c : Cam) (d : Nat) :
    (State.setDemand s c d).shr.peers = s.shr.peers
    ∧ (State.setDemand s c d).shr.filings = s.shr.filings := by
  simp only [State.setDemand]
  (repeat' split) <;> simp

@[simp] theorem State.countStarved_table (s : State) :
    (State.countStarved s).shr.peers = s.shr.peers
    ∧ (State.countStarved s).shr.filings = s.shr.filings := by
  simp only [State.countStarved]
  (repeat' split) <;> simp

@[simp] theorem State.shareTimer_table (s : State) :
    (State.shareTimer s).shr.peers = s.shr.peers
    ∧ (State.shareTimer s).shr.filings = s.shr.filings := by
  simp [State.shareTimer]

@[simp] theorem State.enterCam_table (s : State) (c : Cam) (new : CamState) (parkTime : Time) :
    (State.enterCam s c new parkTime).shr.peers = s.shr.peers
    ∧ (State.enterCam s c new parkTime).shr.filings = s.shr.filings := by
  obtain ⟨-, -, -, -, -, -, -, -, -, shr⟩ := s.enterCam_spec c new parkTime
  rw [shr]
  split <;> exact ⟨rfl, rfl⟩

@[simp] theorem State.camToOff_table (c : Cam) (s : State) :
    (State.camToOff c s).shr.peers = s.shr.peers
    ∧ (State.camToOff c s).shr.filings = s.shr.filings := by
  simp only [State.camToOff]
  (repeat' split) <;> simp

@[simp] theorem State.camToFaulted_table (c : Cam) (s : State) :
    (State.camToFaulted c s).shr.peers = s.shr.peers
    ∧ (State.camToFaulted c s).shr.filings = s.shr.filings := by
  simp only [State.camToFaulted]
  (repeat' split) <;> simp

@[simp] theorem State.raiseLatched_table (s : State) (c : Cam) (k : Cond) :
    (State.raiseLatched s c k).shr.peers = s.shr.peers
    ∧ (State.raiseLatched s c k).shr.filings = s.shr.filings := by
  simp only [State.raiseLatched]
  (repeat' split) <;> simp

@[simp] theorem State.judgePark_table (s : State) (c : Cam) (m : Measurement) :
    (State.judgePark s c m).shr.peers = s.shr.peers
    ∧ (State.judgePark s c m).shr.filings = s.shr.filings := by
  simp only [State.judgePark]
  (repeat' split) <;> simp

@[simp] theorem State.review_table (s : State) (c : Cam) (at_ : Option Measurement) :
    (State.review s c at_).shr.peers = s.shr.peers
    ∧ (State.review s c at_).shr.filings = s.shr.filings := by
  simp only [State.review]
  (repeat' split) <;> simp

@[simp] theorem State.reviewBoth_table (s : State) :
    (State.reviewBoth s).shr.peers = s.shr.peers
    ∧ (State.reviewBoth s).shr.filings = s.shr.filings := by
  simp [State.reviewBoth]

@[simp] theorem State.timeStuck_table (s : State) (c : Cam) (e : Int) (dtq : Nat) (met : Bool) :
    (State.timeStuck s c e dtq met).shr.peers = s.shr.peers
    ∧ (State.timeStuck s c e dtq met).shr.filings = s.shr.filings := by
  simp only [State.timeStuck]
  (repeat' split) <;> simp

@[simp] theorem State.toLossPark_table (s : State) :
    (State.toLossPark s).shr.peers = s.shr.peers
    ∧ (State.toLossPark s).shr.filings = s.shr.filings := by
  simp [State.toLossPark]

@[simp] theorem State.toLossHold_table (s : State) :
    (State.toLossHold s).shr.peers = s.shr.peers
    ∧ (State.toLossHold s).shr.filings = s.shr.filings := by
  simp [State.toLossHold]

@[simp] theorem State.demandExpiry_table (s : State) :
    (State.demandExpiry s).shr.peers = s.shr.peers
    ∧ (State.demandExpiry s).shr.filings = s.shr.filings := by
  simp only [State.demandExpiry]
  (repeat' split) <;> simp

@[simp] theorem State.acceptDemand_table (s : State) (payload : List Byte) :
    (State.acceptDemand s payload).shr.peers = s.shr.peers
    ∧ (State.acceptDemand s payload).shr.filings = s.shr.filings := by
  simp only [State.acceptDemand]
  (repeat' split) <;> simp

@[simp] theorem State.loopStages_table (s : State) (c : Cam) (m : Measurement) :
    (s.loopStages c m).state.shr.peers = s.shr.peers
    ∧ (s.loopStages c m).state.shr.filings = s.shr.filings := by
  simp only [State.loopStages]
  split <;> simp

@[simp] theorem State.loopUpdate_table (s : State) (c : Cam) (m : Measurement) :
    (State.loopUpdate s c m).shr.peers = s.shr.peers
    ∧ (State.loopUpdate s c m).shr.filings = s.shr.filings := by
  simp only [State.loopUpdate]
  (repeat' split) <;> simp

@[simp] theorem State.measure_table (s : State) (c : Cam) (m : Measurement) :
    (State.measure s c m).shr.peers = s.shr.peers
    ∧ (State.measure s c m).shr.filings = s.shr.filings := by
  simp only [State.measure]
  (repeat' split) <;> simp

@[simp] theorem State.identified_table (s : State) (c : Cam) (t : Time) (angle e ref : Nat) :
    (State.identified s c t angle e ref).shr.peers = s.shr.peers
    ∧ (State.identified s c t angle e ref).shr.filings = s.shr.filings := by
  simp only [State.identified]
  (repeat' split) <;> simp

@[simp] theorem State.stampedEdge_table (s : State) (c : Cam) (t : Time) (angle : Nat) :
    (State.stampedEdge s c t angle).shr.peers = s.shr.peers
    ∧ (State.stampedEdge s c t angle).shr.filings = s.shr.filings := by
  simp only [State.stampedEdge]
  (repeat' split) <;> simp

@[simp] theorem State.badCycle_table (s : State) (c : Cam) :
    (State.badCycle s c).shr.peers = s.shr.peers
    ∧ (State.badCycle s c).shr.filings = s.shr.filings := by
  simp only [State.badCycle]
  (repeat' split) <;> simp

@[simp] theorem State.cycleEndOf_table (c : Cam) (s : State) :
    (State.cycleEndOf c s).shr.peers = s.shr.peers
    ∧ (State.cycleEndOf c s).shr.filings = s.shr.filings := by
  simp only [State.cycleEndOf]
  (repeat' split) <;> simp

@[simp] theorem State.cycleEnd_table (s : State) :
    (State.cycleEnd s).shr.peers = s.shr.peers
    ∧ (State.cycleEnd s).shr.filings = s.shr.filings := by
  simp [State.cycleEnd, State.bothCams]

@[simp] theorem State.releaseCam_table (c : Cam) (s : State) :
    (State.releaseCam c s).shr.peers = s.shr.peers
    ∧ (State.releaseCam c s).shr.filings = s.shr.filings := by
  simp [State.releaseCam]

@[simp] theorem State.leaveCycleSync_table (s : State) :
    (State.leaveCycleSync s).shr.peers = s.shr.peers
    ∧ (State.leaveCycleSync s).shr.filings = s.shr.filings := by
  simp only [State.leaveCycleSync]
  (repeat' split) <;> simp [State.bothCams]

@[simp] theorem State.enterStopped_table (s : State) :
    (State.enterStopped s).shr.peers = s.shr.peers
    ∧ (State.enterStopped s).shr.filings = s.shr.filings := by
  simp [State.enterStopped]

@[simp] theorem State.loseSync_table (s : State) (lastCrank : Option Time) (tPrev : Option Nat) (stallRef : Time) :
    (State.loseSync s lastCrank tPrev stallRef).shr.peers = s.shr.peers
    ∧ (State.loseSync s lastCrank tPrev stallRef).shr.filings = s.shr.filings := by
  simp [State.loseSync]

@[simp] theorem State.fallToCrankSync_table (s : State) :
    (State.fallToCrankSync s).shr.peers = s.shr.peers
    ∧ (State.fallToCrankSync s).shr.filings = s.shr.filings := by
  simp [State.fallToCrankSync]

@[simp] theorem State.cycleCheck_table (s : State) :
    (State.cycleCheck s).shr.peers = s.shr.peers
    ∧ (State.cycleCheck s).shr.filings = s.shr.filings := by
  simp only [State.cycleCheck]
  (repeat' split) <;> simp

@[simp] theorem State.revolutionCycleEnd_table (s : State) :
    (State.revolutionCycleEnd s).shr.peers = s.shr.peers
    ∧ (State.revolutionCycleEnd s).shr.filings = s.shr.filings := by
  simp only [State.revolutionCycleEnd]
  (repeat' split) <;> simp

@[simp] theorem State.evaluateCounts_table (s : State) :
    (State.evaluateCounts s).shr.peers = s.shr.peers
    ∧ (State.evaluateCounts s).shr.filings = s.shr.filings := by
  simp only [State.evaluateCounts]
  (repeat' split) <;> simp

@[simp] theorem State.completeRevolution_table (s : State) (t : Time) :
    (State.completeRevolution s t).shr.peers = s.shr.peers
    ∧ (State.completeRevolution s t).shr.filings = s.shr.filings := by
  simp [State.completeRevolution]

@[simp] theorem State.crankInSync_table (s : State) (t : Time) :
    (State.crankInSync s t).shr.peers = s.shr.peers
    ∧ (State.crankInSync s t).shr.filings = s.shr.filings := by
  simp only [State.crankInSync]
  (repeat' split) <;> simp

@[simp] theorem State.crankEntry_table (s : State) (t : Time) :
    (State.crankEntry s t).shr.peers = s.shr.peers
    ∧ (State.crankEntry s t).shr.filings = s.shr.filings := by
  simp only [State.crankEntry]
  (repeat' split) <;> simp

@[simp] theorem State.camEntry_table (s : State) (c : Cam) (t : Time) :
    (State.camEntry s c t).shr.peers = s.shr.peers
    ∧ (State.camEntry s c t).shr.filings = s.shr.filings := by
  simp only [State.camEntry]
  (repeat' split) <;> simp

@[simp] theorem State.overflowMarker_table (s : State) (t : Time) :
    (State.overflowMarker s t).shr.peers = s.shr.peers
    ∧ (State.overflowMarker s t).shr.filings = s.shr.filings := by
  simp only [State.overflowMarker]
  (repeat' split) <;> simp

@[simp] theorem State.closeTrip_table (s : State) (c : Cam) :
    (State.closeTrip s c).shr.peers = s.shr.peers
    ∧ (State.closeTrip s c).shr.filings = s.shr.filings := by
  simp only [State.closeTrip]
  (repeat' split) <;> simp

@[simp] theorem State.closeOpenLoad_table (s : State) (c : Cam) :
    (State.closeOpenLoad s c).shr.peers = s.shr.peers
    ∧ (State.closeOpenLoad s c).shr.filings = s.shr.filings := by
  simp only [State.closeOpenLoad]
  (repeat' split) <;> simp

@[simp] theorem State.closePeriod_table (s : State) (c : Cam) :
    (State.closePeriod s c).shr.peers = s.shr.peers
    ∧ (State.closePeriod s c).shr.filings = s.shr.filings := by
  simp [State.closePeriod]

@[simp] theorem State.supplyLowExpiry_table (s : State) :
    (State.supplyLowExpiry s).shr.peers = s.shr.peers
    ∧ (State.supplyLowExpiry s).shr.filings = s.shr.filings := by
  simp [State.supplyLowExpiry, State.bothCams]

@[simp] theorem State.pressureCount_table (s : State) (count : Nat) :
    (State.pressureCount s count).shr.peers = s.shr.peers
    ∧ (State.pressureCount s count).shr.filings = s.shr.filings := by
  simp only [State.pressureCount]
  (repeat' split) <;> simp

@[simp] theorem State.enterRun_table (s : State) :
    (State.enterRun s).shr.peers = s.shr.peers
    ∧ (State.enterRun s).shr.filings = s.shr.filings := by
  simp only [State.enterRun]
  (repeat' split) <;> simp [State.bothCams]

@[simp] theorem State.enterStandby_table (s : State) :
    (State.enterStandby s).shr.peers = s.shr.peers
    ∧ (State.enterStandby s).shr.filings = s.shr.filings := by
  simp [State.enterStandby]

@[simp] theorem State.wakeUp_table (s : State) :
    (State.wakeUp s).shr.peers = s.shr.peers
    ∧ (State.wakeUp s).shr.filings = s.shr.filings := by
  simp [State.wakeUp]

@[simp] theorem State.signalCrank_table (s : State) :
    (State.signalCrank s).shr.peers = s.shr.peers
    ∧ (State.signalCrank s).shr.filings = s.shr.filings := by
  simp only [State.signalCrank]
  (repeat' split) <;> simp

@[simp] theorem State.crankEdge_table (s : State) :
    (State.crankEdge s).shr.peers = s.shr.peers
    ∧ (State.crankEdge s).shr.filings = s.shr.filings := by
  simp only [State.crankEdge]
  (repeat' split) <;> simp

@[simp] theorem State.takeDemand_table (s : State) (w : Received) :
    (State.takeDemand s w).shr.peers = s.shr.peers
    ∧ (State.takeDemand s w).shr.filings = s.shr.filings := by
  simp only [State.takeDemand]
  (repeat' split) <;> simp

@[simp] theorem State.releaseFaulted_table (c : Cam) (s : State) :
    (State.releaseFaulted c s).shr.peers = s.shr.peers
    ∧ (State.releaseFaulted c s).shr.filings = s.shr.filings := by
  simp only [State.releaseFaulted]
  (repeat' split) <;> simp

@[simp] theorem State.clearConditions_table (s : State) :
    (State.clearConditions s).shr.peers = s.shr.peers
    ∧ (State.clearConditions s).shr.filings = s.shr.filings := by
  simp [State.clearConditions, State.bothCams]

end Sys2Proof.Machine
end

section
/-!
The invariant of the peer table: what each change of the table keeps, and every step.
-/

set_option Elab.async false

namespace Sys2Proof.Machine

/-! ## The table (R130 to R134) -/

/-- The peer table of station `own`, with `filings` SHARE frames filed so far. -/
structure PeerTable (peers : List Peer) (filings own : Nat) : Prop where
  sorted : (peers.map Peer.station).Pairwise (· < ·)
  below  : ∀ p ∈ peers, p.station ≤ 7 ∧ p.station ≠ own
  role   : ∀ p ∈ peers, p.role = .controller ↔ p.station = 0
  missed : ∀ p ∈ peers, p.missed ≤ 255
  filed  : ∀ p ∈ peers, ∀ d ∈ p.share, d.filing < filings
  order  : ∀ p ∈ peers, ∀ q ∈ peers, ∀ d ∈ p.share, ∀ e ∈ q.share, d.filing = e.filing → p = q

theorem peersSound_iff (s : State) : PeersSound s ↔
    PeerTable s.shr.peers s.shr.filings s.own ∧ (s.dark = true → s.shr.peers = []) ∧ s.Silent :=
  ⟨fun ⟨sorted, below, role, missed, filed, order, empty⟩ =>
    ⟨⟨sorted, below, role, missed, filed, order⟩, fun dark => (empty dark).1, fun dark => (empty dark).2⟩,
   fun ⟨⟨sorted, below, role, missed, filed, order⟩, empty, silent⟩ =>
    ⟨sorted, below, role, missed, filed, order, fun dark => ⟨empty dark, silent dark⟩⟩⟩

namespace PeerTable

variable {peers : List Peer} {filings own : Nat}

theorem nil (filings own : Nat) : PeerTable [] filings own := by
  constructor <;> simp

/-- A station has one record at most. -/
theorem unique (h : PeerTable peers filings own) {p q : Peer} (hp : p ∈ peers) (hq : q ∈ peers) (same : p.station = q.station) :
    p = q :=
  List.inj_on_of_nodup_map (h.sorted.imp Nat.ne_of_lt) hp hq same

/-- Records changed in place. -/
theorem map (h : PeerTable peers filings own) (g : Peer → Peer) (later : Nat) (station : ∀ p, (g p).station = p.station)
    (role : ∀ p, (p.role = .controller ↔ p.station = 0) → ((g p).role = .controller ↔ p.station = 0))
    (missed : ∀ p, p.missed ≤ 255 → (g p).missed ≤ 255)
    (filed : ∀ p ∈ peers, ∀ d ∈ (g p).share, d.filing < later)
    (order : ∀ p ∈ peers, ∀ q ∈ peers, ∀ d ∈ (g p).share, ∀ e ∈ (g q).share, d.filing = e.filing → p = q) :
    PeerTable (peers.map g) later own where
  sorted := by
    rw [List.map_map, show Peer.station ∘ g = Peer.station from funext station]
    exact h.sorted
  below := by
    rw [List.forall_mem_map]
    exact fun p mem => by rw [station]; exact h.below p mem
  role := by
    rw [List.forall_mem_map]
    exact fun p mem => by rw [station]; exact role p (h.role p mem)
  missed := by
    rw [List.forall_mem_map]
    exact fun p mem => missed p (h.missed p mem)
  filed := by
    rw [List.forall_mem_map]
    exact filed
  order := by
    simp only [List.forall_mem_map]
    exact fun p hp q hq d hd e he same => congrArg g (order p hp q hq d hd e he same)

/-- A change in place that files nothing. -/
theorem onPeer (h : PeerTable peers filings own) (n : Nat) (f : Peer → Peer) (station : ∀ p, (f p).station = p.station)
    (role : ∀ p, (f p).role = p.role) (share : ∀ p, (f p).share = p.share) (missed : ∀ p, p.missed ≤ 255 → (f p).missed ≤ 255) :
    PeerTable (peers.map (fun p => if p.station = n then f p else p)) filings own := by
  have sameShare (p : Peer) : (if p.station = n then f p else p).share = p.share := by split <;> simp [share]
  refine h.map _ _ (fun p => ?_) (fun p kept => ?_) (fun p bound => ?_) (fun p mem => ?_) fun p hp q hq => ?_
  · split <;> simp [station]
  · split
    · rwa [role]
    · exact kept
  · split
    · exact missed p bound
    · exact bound
  · rw [sameShare]
    exact h.filed p mem
  · rw [sameShare, sameShare]
    exact h.order p hp q hq

/-- A SHARE filed takes the next place in the order of filings (R130). -/
theorem fileShare (h : PeerTable peers filings own) (n : Nat) (payload : List Byte) (at_ : Time) :
    PeerTable (peers.map (fun p => if p.station = n then p.filed payload at_ filings else p)) (filings + 1) own := by
  refine h.map _ _ (fun p => ?_) (fun p kept => ?_) (fun p bound => ?_) (fun p mem d hd => ?_) fun p hp q hq d hd e he same => ?_
  · split <;> rfl
  · split
    · unfold Peer.filed
      split
      · exact kept
      next other => simp [other]
    · exact kept
  · split <;> exact bound
  · split at hd
    · obtain rfl := Option.mem_some_iff.mp hd
      exact Nat.lt_succ_self filings
    · exact Nat.lt_succ_of_lt (h.filed p mem d hd)
  · split at hd <;> split at he
    next sp sq => exact h.unique hp hq (sp.trans sq.symm)
    · obtain rfl := Option.mem_some_iff.mp hd
      exact absurd (h.filed q hq e he) (by rw [← same]; exact Nat.lt_irrefl filings)
    · obtain rfl := Option.mem_some_iff.mp he
      exact absurd (h.filed p hp d hd) (by rw [same]; exact Nat.lt_irrefl filings)
    · exact h.order p hp q hq d hd e he same

/-- A record removed. -/
theorem filter (h : PeerTable peers filings own) (keep : Peer → Bool) : PeerTable (peers.filter keep) filings own where
  sorted := h.sorted.sublist ((List.filter_sublist).map _)
  below p mem := h.below p (List.mem_of_mem_filter mem)
  role p mem := h.role p (List.mem_of_mem_filter mem)
  missed p mem := h.missed p (List.mem_of_mem_filter mem)
  filed p mem := h.filed p (List.mem_of_mem_filter mem)
  order p hp q hq := h.order p (List.mem_of_mem_filter hp) q (List.mem_of_mem_filter hq)

end PeerTable

theorem mem_insertPeer {p q : Peer} {peers : List Peer} : q ∈ insertPeer p peers ↔ q = p ∨ q ∈ peers := by
  induction peers with
  | nil => simp [insertPeer]
  | cons r rest ih =>
    unfold insertPeer
    split <;> simp [ih, or_left_comm]

theorem insertPeer_sorted {p : Peer} {peers : List Peer} (sorted : (peers.map Peer.station).Pairwise (· < ·))
    (fresh : ∀ q ∈ peers, q.station ≠ p.station) : ((insertPeer p peers).map Peer.station).Pairwise (· < ·) := by
  induction peers with
  | nil => simp [insertPeer]
  | cons r rest ih =>
    obtain ⟨first, later⟩ := List.pairwise_cons.mp sorted
    unfold insertPeer
    split
    next before =>
      refine List.pairwise_cons.mpr ⟨fun n mem => ?_, sorted⟩
      obtain rfl | mem := List.mem_cons.mp mem
      · exact before
      · exact before.trans (first n mem)
    next behind =>
      refine List.pairwise_cons.mpr ⟨fun n mem => ?_, ih later fun q mem => fresh q (List.mem_cons_of_mem _ mem)⟩
      obtain ⟨q, hq, rfl⟩ := List.mem_map.mp mem
      obtain rfl | old := mem_insertPeer.mp hq
      · have := fresh r List.mem_cons_self
        omega
      · exact first _ (List.mem_map_of_mem old)

/-- A record created for a station with none yet (R132). -/
theorem PeerTable.create {peers : List Peer} {filings own : Nat} (h : PeerTable peers filings own) {f : Frame} (now : Time)
    (known : f.station ≤ 7) (other : f.station ≠ own) (none : ∀ q ∈ peers, q.station ≠ f.station) :
    PeerTable (insertPeer (.created f now) peers) filings own where
  sorted := insertPeer_sorted h.sorted none
  below p mem := by
    obtain rfl | old := mem_insertPeer.mp mem
    · exact ⟨known, other⟩
    · exact h.below p old
  role p mem := by
    obtain rfl | old := mem_insertPeer.mp mem
    · unfold Peer.created
      split <;> simp [*]
    · exact h.role p old
  missed p mem := by
    obtain rfl | old := mem_insertPeer.mp mem
    · exact Nat.zero_le _
    · exact h.missed p old
  filed p mem := by
    obtain rfl | old := mem_insertPeer.mp mem
    · nofun
    · exact h.filed p old
  order p hp q hq d hd e he := by
    obtain rfl | old := mem_insertPeer.mp hp
    · cases hd
    · obtain rfl | old' := mem_insertPeer.mp hq
      · cases he
      · exact h.order p old q old' d hd e he

/-! ## Every step -/

theorem PeersSound.of_table {s t : State} (h : PeersSound s) (silent : t.Silent)
    (table : PeerTable s.shr.peers s.shr.filings s.own → PeerTable t.shr.peers t.shr.filings t.own)
    (empty : t.dark = true → s.dark = true ∧ (s.shr.peers = [] → t.shr.peers = [])) : PeersSound t := by
  obtain ⟨sound, none, -⟩ := (peersSound_iff s).mp h
  exact (peersSound_iff t).mpr ⟨table sound, fun dark => (empty dark).2 (none (empty dark).1), silent⟩

/-- The table stands. -/
theorem PeersSound.of_same {s t : State} (h : PeersSound s) (silent : t.Silent) (peers : t.shr.peers = s.shr.peers := by simp)
    (filings : t.shr.filings = s.shr.filings := by simp) (straps : t.straps = s.straps := by simp)
    (power : t.pwr.power = s.pwr.power := by simp) : PeersSound t := by
  refine h.of_table silent (by rw [peers, filings, State.own_of_straps straps]; exact id) ?_
  rw [State.dark_of_power power, peers]
  exact fun dark => ⟨dark, id⟩

/-- With the line silent and the table empty a dark part is sound, and an awake one where the table is. -/
theorem PeersSound.doze {s : State} : PeersSound s.enterDoze := by
  have empty : s.enterDoze.shr.peers = [] := by simp [State.enterDoze, Shr.dozed]
  refine (peersSound_iff _).mpr ⟨?_, fun _ => empty, s.enterDoze_silent⟩
  rw [empty]
  exact .nil _ _

theorem PeersSound.dozeCheck {s : State} (h : PeersSound s) : PeersSound s.dozeCheck :=
  State.dozeCheck_keeps h fun _ => .doze

/-- A change of the table in place, whatever the power state. -/
theorem PeersSound.mapped {s t : State} (h : PeersSound s) (silent : t.Silent) {g : Peer → Peer}
    (peers : t.shr.peers = s.shr.peers.map g) (straps : t.straps = s.straps) (power : t.pwr.power = s.pwr.power)
    (table : PeerTable s.shr.peers s.shr.filings s.own → PeerTable (s.shr.peers.map g) t.shr.filings s.own) : PeersSound t := by
  refine h.of_table silent (fun sound => ?_) fun dark => ⟨by rwa [State.dark_of_power power] at dark, fun none => ?_⟩
  · rw [peers, State.own_of_straps straps]
    exact table sound
  · rw [peers, none]
    rfl

/-- A valid frame is of another station (R165). -/
theorem judgeFrame_valid {own : Nat} {bytes : List Byte} {f : Frame} (valid : judgeFrame own bytes = .valid f) :
    f.station ≤ 7 ∧ f.station ≠ own := by
  unfold judgeFrame at valid
  simp only at valid
  split at valid
  · cases valid
  split at valid
  · cases valid
  next known =>
    split at valid
    · cases valid
    · split_ifs at valid with length clash
      obtain rfl := Verdict.valid.inj valid
      exact ⟨by dsimp only; omega, clash⟩

theorem Shr.peer_eq_none {r : Shr} {n : Nat} (none : r.peer n = none) : ∀ q ∈ r.peers, q.station ≠ n := by
  simpa [Shr.peer] using none

/-- The peer refresh keeps the table (R132, R133). -/
theorem State.refreshPeer_table {s : State} {own : Nat} (h : PeerTable s.shr.peers s.shr.filings own) {f : Frame} (known : f.station ≤ 7)
    (other : f.station ≠ own) : PeerTable (s.refreshPeer f).shr.peers (s.refreshPeer f).shr.filings own := by
  have refreshed : PeerTable (s.withShr (fun r => r.onPeer f.station (·.refreshed f.seq s.now))).shr.peers s.shr.filings own :=
    h.onPeer f.station _ (fun _ => rfl) (fun _ => rfl) (fun _ => rfl) fun _ _ => Nat.min_le_left _ _
  unfold State.refreshPeer
  split
  next none => exact h.create s.now known other (Shr.peer_eq_none none)
  · simp only
    split
    · exact refreshed
    · rw [(State.rechoose_table _).1, (State.rechoose_table _).2]
      exact refreshed

theorem State.completeFrame_table {s : State} (h : PeerTable s.shr.peers s.shr.filings s.own) (bytes : List Byte) :
    PeerTable (s.completeFrame bytes).shr.peers (s.completeFrame bytes).shr.filings s.own := by
  unfold State.completeFrame
  cases judged : judgeFrame s.own bytes with
  | crcError | malformed | unknownKind => exact h
  | clash => simpa [State.received] using h
  | valid f =>
    obtain ⟨known, other⟩ := judgeFrame_valid judged
    simp only [State.received, State.takeValid]
    split
    · exact h
    · exact State.refreshPeer_table (s := (s.withLine Line.wait).withLine _) h known other

theorem State.finishStart_table (s : State) : s.finishStart.shr.peers = s.shr.peers ∧ s.finishStart.shr.filings = s.shr.filings := by
  rw [State.finishStart_eq]
  split <;> simp [State.started]

/-- A cycle report is filed in its sender's record (R138). -/
theorem State.takeReport_table (s : State) (n : Nat) (payload : List Byte) :
    (s.takeReport n payload).shr = s.shr ∨ ∃ report, (s.takeReport n payload).shr = (s.fileReport n report).shr := by
  unfold State.takeReport
  split
  · exact .inl rfl
  next h r _ =>
    refine .inr ⟨(h, r), ?_⟩
    simp only
    split_ifs <;> simp

theorem peersSound_effect {c : Instr} {s t : State} (h : PeersSound s) (effect : Effect s c t) : PeersSound t := by
  obtain ⟨table, none, silent⟩ := (peersSound_iff s).mp h
  have silent' := effect_silent silent effect
  cases effect with
  | nothing => exact h
  | crankEdge =>
    refine h.of_table silent' (fun sound => by rw [State.own_of_straps (s := s) (by simp)]; simpa using sound) fun dark => ?_
    obtain same | ⟨-, run⟩ := s.crankEdge_power
    · exact ⟨by rwa [State.dark_of_power same] at dark, by simp⟩
    · simp [State.dark, State.sensing, run] at dark
  | cycleReport r =>
    obtain e | ⟨report, e⟩ := s.freeOldest.takeReport_table r.frame.station r.frame.payload
    · exact h.of_same silent' (by rw [e]; simp) (by rw [e]; simp)
    · refine h.mapped (g := fun p => if p.station = r.frame.station then { p with report := some report } else p) silent'
        (by rw [e]; simp [State.fileReport, Shr.onPeer]) (by simp) (by simp) fun sound => ?_
      have := sound.onPeer r.frame.station (fun p => { p with report := some report }) (fun _ => rfl) (fun _ => rfl) (fun _ => rfl)
        fun _ => id
      rw [e]
      simpa [State.fileReport, Shr.onPeer] using this
  | shareFrame r =>
    refine h.mapped (g := fun p => if p.station = r.frame.station then p.filed r.frame.payload r.time s.shr.filings else p) silent'
      (by simp [State.fileShare, Shr.onPeer]) (by simp) (by simp) fun sound => ?_
    have := sound.fileShare r.frame.station r.frame.payload r.time
    simpa [State.fileShare, Shr.onPeer] using this
  | peerStale n =>
    refine h.mapped (g := fun p => if p.station = n.val then { p with fresh := false } else p) silent'
      (by simp [State.staleExpiry, Shr.onPeer]) (by simp) (by simp) fun sound => ?_
    have := sound.onPeer n.val (fun p => { p with fresh := false }) (fun _ => rfl) (fun _ => rfl) (fun _ => rfl) fun _ => id
    simpa [State.staleExpiry, Shr.onPeer] using this
  | peerDelete n =>
    have peers : (s.deleteExpiry n.val).shr.peers = s.shr.peers.filter (fun p => decide (p.station ≠ n.val)) := by
      unfold State.deleteExpiry
      split <;> simp
    have filings : (s.deleteExpiry n.val).shr.filings = s.shr.filings := by
      unfold State.deleteExpiry
      split <;> simp
    refine h.of_table silent' (fun sound => ?_) fun dark => ⟨by rwa [State.dark_of_power (s := s) (by simp)] at dark, fun empty => ?_⟩
    · rw [peers, filings, State.own_of_straps (s := s) (by simp)]
      exact sound.filter _
    · rw [peers, empty]
      rfl
  | framingError due => exact PeersSound.dozeCheck (h.of_same (silent.of_on (State.framingDue_on due)))
  | frameReceived bytes due =>
    refine h.of_table silent' (fun sound => ?_) fun dark => ?_
    · rw [State.own_of_straps (s := s) (by simp)]
      exact State.completeFrame_table sound bytes
    · rw [State.dark_of_power (s := s) (by simp), silent.awake (by simp [State.receives_frame due])] at dark
      cases dark
  | arbitrationLoss x due =>
    obtain ⟨sample, -⟩ := State.arbitrationLost_eq_some.mp due
    have frame := State.sampledNow_frame (State.sendingSample_eq_some.mp sample).1
    exact PeersSound.dozeCheck (h.of_same (silent.of_on (by simp [frame])))
  | transmitComplete x due =>
    obtain ⟨sample, -⟩ := State.lastBit_eq_some.mp due
    have frame := State.sampledNow_frame (State.sendingSample_eq_some.mp sample).1
    exact PeersSound.dozeCheck (h.of_same (silent.of_on (by simp [frame])))
  | storeWriteEnd w readBack => exact PeersSound.dozeCheck (h.of_same silent.of_power)
  | quietTimer => exact PeersSound.dozeCheck (h.of_same silent.of_power)
  | lineFallingEdge => exact PeersSound.dozeCheck (h.of_same (s.pulledLow_silent silent))
  | startOfFrame => exact PeersSound.dozeCheck (h.of_same (s.letGo_silent silent))
  | stopTimer =>
    refine h.of_table silent' (fun sound => by rw [State.own_of_straps (s := s) (by simp)]; simpa using sound) fun dark => ?_
    simp [State.dark, State.sensing, State.enterStandby_power] at dark
  | wakeEdge asleep =>
    exact h.of_table silent' id fun _ => ⟨by simp [State.dark, State.sensing, asleep], id⟩
  | wakeComplete =>
    refine h.of_table silent' (fun sound => by rw [State.own_of_straps (s := s) (by simp)]; simpa using sound) fun dark => ?_
    simp [State.dark, State.sensing, State.wakeUp_power] at dark
  | reset => exact (peersSound_iff _).mpr ⟨.nil _ _, fun _ => rfl, silent'⟩
  | resetRelease held => exact h.of_table silent' id fun _ => ⟨by simp [State.dark, State.sensing, held], id⟩
  | startDelayEnd pins delayed =>
    have empty : (s.startUp pins).shr.peers = [] := by
      simpa using none (by simp [State.dark, State.sensing, delayed])
    refine (peersSound_iff _).mpr ⟨?_, fun _ => empty, silent'⟩
    rw [empty]
    exact .nil _ _
  | storeLoadComplete due =>
    refine h.of_table silent' (fun sound => ?_) fun dark => ?_
    · rw [State.own_of_straps (s := s) (by simp)]
      simpa [State.finishStart_table] using sound
    · rcases s.loadRecords.finishStart_power with on | on <;> simp [State.dark, State.sensing, on] at dark
  | _ => exact h.of_same silent'

theorem PeersSound.clockTick {s : State} (h : PeersSound s) : PeersSound s.clockTick := by
  obtain ⟨-, -, silent⟩ := (peersSound_iff s).mp h
  unfold State.clockTick
  split
  · exact h
  · exact h
  · exact h.of_same silent.of_power
  · exact h.of_same silent.of_power
  all_goals exact h.of_same silent.of_power

/-- Settles O11: records are created of stations without one, changed in place or removed (`PeerTable.create`, `PeerTable.map`,
`PeerTable.filter`), and a dark part's table stays empty, since its receiver is off (`effect_silent`). -/
theorem everyStepKeepsPeersSound : Obligations.EveryStepKeepsPeersSound := by
  unfold Obligations.EveryStepKeepsPeersSound
  exact step_keeps (fun s q h => h.of_same (t := { s with pending := q }) (((peersSound_iff s).mp h).2.2.of_power rfl rfl rfl))
    (fun _ _ _ h effect => peersSound_effect h effect) fun _ h => tick_keeps h.clockTick fun _ => .doze

end Sys2Proof.Machine
end

section
/-!
The statements about the machine as a whole: a step's command, an idle tick, that every command is answered, what holds between
starts, and the state after a reset.
-/

set_option Elab.async false

namespace Sys2Proof.Machine

/-- Settles O1: by the definition of a step. -/
theorem stepRunsTheFrontCommand : Obligations.StepRunsTheFrontCommand := fun _ _ _ => rfl

/-- On an empty queue with nothing due, a step is a tick. -/
theorem step_idle {s : State} (empty : s.pending = []) (still : s.ownEvents = []) : step s = .next s.tick := by
  unfold step State.idle
  rw [empty, still]

/-- In RUN and during the load a tick is one of the clock: DOZE is entered from STANDBY only (R190). -/
theorem State.tick_of_power {s : State} (power : s.pwr.power ≠ .standby) : s.tick = s.clockTick := by
  unfold State.tick
  have awake : s.clockTick.dozeReady = false := by simp [State.dozeReady, power]
  simp [State.dozeCheck, awake]

/-- Settles O2: a tick of the clock by power state. -/
theorem idleStepIsOneTick : Obligations.IdleStepIsOneTick := by
  unfold Obligations.IdleStepIsOneTick
  intro s empty still
  rw [step_idle empty still]
  refine ⟨?_, ?_, ?_⟩
  · rintro (⟨standby, whole⟩ | run | loading)
    · rw [s.tick_eq_clockTick whole]
      simp [State.clockTick, standby, State.withLine]
    · rw [State.tick_of_power (by simp [run])]
      simp [State.clockTick, run, State.withLine]
    · rw [State.tick_of_power (by simp [loading])]
      simp [State.clockTick, loading, State.withLine]
  · intro delayed
    rw [State.tick_of_power (by simp [delayed])]
    simp [State.clockTick, delayed]
  · rintro (doze | held)
    · rw [State.tick_of_power (by simp [doze])]
      simp [State.clockTick, doze]
    · rw [State.tick_of_power (by simp [held])]
      simp [State.clockTick, held]

/-- No command touches the queue of waiting commands. -/
theorem effect_pending {c : Instr} {s t : State} (effect : Effect s c t) : t.pending = s.pending := by
  cases effect <;> simp

/-- Settles O3: each command has an effect (`exec_effect`), and none touches the queue. -/
theorem everyCommandIsAnswered : Obligations.EveryCommandIsAnswered := fun c s => by
  obtain ⟨t, answered, effect⟩ := exec_effect c s
  exact ⟨t, answered, effect_pending effect⟩

/-- Settles O4: of all effects, only those named touch the store, the straps or the settings. -/
theorem storeStrapsAndSettingsHold : Obligations.StoreStrapsAndSettingsHold := by
  refine ⟨fun c s t run noWrite noReset => ?_, fun c s t run noReset => ⟨fun noStart => ?_, fun noLoad => ?_⟩⟩
  · cases effect_of_exec run with
    | storeWriteEnd w readBack => exact absurd rfl (noWrite readBack)
    | reset cause => exact absurd rfl (noReset cause)
    | _ => simp
  · cases effect_of_exec run with
    | startDelayEnd pins => exact absurd rfl (noStart pins)
    | reset cause => exact absurd rfl (noReset cause)
    | _ => simp
  · cases effect_of_exec run with
    | storeLoadComplete => exact absurd rfl noLoad
    | reset cause => exact absurd rfl (noReset cause)
    | _ => simp

/-- Settles O5: each block's invariant, at the values of a reset. -/
theorem resetStateIsSound : Obligations.ResetStateIsSound := by
  refine ⟨by constructor <;> decide, by constructor <;> decide, ?_, ?_, drivesSound_reset, ?_, ?_, ownersAgree_reset, ?_,
    loopSound_reset, learnSound_reset⟩
  · constructor <;> constructor <;> decide
  · exact ⟨fun c _ => by cases c <;> exact ⟨rfl, rfl⟩, fun _ c => by cases c <;> exact ⟨rfl, rfl⟩⟩
  · constructor <;> decide
  · exact ⟨by decide, by rintro k (rfl | rfl | rfl | rfl) <;> rfl⟩
  · constructor <;> decide

end Sys2Proof.Machine
end

section
/-!
A frame is received with the fields it was put together from, and sampled bits give back the bytes.
-/

set_option Elab.async false

namespace Sys2Proof.Machine

theorem withCrc_length (bytes : List Byte) : (withCrc bytes).length = bytes.length + 2 := by
  simp [withCrc, bytes16]

/-- Bytes followed by their CRC pass the check, and those before the CRC are the bytes (R163). -/
theorem withCrc_take (bytes : List Byte) : (withCrc bytes).take ((withCrc bytes).length - 2) = bytes := by
  rw [withCrc_length]
  simp [withCrc]

theorem crcMatches_withCrc (bytes : List Byte) : crcMatches (withCrc bytes) = true := by
  unfold crcMatches
  rw [withCrc_take]
  exact decide_eq_true rfl

theorem Kind.ofCode_code (k : Kind) : Kind.ofCode k.code = some k := by cases k <;> rfl

theorem Kind.code_le (k : Kind) : k.code ≤ 12 := by cases k <;> decide

/-- An accepted payload has its length in four bits (R162). -/
theorem lengthAccepted_le {k : Kind} {payload : List Byte} (h : lengthAccepted k payload = true) : payload.length ≤ 15 := by
  cases k with
  | demand =>
    have shape := of_decide_eq_true h
    simp only [List.mem_cons, List.not_mem_nil, or_false] at shape
    omega
  | share =>
    rw [of_decide_eq_true h]
    split <;> decide
  | sync | status => rw [of_decide_eq_true h]; decide
  | request | reply => exact (of_decide_eq_true h).2

/-- Byte 1 carries kind and station, byte 2 sequence number and length (R162). -/
theorem Frame.judged (own : Nat) {f : Frame} (sound : f.sound = true) (other : f.station ≠ own) :
    judgeFrame own f.bytes = .valid f := by
  obtain ⟨fields, accepted⟩ := Bool.and_eq_true_iff.mp sound
  obtain ⟨station, seq⟩ := of_decide_eq_true fields
  have length := lengthAccepted_le accepted
  have code := f.kind.code_le
  have byte1 : (f.bytes.getD 0 0).toNat = f.kind.code * 16 + f.station := by
    show (BitVec.ofNat 8 (f.kind.code * 16 + f.station)).toNat = _
    rw [BitVec.toNat_ofNat, Nat.mod_eq_of_lt (by omega)]
  have byte2 : (f.bytes.getD 1 0).toNat = f.seq * 16 + f.payload.length := by
    show (BitVec.ofNat 8 (f.seq * 16 + f.payload.length)).toNat = _
    rw [BitVec.toNat_ofNat, Nat.mod_eq_of_lt (by omega)]
  have payload : (f.bytes.drop 2).take (f.bytes.length - 4) = f.payload := by
    simp [Frame.bytes, withCrc, bytes16]
  have kind : (f.kind.code * 16 + f.station) / 16 = f.kind.code := by omega
  have number : (f.kind.code * 16 + f.station) % 16 = f.station := by omega
  have sequence : (f.seq * 16 + f.payload.length) / 16 = f.seq := by omega
  unfold judgeFrame
  simp only [byte1, byte2, payload, kind, number, sequence, Kind.ofCode_code]
  rw [if_neg (by simp [Frame.bytes, crcMatches_withCrc]), if_neg (by omega), if_neg (by simp [accepted]), if_neg other]

theorem bitsOf_cons (b : Byte) (rest : List Byte) : bitsOf (b :: rest) =
    [b.getLsbD 7, b.getLsbD 6, b.getLsbD 5, b.getLsbD 4, b.getLsbD 3, b.getLsbD 2, b.getLsbD 1, b.getLsbD 0] ++ bitsOf rest := rfl

/-- Eight bits, most significant first, are their byte. -/
theorem ofBoolListBE_bits (b : Byte) : BitVec.ofBoolListBE
    [b.getLsbD 7, b.getLsbD 6, b.getLsbD 5, b.getLsbD 4, b.getLsbD 3, b.getLsbD 2, b.getLsbD 1, b.getLsbD 0] = b := by
  revert b
  decide

theorem bytesOfBits_bitsOf (bytes : List Byte) : bytesOfBits (bitsOf bytes) = bytes := by
  induction bytes with
  | nil => rfl
  | cons b rest ih =>
    rw [bitsOf_cons]
    simp only [List.cons_append, List.nil_append, bytesOfBits]
    rw [ih, ofBoolListBE_bits]

theorem bitsOf_length (bytes : List Byte) : (bitsOf bytes).length = 8 * bytes.length := by
  induction bytes with
  | nil => rfl
  | cons b rest ih =>
    rw [bitsOf_cons, List.length_append, ih, List.length_cons]
    simp only [List.length_cons, List.length_nil]
    omega

/-- Settles O18: the checks read each field back (`Frame.judged`), and bits and bytes are inverse to each other. -/
theorem frameIsReceivedAsSent : Obligations.FrameIsReceivedAsSent :=
  ⟨fun own _ sound other => Frame.judged own sound other, bitsOf_cons, fun bytes => ⟨bitsOf_length bytes, bytesOfBits_bitsOf bytes⟩⟩

end Sys2Proof.Machine
end

section
/-!
The stored records are read back as they are encoded: packing and unpacking of the setting groups, and CAM records.
-/

set_option Elab.async false

namespace Sys2Proof.Machine

/-! ## Packing (R182) -/

/-- The fields fit into their widths. -/
def Fits (fields : List (Nat × Nat)) : Prop := ∀ f ∈ fields, f.2 < 2 ^ f.1

/-- Packing is reading the fields in their widths as one number, most significant first. -/
theorem foldl_eq_packBits (fields : List (Nat × Nat)) (n : Nat) :
    fields.foldl (fun n f => n * 2 ^ f.1 + f.2) n = n * 2 ^ (fields.map Prod.fst).sum + packBits fields := by
  induction fields generalizing n with
  | nil => simp [packBits]
  | cons f rest ih =>
    obtain ⟨w, v⟩ := f
    rw [List.foldl_cons, ih, packBits, List.map_cons, List.sum_cons, pow_add]
    ring

theorem packBits_lt {fields : List (Nat × Nat)} (fits : Fits fields) : packBits fields < 2 ^ (fields.map Prod.fst).sum := by
  induction fields with
  | nil => simp [packBits]
  | cons f rest ih =>
    obtain ⟨w, v⟩ := f
    have later := ih fun f mem => fits f (List.mem_cons_of_mem _ mem)
    have first : v + 1 ≤ 2 ^ w := fits (w, v) List.mem_cons_self
    rw [packBits, List.map_cons, List.sum_cons, pow_add]
    calc v * 2 ^ (rest.map Prod.fst).sum + packBits rest
        < v * 2 ^ (rest.map Prod.fst).sum + 2 ^ (rest.map Prod.fst).sum := by omega
      _ = (v + 1) * 2 ^ (rest.map Prod.fst).sum := by ring
      _ ≤ 2 ^ w * 2 ^ (rest.map Prod.fst).sum := Nat.mul_le_mul_right _ first

theorem unpackBits_add_mul (widths : List Nat) (high n : Nat) :
    unpackBits widths (high * 2 ^ widths.sum + n) = unpackBits widths n := by
  induction widths generalizing high n with
  | nil => rfl
  | cons w ws ih =>
    have split : high * 2 ^ (w :: ws).sum + n = n + 2 ^ ws.sum * (2 ^ w * high) := by
      rw [List.sum_cons, pow_add]
      ring
    have head : (n + 2 ^ ws.sum * (2 ^ w * high)) / 2 ^ ws.sum % 2 ^ w = n / 2 ^ ws.sum % 2 ^ w := by
      rw [Nat.add_mul_div_left _ _ (Nat.two_pow_pos _), Nat.add_mul_mod_self_left]
    have tail : unpackBits ws (n + 2 ^ ws.sum * (2 ^ w * high)) = unpackBits ws n := by
      rw [← ih (2 ^ w * high) n]
      congr 1
      ring
    rw [split, unpackBits, head, tail, unpackBits]

/-- What was packed is unpacked (R182). -/
theorem unpackBits_packBits {fields : List (Nat × Nat)} (fits : Fits fields) :
    unpackBits (fields.map Prod.fst) (packBits fields) = fields.map Prod.snd := by
  induction fields with
  | nil => rfl
  | cons f rest ih =>
    obtain ⟨w, v⟩ := f
    have laterFits : Fits rest := fun f mem => fits f (List.mem_cons_of_mem _ mem)
    have first : v < 2 ^ w := fits (w, v) List.mem_cons_self
    have below := packBits_lt laterFits
    have head : (v * 2 ^ (rest.map Prod.fst).sum + packBits rest) / 2 ^ (rest.map Prod.fst).sum % 2 ^ w = v := by
      rw [Nat.add_comm, Nat.add_mul_div_right _ _ (Nat.two_pow_pos _), Nat.div_eq_of_lt below, Nat.zero_add, Nat.mod_eq_of_lt first]
    simp only [List.map_cons, packBits, unpackBits, head, unpackBits_add_mul, ih laterFits]

theorem numOfBytes_append (bytes : List Byte) (b : Byte) : numOfBytes (bytes ++ [b]) = numOfBytes bytes * 256 + b.toNat := by
  simp [numOfBytes]

theorem numOfBytes_bytesOfNum {k n : Nat} (below : n < 256 ^ k) : numOfBytes (bytesOfNum k n) = n := by
  induction k generalizing n with
  | zero => simp [bytesOfNum, numOfBytes] at below ⊢; omega
  | succ k ih =>
    have quotient : n / 256 < 256 ^ k := by
      rw [Nat.div_lt_iff_lt_mul (by decide)]
      rwa [pow_succ] at below
    rw [bytesOfNum, numOfBytes_append, ih quotient, BitVec.toNat_ofNat]
    omega

/-! ## Groups (R182) -/

/-- The fields of a group: widths and values, in the table's order. -/
def groupFields (st : Settings) (g : Nat) : List (Nat × Nat) := (groupWidths g).zip (groupValues st g)

theorem groupFields_widths (st : Settings) {g : Nat} (known : g < 8) : (groupFields st g).map Prod.fst = groupWidths g
    ∧ (groupFields st g).map Prod.snd = groupValues st g ∧ (groupWidths g).sum = 64 := by
  interval_cases g <;> exact ⟨rfl, rfl, rfl⟩

/-- A group's bytes are the number of its fields (R182). -/
theorem numOfBytes_encodeGroup {st : Settings} {g : Nat} (known : g < 8) (fits : Fits (groupFields st g)) :
    numOfBytes (encodeGroup st g) = packBits (groupFields st g) := by
  obtain ⟨widths, -, sum⟩ := groupFields_widths st known
  have below := packBits_lt fits
  rw [widths, sum] at below
  exact numOfBytes_bytesOfNum below

/-- Of blocks of eight bytes in a row, each is found at its place. -/
theorem take_drop_flatMap {f : Nat → List Byte} (whole : ∀ g, (f g).length = 8) (l : List Nat) {k : Nat} (inside : k < l.length) :
    ((l.flatMap f).drop (8 * k)).take 8 = f l[k] := by
  induction l generalizing k with
  | nil => simp at inside
  | cons g rest ih =>
    rw [List.flatMap_cons]
    cases k with
    | zero => exact List.take_left' (whole g)
    | succ k =>
      rw [Nat.mul_succ, Nat.add_comm, ← List.drop_drop, List.drop_left' (whole g)]
      exact ih (Nat.lt_of_succ_lt_succ inside)

theorem groupBytes_encodeSettings (st : Settings) {g : Nat} (known : g < 8) :
    groupBytes (encodeSettings st) g = encodeGroup st g := by
  have place := take_drop_flatMap (encodeGroup_length st) [0, 1, 2, 3, 4, 5, 6, 7] (k := g) known
  rw [show [0, 1, 2, 3, 4, 5, 6, 7][g] = g by interval_cases g <;> rfl] at place
  exact place

/-- A setting is read back from its place (R184). -/
theorem rawSetting_encodeSettings {st : Settings} {g : Nat} (known : g < 8) (fits : Fits (groupFields st g)) (k : Nat) :
    rawSetting (encodeSettings st) g k = (groupValues st g).getD k 0 := by
  obtain ⟨widths, values, -⟩ := groupFields_widths st known
  unfold rawSetting
  rw [groupBytes_encodeSettings st known, numOfBytes_encodeGroup known fits, ← widths, unpackBits_packBits fits, values]

/-! ## Settings in their ranges (R184) -/

structure PointRanged (p : TempPoint) : Prop where
  count : p.count ≤ 4095
  low   : -40 ≤ p.temp
  high  : p.temp ≤ 150

structure CamRanged (k : CamSettings) : Prop where
  refs  : ∀ ref ∈ k.refs, ref ≤ 11519
  nA    : k.nA ≤ 4
  nB    : k.nB ≤ 4
  limit : k.limit ≤ 800

/-- Every setting is in its range. -/
structure SettingsRanged (st : Settings) : Prop where
  cams          : ∀ c, CamRanged (st.cams.get c)
  points        : ∀ p ∈ st.tempTable, PointRanged p
  tCold         : -40 ≤ st.tCold ∧ st.tCold ≤ 60
  lCold         : st.lCold ≤ 800
  rpmMinPhase   : 500 ≤ st.rpmMinPhase ∧ st.rpmMinPhase ≤ 6000
  rpmMaxLearn   : 700 ≤ st.rpmMaxLearn ∧ st.rpmMaxLearn ≤ 6000
  slew          : 10 ≤ st.slew ∧ st.slew ≤ 1000
  parkBand      : 8 ≤ st.parkBand ∧ st.parkBand ≤ 64
  releaseTime   : 10 ≤ st.releaseTime ∧ st.releaseTime ≤ 250
  releaseOffset : st.releaseOffset ≤ 200
  demandTimeout : 20 ≤ st.demandTimeout ∧ st.demandTimeout ≤ 1000
  lossReaction  : st.lossReaction ≤ 1
  kp            : st.kp ≤ 255
  ki            : st.ki ≤ 255
  deadband      : st.deadband ≤ 32
  iLim          : st.iLim ≤ 300
  aMax          : 20 ≤ st.aMax ∧ st.aMax ≤ 500
  aMin          : st.aMin ≤ 500
  pFloor        : st.pFloor ≤ 900
  pFull         : 100 ≤ st.pFull ∧ st.pFull ≤ 1000
  fFallback     : st.fFallback ≤ 1000
  pwmFreq       : st.pwmFreq ≤ 2
  ditherAmp     : st.ditherAmp ≤ 100
  ditherLen     : st.ditherLen ≤ 3
  iTrip         : st.iTrip ≤ 3

theorem clampNat_mem {lo hi : Nat} (order : lo ≤ hi) (x : Nat) : lo ≤ clampNat lo hi x ∧ clampNat lo hi x ≤ hi :=
  ⟨Nat.le_max_left _ _, clampNat_le order x⟩

theorem clampNat_of_mem {lo hi x : Nat} (low : lo ≤ x) (high : x ≤ hi) : clampNat lo hi x = x := by
  unfold clampNat
  omega

theorem clampInt_of_mem {lo hi x : Int} (low : lo ≤ x) (high : x ≤ hi) : clampInt lo hi x = x := by
  unfold clampInt
  omega

theorem decodeCam_ranged (image : List Byte) (g k : Nat) : CamRanged (decodeCam image g k) where
  refs := by
    simp only [CamSettings.refs, decodeCam, List.forall_mem_cons]
    exact ⟨clampNat_le (by decide) _, clampNat_le (by decide) _, clampNat_le (by decide) _, clampNat_le (by decide) _, nofun⟩
  nA := clampNat_le (by decide) _
  nB := clampNat_le (by decide) _
  limit := clampNat_le (by decide) _

theorem decodePoint_ranged (image : List Byte) (g k : Nat) : PointRanged (decodePoint image g k) where
  count := clampNat_le (by decide) _
  low := (clampInt_mem (by decide) _).1
  high := (clampInt_mem (by decide) _).2

theorem decodeSettings_ranged (image : List Byte) : SettingsRanged (decodeSettings image) where
  cams c := by cases c <;> exact decodeCam_ranged image _ _
  points := by
    simp only [Settings.tempTable, decodeSettings, List.forall_mem_cons]
    exact ⟨decodePoint_ranged _ _ _, decodePoint_ranged _ _ _, decodePoint_ranged _ _ _, decodePoint_ranged _ _ _,
      decodePoint_ranged _ _ _, decodePoint_ranged _ _ _, decodePoint_ranged _ _ _, decodePoint_ranged _ _ _, nofun⟩
  tCold := clampInt_mem (by decide) _
  lCold := clampNat_le (by decide) _
  rpmMinPhase := clampNat_mem (by decide) _
  rpmMaxLearn := clampNat_mem (by decide) _
  slew := clampNat_mem (by decide) _
  parkBand := clampNat_mem (by decide) _
  releaseTime := clampNat_mem (by decide) _
  releaseOffset := clampNat_le (by decide) _
  demandTimeout := clampNat_mem (by decide) _
  lossReaction := clampNat_le (by decide) _
  kp := clampNat_le (by decide) _
  ki := clampNat_le (by decide) _
  deadband := clampNat_le (by decide) _
  iLim := clampNat_le (by decide) _
  aMax := clampNat_mem (by decide) _
  aMin := clampNat_le (by decide) _
  pFloor := clampNat_le (by decide) _
  pFull := clampNat_mem (by decide) _
  fFallback := clampNat_le (by decide) _
  pwmFreq := clampNat_le (by decide) _
  ditherAmp := clampNat_le (by decide) _
  ditherLen := clampNat_le (by decide) _
  iTrip := clampNat_le (by decide) _

/-- The widths of R182 hold every setting's range. -/
theorem SettingsRanged.fits {st : Settings} (h : SettingsRanged st) {g : Nat} (known : g < 8) : Fits (groupFields st g) := by
  obtain ⟨cams, points, ⟨-, tCold⟩, lCold, ⟨-, rpmMinPhase⟩, ⟨-, rpmMaxLearn⟩, ⟨-, slew⟩, ⟨-, parkBand⟩, ⟨-, releaseTime⟩,
    releaseOffset, ⟨-, demandTimeout⟩, lossReaction, kp, ki, deadband, iLim, ⟨-, aMax⟩, aMin, pFloor, ⟨-, pFull⟩, fFallback, pwmFreq,
    ditherAmp, ditherLen, iTrip⟩ := h
  obtain ⟨refsI, nAI, nBI, limitI⟩ := cams .i
  obtain ⟨refsE, nAE, nBE, limitE⟩ := cams .e
  simp only [CamSettings.refs, List.forall_mem_cons, PerCam.get] at refsI refsE nAI nBI limitI nAE nBE limitE
  simp only [Settings.tempTable, List.forall_mem_cons] at points
  obtain ⟨⟨c1, -, t1⟩, ⟨c2, -, t2⟩, ⟨c3, -, t3⟩, ⟨c4, -, t4⟩, ⟨c5, -, t5⟩, ⟨c6, -, t6⟩, ⟨c7, -, t7⟩, ⟨c8, -, t8⟩, -⟩ := points
  interval_cases g <;> simp [Fits, groupFields, groupWidths, groupValues, storedTemp] <;> omega

theorem tempOfStored_storedTemp {t : Int} (low : -40 ≤ t) : tempOfStored (storedTemp t) = t := by
  unfold tempOfStored storedTemp
  omega

/-- Settings in their ranges are read back from the image that encodes them (R184). -/
theorem decodeSettings_encodeSettings {st : Settings} (h : SettingsRanged st) : decodeSettings (encodeSettings st) = st := by
  have raw (g k : Nat) (known : g < 8) : rawSetting (encodeSettings st) g k = (groupValues st g).getD k 0 :=
    rawSetting_encodeSettings known (h.fits known) k
  obtain ⟨cams, points, tCold, lCold, rpmMinPhase, rpmMaxLearn, slew, parkBand, releaseTime, releaseOffset, demandTimeout,
    lossReaction, kp, ki, deadband, iLim, aMax, aMin, pFloor, pFull, fFallback, pwmFreq, ditherAmp, ditherLen, iTrip⟩ := h
  obtain ⟨refsI, nAI, nBI, limitI⟩ := cams .i
  obtain ⟨refsE, nAE, nBE, limitE⟩ := cams .e
  simp only [CamSettings.refs, List.forall_mem_cons, PerCam.get] at refsI refsE nAI nBI limitI nAE nBE limitE
  simp only [Settings.tempTable, List.forall_mem_cons] at points
  obtain ⟨⟨c1, l1, t1⟩, ⟨c2, l2, t2⟩, ⟨c3, l3, t3⟩, ⟨c4, l4, t4⟩, ⟨c5, l5, t5⟩, ⟨c6, l6, t6⟩, ⟨c7, l7, t7⟩, ⟨c8, l8, t8⟩, -⟩ := points
  unfold decodeSettings decodeCam decodePoint
  simp (disch := omega) only [raw, groupValues, List.getD_cons_zero, List.getD_cons_succ, Nat.reduceAdd, clampNat_of_mem,
    tempOfStored_storedTemp, clampInt_of_mem]

/-! ## The table of R182 and the places of a load -/

/-- A CAM record is read back from its bytes (R182, R184). -/
theorem CamRecord.decode_encode {r : CamRecord} (low : -96 ≤ r.offset) (high : r.offset ≤ 96) (least : 300 ≤ r.hold)
    (most : r.hold ≤ 700) : CamRecord.decode r.encode = some r := by
  have offset : (BitVec.ofInt 8 r.offset).toInt = r.offset := by
    rw [BitVec.toInt_ofInt]
    exact Int.bmod_eq_of_le (by omega) (by omega)
  have hold : word16 (BitVec.ofNat 8 (r.hold / 256)) (BitVec.ofNat 8 r.hold) = r.hold := by
    unfold word16
    rw [BitVec.toNat_ofNat, BitVec.toNat_ofNat]
    omega
  have encoded : r.encode = [BitVec.ofInt 8 r.offset, if r.learned then 1 else 0, BitVec.ofNat 8 (r.hold / 256),
    BitVec.ofNat 8 r.hold, 0, 0] := rfl
  rw [encoded]
  unfold CamRecord.decode
  simp only [List.getD_cons_zero, List.getD_cons_succ, offset, hold]
  cases learned : r.learned <;> simp [*] <;> cases r <;> simp_all

theorem loadCam_encode {r : CamRecord} (low : -96 ≤ r.offset) (high : r.offset ≤ 96) (least : 300 ≤ r.hold)
    (most : r.hold ≤ 700) : loadCam (.whole (withCrc r.encode)) = (r, r.encode, false) := by
  have checked : Stored.checked 8 (.whole (withCrc r.encode)) = some r.encode := by
    unfold Stored.checked
    simp only
    rw [if_pos ⟨by rw [withCrc_length]; rfl, crcMatches_withCrc _⟩]
    exact congrArg some (withCrc_take r.encode)
  unfold loadCam
  rw [checked]
  simp only [CamRecord.decode_encode low high least most]

/-- Settles O19: what a group packs is unpacked (`unpackBits_packBits`), every range fits its width (`SettingsRanged.fits`), and the
places of a load are those of the widths. -/
theorem storedRecordsAreReadBackAsEncoded : Obligations.StoredRecordsAreReadBackAsEncoded := by
  refine ⟨⟨fun image => decodeSettings_encodeSettings (decodeSettings_ranged image),
    fun st => ⟨encodeSettings_length st, fun g known => groupBytes_encodeSettings st known⟩⟩, ?_, fun _ => rfl, fun _ => rfl,
    fun r low high least most => ⟨CamRecord.decode_encode low high least most, rfl, loadCam_encode low high least most⟩⟩
  intro st g fields row fits
  have known : g < 8 := (List.getElem?_eq_some_iff.mp row).1
  obtain rfl : groupFields st g = fields := by interval_cases g <;> exact Option.some.inj row
  refine ⟨encodeGroup_length st g, (numOfBytes_encodeGroup known fits).trans ?_⟩
  rw [foldl_eq_packBits]
  omega

end Sys2Proof.Machine
end

section
/-!
The statements about arithmetic: placing and identifying cam edges, station grants, and the output stages of a loop update.
-/

set_option Elab.async false

namespace Sys2Proof.Machine

/-! ## Cam edges (R47, R50 to R53) -/

/-- The angle lies in the window of a reference (R52). -/
def InWindow (c : Cam) (ref angle : Nat) : Prop := (window c ref).1 ≤ angle ∧ (angle : Int) ≤ (window c ref).2

/-- Windows that share no cycle angle hold no angle in common (R48). -/
theorem not_inWindow_of_apart {c : Cam} {ref other angle : Nat} (apart : windowsApart (window c ref) (window c other) = true) :
    ¬(InWindow c ref angle ∧ InWindow c other angle) := by
  have := of_decide_eq_true apart
  unfold InWindow
  omega

theorem camWindowsOk_apart {c : Cam} {k : CamSettings} (ok : camWindowsOk c k = true) :
    k.refs.Pairwise (fun r q => windowsApart (window c r) (window c q) = true) := by
  simp only [camWindowsOk, Bool.and_eq_true, decide_eq_true_eq] at ok
  exact List.pairwise_map.mp ok.1.2

/-- The first reference whose window holds the angle, with its place in a list that starts at `n` (R52). -/
def firstWindow (c : Cam) (angle : Nat) : Nat → List Nat → Option (Nat × Nat)
  | _, [] => none
  | n, ref :: rest =>
    if decide ((window c ref).1 ≤ angle ∧ (angle : Int) ≤ (window c ref).2) then some (n, ref) else firstWindow c angle (n + 1) rest

theorem identify_eq_firstWindow (c : Cam) (k : CamSettings) (angle : Nat) : identify c k angle = firstWindow c angle 0 k.refs := rfl

theorem firstWindow_none {c : Cam} {angle n : Nat} {refs : List Nat} (outside : ∀ ref ∈ refs, ¬InWindow c ref angle) :
    firstWindow c angle n refs = none := by
  induction refs generalizing n with
  | nil => rfl
  | cons ref rest ih =>
    rw [firstWindow, if_neg fun inside => outside ref List.mem_cons_self (by simpa [InWindow] using inside)]
    exact ih fun ref mem => outside ref (List.mem_cons_of_mem _ mem)

/-- With windows apart, the one that holds the angle is found (R52). -/
theorem firstWindow_some {c : Cam} {angle n e ref : Nat} {refs : List Nat}
    (apart : refs.Pairwise (fun r q => windowsApart (window c r) (window c q) = true)) (place : refs[e]? = some ref)
    (inside : InWindow c ref angle) : firstWindow c angle n refs = some (n + e, ref) := by
  induction refs generalizing n e with
  | nil => simp at place
  | cons first rest ih =>
    obtain ⟨others, later⟩ := List.pairwise_cons.mp apart
    cases e with
    | zero =>
      obtain rfl := Option.some.inj place
      rw [firstWindow, if_pos (by exact decide_eq_true inside)]
      rfl
    | succ e =>
      have place' : rest[e]? = some ref := place
      have outside : ¬InWindow c first angle := fun both =>
        not_inWindow_of_apart (others ref (List.mem_of_getElem? place')) ⟨both, inside⟩
      rw [firstWindow, if_neg fun inside => outside (by simpa [InWindow] using inside), ih later place']
      congr 2
      omega

theorem rawDeviation_of_inWindow {c : Cam} {ref angle : Nat} (inside : InWindow c ref angle) :
    -128 ≤ rawDeviation c ref angle ∧ rawDeviation c ref angle ≤ 960 := by
  cases c <;> simp only [InWindow, window, rawDeviation] at inside ⊢ <;> omega

/-- Settles O20: an angle in one window is in no other (`firstWindow_some`). -/
theorem camEdgesArePlacedAndIdentified : Obligations.CamEdgesArePlacedAndIdentified := by
  refine ⟨⟨rfl, rfl, fun ref angle => ⟨rfl, rfl, rfl, rfl⟩⟩, fun h tooth delta pitch last => ?_, fun c k angle ok => ⟨?_, ?_⟩⟩
  · simp only [cycleAngle, fractionOf, fractionLimit]
    generalize delta * 240 / pitch = fraction
    split <;> omega
  · intro e ref place low high
    rw [identify_eq_firstWindow, firstWindow_some (camWindowsOk_apart ok) place ⟨low, high⟩, Nat.zero_add]
    exact ⟨rfl, rawDeviation_of_inWindow ⟨low, high⟩⟩
  · intro outside
    rw [identify_eq_firstWindow]
    exact firstWindow_none fun ref mem ⟨low, high⟩ => by
      have := outside ref mem
      omega

/-! ## Station grants (R123, R124) -/

theorem Peer.counted_eq (p : Peer) : p.counted = if p.fresh = true ∧ p.role = .phase then
    (match p.share with | some d => d.demand | none => 0) else 0 := by
  unfold Peer.counted
  cases p.fresh <;> cases p.role <;> cases p.share <;> rfl

theorem Shr.stationDemand_le_total (r : Shr) : r.stationDemand ≤ r.totalDemand := Nat.le_add_right _ _

theorem Shr.stationGrant_of_scarce {r : Shr} (scarce : r.fAvail < r.totalDemand) :
    r.stationGrant = r.fAvail * r.stationDemand / r.totalDemand := by
  unfold Shr.stationGrant
  rw [if_neg (by omega), if_neg (by omega)]

theorem Shr.stationGrant_of_met {r : Shr} (enough : r.totalDemand ≤ r.fAvail) : r.stationGrant = r.stationDemand := by
  have part := r.stationDemand_le_total
  unfold Shr.stationGrant
  split
  · omega
  · rfl

/-- A share of the flow in the proportion of the demands. -/
theorem share_le {f d total : Nat} (part : d ≤ total) (f_le : f ≤ total) : f * d / total ≤ d ∧ f * d / total ≤ f :=
  ⟨Nat.div_le_of_le_mul (Nat.mul_le_mul_right d f_le), Nat.div_le_of_le_mul (by rw [Nat.mul_comm]; exact Nat.mul_le_mul_right f part)⟩

theorem Shr.stationGrant_le (r : Shr) : r.stationGrant ≤ r.stationDemand := by
  by_cases enough : r.totalDemand ≤ r.fAvail
  · rw [Shr.stationGrant_of_met enough]
  · rw [Shr.stationGrant_of_scarce (by omega)]
    exact (share_le r.stationDemand_le_total (by omega)).1

/-- Settles O23: a scarce flow is shared in the proportion of the demands, each share rounded down. -/
theorem stationGrantsStayWithinTheFlow : Obligations.StationGrantsStayWithinTheFlow := by
  refine ⟨fun r => ⟨rfl, ?_, fun none => ?_, r.stationGrant_le, Shr.stationGrant_of_met, fun scarce => ?_⟩, ?_⟩
  · simp only [Shr.totalDemand, Shr.stationDemand]
    congr 3
    exact funext Peer.counted_eq
  · simp [Shr.stationGrant, none]
  · rw [Shr.stationGrant_of_scarce scarce]
    exact ⟨rfl, (share_le r.stationDemand_le_total (by omega)).2⟩
  · intro r q flow total both
    by_cases enough : r.totalDemand ≤ r.fAvail
    · rw [Shr.stationGrant_of_met enough, Shr.stationGrant_of_met (r := q) (by omega)]
      omega
    · rw [Shr.stationGrant_of_scarce (r := r) (by omega), Shr.stationGrant_of_scarce (r := q) (by omega), ← flow, ← total]
      calc r.fAvail * r.stationDemand / r.totalDemand + r.fAvail * q.stationDemand / r.totalDemand
          ≤ (r.fAvail * r.stationDemand + r.fAvail * q.stationDemand) / r.totalDemand := Nat.div_add_div_le_add_div
        _ = r.fAvail * (r.stationDemand + q.stationDemand) / r.totalDemand := by rw [Nat.mul_add]
        _ ≤ r.fAvail := (share_le both (by omega)).2

/-! ## Output stages (R103 to R108) -/

theorem tdiv_256_mem {x bound : Int} (h : x.natAbs ≤ 256 * bound + 255) : -bound ≤ x.tdiv 256 ∧ x.tdiv 256 ≤ bound := by
  have quotient : (x.tdiv 256).natAbs = x.natAbs / 256 := Int.natAbs_tdiv x 256
  omega

theorem natAbs_tdiv_16 (x : Int) : (x.tdiv 16).natAbs = x.natAbs / 16 := Int.natAbs_tdiv x 16

/-- The proportional term and ΔI, within their ranges (section 5.11). -/
theorem terms_le {st : Settings} {e : Int} {dtq : Nat} (kp : st.kp ≤ 255) (ki : st.ki ≤ 255) (short : dtq ≤ 160)
    (error : e.natAbs ≤ 928) :
    (proportional st e).natAbs ≤ 14790 ∧ (integralStep st e dtq).natAbs ≤ 2366400 := by
  have p : ((st.kp : Int) * e).natAbs ≤ 255 * 928 := by
    rw [Int.natAbs_mul]
    exact Nat.mul_le_mul kp error
  have i : ((st.ki : Int) * e * dtq).natAbs ≤ 255 * 928 * 160 := by
    rw [Int.natAbs_mul, Int.natAbs_mul]
    exact Nat.mul_le_mul (Nat.mul_le_mul ki error) short
  unfold proportional integralStep
  rw [natAbs_tdiv_16, natAbs_tdiv_16]
  omega

/-- Without error the integral and the hold point stand. -/
theorem terms_zero (st : Settings) (dtq : Nat) : proportional st 0 = 0 ∧ integralStep st 0 dtq = 0 := by
  simp [proportional, integralStep]

theorem bandClamp_mem (h : Int) (a : Nat) (u : Int) : h - a ≤ bandClamp h a u ∧ bandClamp h a u ≤ h + a := by
  unfold bandClamp
  split_ifs <;> omega

theorem bandClamp_self (h : Int) (a : Nat) : bandClamp h a h = h := by
  unfold bandClamp
  split_ifs <;> omega

/-- Settles O25: each stage by its formula, and the bounds of section 5.11 from those of the terms (`terms_le`). -/
theorem outputStagesStayInRange : Obligations.OutputStagesStayInRange := by
  refine ⟨fun st hold dtq a i e => ?_, ?_⟩
  · refine ⟨rfl, rfl, rfl, decide_eq_true_iff, decide_eq_true_iff, fun moved presses => ?_, fun free => ?_, ?_⟩
    · exact if_pos (decide_eq_true ⟨moved, presses⟩)
    · exact if_neg fun held => free (of_decide_eq_true held)
    · exact Int.toNat_of_nonneg (clampInt_mem (by decide) _).1
  · intro st hold dtq a i e kp ki iLim least most short small low high elow ehigh
    obtain ⟨p, dI⟩ := terms_le (st := st) (e := e) kp ki short (by omega)
    have within : i.natAbs ≤ 76800 := by omega
    have candidate := tdiv_256_mem (x := i + integralStep st e dtq) (bound := 9543) (by omega)
    have before := tdiv_256_mem (x := i) (bound := 300) (by omega)
    have limits : -((st.iLim : Int) * 256) ≤ (st.iLim : Int) * 256 := by omega
    intro r h
    have raw : r.uRaw = (hold : Int) + proportional st e + (i + integralStep st e dtq).tdiv 256 := rfl
    have point : h = (hold : Int) + i.tdiv 256 := rfl
    have band := bandClamp_mem h a r.uRaw
    have u : r.u = bandClamp h a r.uRaw := rfl
    have duty : (r.duty : Int) = max 0 (min 1000 r.u) := Int.toNat_of_nonneg (clampInt_mem (by decide) _).1
    have integral : -((st.iLim : Int) * 256) ≤ r.integral ∧ r.integral ≤ (st.iLim : Int) * 256 := by
      show -((st.iLim : Int) * 256) ≤ settleIntegral _ _ _ _ _ ∧ settleIntegral _ _ _ _ _ ≤ (st.iLim : Int) * 256
      unfold settleIntegral
      split
      · exact ⟨low, high⟩
      · exact clampInt_mem limits _
    have hold_mem : 0 ≤ h ∧ h ≤ 1000 := by omega
    have raw_mem : -24033 ≤ r.uRaw ∧ r.uRaw ≤ 25033 := by omega
    have ranges : (-500 ≤ r.u ∧ r.u ≤ 1500) ∧ r.duty ≤ 1000 ∧ -(a : Int) ≤ (r.duty : Int) - h ∧ (r.duty : Int) - h ≤ a := by
      clear_value r h
      clear raw point before candidate p dI
      omega
    refine ⟨hold_mem.1, hold_mem.2, raw_mem.1, raw_mem.2, ranges.1.1, ranges.1.2, ranges.2.1, ranges.2.2.1, ranges.2.2.2,
      integral.1, integral.2, ?_, ?_⟩
    · intro held
      exact ⟨decide_eq_true (of_decide_eq_true held).1, if_pos held⟩
    · rintro rfl
      obtain ⟨noTerm, noStep⟩ := terms_zero st dtq
      rw [noTerm, noStep, Int.add_zero, Int.add_zero] at raw
      have still : r.u = h := by rw [u, raw, ← point, bandClamp_self]
      have free : ¬windupHeld r.uRaw r.u (integralStep st 0 dtq) = true := fun held =>
        (of_decide_eq_true held).1 (by rw [still, raw, point])
      refine ⟨still, (if_neg free).trans ?_⟩
      rw [noStep, Int.add_zero]
      exact clampInt_of_mem low high

end Sys2Proof.Machine
end

section
/-!
Edges: the filters, the place of an edge in the FIFO, and the entry to RUN that an accepted crank edge brings in STANDBY.
-/

set_option Elab.async false

namespace Sys2Proof.Machine

/-- States with the same blocks are the same; the blocks an operation leaves alone are closed by `simp`. -/
theorem State.eq_of_blocks {s t : State} (pending : s.pending = t.pending := by simp) (now : s.now = t.now := by simp)
    (straps : s.straps = t.straps := by simp) (settings : s.settings = t.settings := by simp) (cap : s.cap = t.cap := by simp)
    (scan : s.scan = t.scan := by simp) (trk : s.trk = t.trk := by simp) (phm : s.phm = t.phm := by simp)
    (camc : s.camc = t.camc := by simp) (loop : s.loop = t.loop := by simp) (shr : s.shr = t.shr := by simp)
    (drv : s.drv = t.drv := by simp) (supply : s.supply = t.supply := by simp) (line : s.line = t.line := by simp)
    (mon : s.mon = t.mon := by simp) (store : s.store = t.store := by simp) (stored : s.stored = t.stored := by simp)
    (service : s.service = t.service := by simp) (pwr : s.pwr = t.pwr := by simp)
    (freeDraws : s.freeDraws = t.freeDraws := by simp) : s = t := by
  cases s
  cases t
  simp only [State.mk.injEq]
  exact ⟨pending, now, straps, settings, cap, scan, trk, phm, camc, loop, shr, drv, supply, line, mon, store, stored, service, pwr,
    freeDraws⟩

/-- A command whose effect comes under a condition that holds. -/
theorem next_ite_pos {s t : State} {b : Prop} [Decidable b] (h : b) :
    (Host.Outcome.next (if b then t else s) : Host.Outcome State Fault Refusal) = .next t := by rw [if_pos h]

theorem next_ite_neg {s t : State} {b : Prop} [Decidable b] (h : ¬b) :
    (Host.Outcome.next (if b then t else s) : Host.Outcome State Fault Refusal) = .next s := by rw [if_neg h]

/-! ## The FIFO (R5, R6, R8) -/

/-- The edge stands behind `front` and ahead of `later` in the order of R6. -/
structure Entry.Between (e : Entry) (front later : List Entry) : Prop where
  later : ∀ x ∈ later, x.follows e = true
  front : ∀ x, front.getLast? = some x → x.follows e = false

theorem Cap.write_of_room {k : Cap} {e : Entry} {front later : List Entry} (place : e.Between front later)
    (split : k.fifo = front ++ later) (none : k.overflowPending = false) (room : k.fifo.length < 16) :
    k.write e = { k with fifo := front ++ e :: later } := by
  rw [k.write_split e front later none split place.later place.front, if_pos room]

/-- On a full FIFO the last edge in the order of R6 is dropped, counted and left pending, whether a loss was pending or not. -/
theorem Cap.write_of_full {k : Cap} {e : Entry} {front later : List Entry} (place : e.Between front later)
    (split : k.fifo = front ++ later) (full : k.fifo.length = 16) :
    k.write e = { k with
      fifo := (front ++ e :: later).dropLast, overflows := min 65535 (k.overflows + 1), overflowPending := true } := by
  have written : (writeBehind e k.fifo.reverse).reverse = front ++ e :: later := by
    rw [split, List.reverse_append, writeBehind_split e later.reverse front.reverse (by simpa using place.later)
      (by simpa [List.head?_reverse] using place.front)]
    simp
  have length : (front ++ e :: later).length = 17 := by
    rw [split] at full
    simp at full ⊢
    omega
  have kept : k.flushMarker e.time = k := by simp [Cap.flushMarker, full]
  simp only [Cap.write, kept, written, full, Nat.lt_irrefl, if_false, List.dropLast_eq_take, length, satInc]

theorem crank_between {now : Time} {front later : List Entry} (cams : ∀ x ∈ later, ∃ c, x = ⟨.cam c, now⟩)
    (last : ∀ c, front.getLast? ≠ some ⟨.cam c, now⟩) : (⟨.crank, now⟩ : Entry).Between front later where
  later x mem := by
    obtain ⟨c, rfl⟩ := cams x mem
    cases c <;> simp [Entry.follows, Source.place]
  front x tail := by
    obtain ⟨source, time⟩ := x
    cases source with
    | cam c =>
      have other : time ≠ now := fun same => last c (same ▸ tail)
      simp [Entry.follows, other]
    | overflow | crank => simp [Entry.follows, Source.place]

theorem cam_between {c : Cam} {now : Time} {front later : List Entry} (cams : ∀ x ∈ later, c = .i ∧ x = ⟨.cam .e, now⟩)
    (last : c = .i → front.getLast? ≠ some ⟨.cam .e, now⟩) : (⟨.cam c, now⟩ : Entry).Between front later where
  later x mem := by
    obtain ⟨rfl, rfl⟩ := cams x mem
    simp [Entry.follows, Source.place]
  front x tail := by
    obtain ⟨source, time⟩ := x
    cases c with
    | e => rcases source with _ | c | _ <;> try cases c
           all_goals simp [Entry.follows, Source.place]
    | i =>
      rcases source with _ | c | _
      · simp [Entry.follows, Source.place]
      · cases c with
        | i => simp [Entry.follows, Source.place]
        | e =>
          have other : time ≠ now := fun same => last rfl (same ▸ tail)
          simp [Entry.follows, other]
      · simp [Entry.follows, Source.place]

/-! ## The filters (R3, R4) -/

theorem crankThreshold_eq (pLast : Option Nat) : crankThreshold pLast = max 40 (pLast.getD 0 / 4) := by
  cases pLast <;> rfl

theorem Cap.crankAccepts_iff (k : Cap) (t : Time) : k.crankAccepts t = true ↔
    ∀ last, k.crankLast = some last → max 40 (k.pLast.getD 0 / 4) ≤ elapsed t last := by
  unfold Cap.crankAccepts
  rw [← crankThreshold_eq]
  cases k.crankLast <;> simp

theorem Cap.camAccepts_iff (k : Cap) (c : Cam) (t : Time) : k.camAccepts c t = true ↔
    ∀ last, k.camLast.get c = some last → 100 ≤ elapsed t last := by
  unfold Cap.camAccepts
  cases k.camLast.get c <;> simp

theorem State.sensing_iff (s : State) : s.sensing = true ↔
    s.pwr.power = .loading ∨ s.pwr.power = .standby ∨ s.pwr.power = .run := decide_eq_true_iff

theorem exec_crankEdge_accepted {s : State} (on : s.sensing = true) (accepted : s.cap.crankAccepts s.now = true) :
    exec .crankEdge s = .next (s.withCap (fun k => (k.crankAccepted s.now).write ⟨.crank, s.now⟩)).signalCrank := by
  show Host.Outcome.next (if s.sensing = true then s.crankEdge else s) = _
  rw [if_pos on, State.crankEdge, if_pos accepted]

theorem exec_crankEdge_noise {s : State} (on : s.sensing = true) (noise : ¬s.cap.crankAccepts s.now = true) :
    exec .crankEdge s = .next { s with cap := { s.cap with crankNoise := min 65535 (s.cap.crankNoise + 1) } } := by
  show Host.Outcome.next (if s.sensing = true then s.crankEdge else s) = _
  rw [if_pos on, State.crankEdge, if_neg noise]
  rfl

/-- Settles O28: the filter judges (`Cap.crankAccepts_iff`), the FIFO takes the edge at its place (`Cap.write_of_room`,
`Cap.write_of_full`), and PWR is told. -/
theorem crankEdgeIsFilteredAndQueued : Obligations.CrankEdgeIsFilteredAndQueued := by
  refine ⟨?_, ?_, ?_⟩
  · intro s awake told front later split cams last accepted
    have place := crank_between cams last
    have signal (k : Cap) : ({ s with cap := k } : State).signalCrank = { s with cap := k, pwr := told } := by
      rcases awake with run | loading
      · simp [State.signalCrank, run, told, State.stopTimerOff, State.withPwr]
      · simp [State.signalCrank, loading, told, State.withPwr]
    have written := exec_crankEdge_accepted ((s.sensing_iff).mpr (by tauto)) ((s.cap.crankAccepts_iff s.now).mpr accepted)
    refine ⟨fun none room => ?_, fun full => ?_⟩
    · rw [written, ← signal]
      exact congrArg (fun k => Host.Outcome.next ({ s with cap := k } : State).signalCrank)
        (Cap.write_of_room (k := s.cap.crankAccepted s.now) place split none room)
    · rw [written, ← signal]
      exact congrArg (fun k => Host.Outcome.next ({ s with cap := k } : State).signalCrank)
        (Cap.write_of_full (k := s.cap.crankAccepted s.now) place split full)
  · intro s last awake known early
    refine exec_crankEdge_noise ((s.sensing_iff).mpr (by tauto)) fun accepted => ?_
    have := (s.cap.crankAccepts_iff s.now).mp accepted last known
    omega
  · intro s run standby loading
    exact next_ite_neg fun on => by
      have := (s.sensing_iff).mp on
      tauto

/-- Settles O30: likewise for a cam input, whose filter has a threshold of its own. -/
theorem camEdgesAreQueuedAndFiltersForget : Obligations.CamEdgesAreQueuedAndFiltersForget := by
  refine ⟨fun s c on => ⟨fun last known early => ?_, fun front later split cams last accepted => ?_⟩,
    fun s last known due => ?_, fun s c last known due => ?_⟩
  · have noise : ¬s.cap.camAccepts c s.now = true := fun accepted => by
      have := (s.cap.camAccepts_iff c s.now).mp accepted last known
      omega
    show Host.Outcome.next (if s.sensing = true then s.camEdge c else s) = _
    rw [if_pos on, State.camEdge, if_neg noise]
    rfl
  · have place := cam_between cams last
    have written : exec (.camEdge c) s
        = .next (s.withCap (fun k => { k with camLast := k.camLast.set c (some s.now) }.write ⟨.cam c, s.now⟩)) := by
      show Host.Outcome.next (if s.sensing = true then s.camEdge c else s) = _
      rw [if_pos on, State.camEdge, if_pos ((s.cap.camAccepts_iff c s.now).mpr accepted)]
    refine ⟨fun none room => ?_, fun full => ?_⟩
    · rw [written]
      exact congrArg (fun k => Host.Outcome.next { s with cap := k })
        (Cap.write_of_room (k := { s.cap with camLast := s.cap.camLast.set c (some s.now) }) place split none room)
    · rw [written]
      exact congrArg (fun k => Host.Outcome.next { s with cap := k })
        (Cap.write_of_full (k := { s.cap with camLast := s.cap.camLast.set c (some s.now) }) place split full)
  · exact next_ite_pos (by simpa [forgetDue, known] using due)
  · exact next_ite_pos (by simpa [forgetDue, known] using due)

end Sys2Proof.Machine
end

section
/-!
The opening of a period (R145 to R148) written out, and the entry to RUN that an accepted crank edge brings in STANDBY (R189).
-/

set_option Elab.async false

namespace Sys2Proof.Machine

/-! ## Period open -/

theorem ditherSuppressed_iff (pending : Nat) (state : CamState) :
    ditherSuppressed pending state = true ↔ ¬(pending ≠ 0 ∧ (state = .parking ∨ state = .follow)) := by
  simp only [ditherSuppressed, Bool.or_eq_true, decide_eq_true_iff]
  tauto

theorem ditherPeriods_half (st : Settings) : ditherPeriods st / 2 = st.ditherLen + 1 := by
  unfold ditherPeriods
  omega

/-- A period open by R145 to R148. -/
theorem Drv.opened_eq (d : Drv) (st : Settings) (state : CamState) (mv : Nat) (now : Time) : d.opened st state mv now =
    let half := st.ditherLen + 1
    let dithered : Prop := d.pending ≠ 0 ∧ (state = .parking ∨ state = .follow)
    let dither : Int := if dithered then (if d.ditherPhase ≤ half then (st.ditherAmp : Int) else -(st.ditherAmp : Int)) else 0
    let applied := (max 0 (min 1000 ((d.pending * 13500 / max mv 9000 : Nat) + dither))).toNat
    { d with
      active := d.pending, applied := applied
      ditherPhase := if dithered then (if 2 * half ≤ d.ditherPhase then 1 else d.ditherPhase + 1) else 1
      periodStart := some now, output := decide (0 < applied), supplyRead := mv } := by
  by_cases dithered : d.pending ≠ 0 ∧ (state = .parking ∨ state = .follow)
  · have off : ¬ditherSuppressed d.pending state = true := fun on => (ditherSuppressed_iff _ _).mp on dithered
    simp only [Drv.opened, ditherOf, ditherPhaseAfter, appliedDuty, compensated, clampInt, if_neg off, if_pos dithered,
      ditherPeriods_half]
    rfl
  · have on : ditherSuppressed d.pending state = true := (ditherSuppressed_iff _ _).mpr dithered
    simp only [Drv.opened, ditherOf, ditherPhaseAfter, appliedDuty, compensated, clampInt, if_pos on, if_neg dithered]

/-! ## The entry to RUN -/

theorem State.enterRun_pwr (s : State) : s.enterRun.pwr = { s.pwr with
    power := .run, quietTimer := none
    stopTimer := if s.trk.state = .stopped then some ⟨s.now, 4000000⟩ else none } := by
  simp [State.enterRun, State.bothCams]

theorem State.enterRun_shr (s : State) : s.enterRun.shr = { s.shr with shareTimer := some ⟨s.now, 20000⟩ } := by
  simp [State.enterRun, State.bothCams]

theorem State.enterRun_mon (s : State) : s.enterRun.mon = { s.mon with statusTimer := some ⟨s.now, 200000⟩ } := by
  simp [State.enterRun, State.bothCams]

theorem State.enterRun_scan (s : State) : s.enterRun.scan = { s.scan.onRun s.now with coil := .both {} } := by
  simp [State.enterRun, State.bothCams, State.openPeriod, PerCam.set, PerCam.both]

theorem Scan.onRun_eq (k : Scan) (now : Time) : { k.onRun now with coil := .both {} } = { k with
    conversion := (match k.conversion with | some v => some v | none => some ⟨.coil .i, now⟩)
    passStart := (match k.conversion with | some _ => k.passStart | none => some now)
    coil := .both {} } := by
  obtain ⟨conversion⟩ := k
  cases conversion <;> rfl

/-- Settles O29: the edge is queued as in RUN, and the entry to RUN is R189's block by block. -/
theorem crankEdgeInStandbyEntersRun : Obligations.CrankEdgeInStandbyEntersRun := by
  intro s standby last front later split cams tail cap millivolts
  have place := crank_between cams tail
  have entered := exec_crankEdge_accepted ((s.sensing_iff).mpr (.inr (.inl standby)))
    ((s.cap.crankAccepts_iff s.now).mpr last)
  generalize queued : (s.cap.crankAccepted s.now).write ⟨.crank, s.now⟩ = queue at entered
  have signal : (s.withCap (fun k => (k.crankAccepted s.now).write ⟨.crank, s.now⟩)).signalCrank
      = ({ s with cap := queue } : State).enterRun := by
    simp [State.signalCrank, standby, State.withCap, queued]
  refine ⟨_, entered, ?_⟩
  rw [signal]
  refine ⟨fun none room => ?_, fun full => ?_, State.enterRun_pwr _, ?_, State.enterRun_shr _, State.enterRun_mon _, fun c => ?_,
    ?_⟩
  · rw [State.enterRun_frame _ |>.2.2.2.2.1, ← queued]
    exact Cap.write_of_room (k := s.cap.crankAccepted s.now) place split none room
  · rw [State.enterRun_frame _ |>.2.2.2.2.1, ← queued]
    exact Cap.write_of_full (k := s.cap.crankAccepted s.now) place split full
  · exact (State.enterRun_scan _).trans (Scan.onRun_eq s.scan s.now)
  · rw [State.enterRun_drvOf]
    exact Drv.opened_eq _ _ _ _ _
  · exact State.eq_of_blocks

end Sys2Proof.Machine
end

section
/-!
The entry of a cam to a state (R82) as one equation, a cam taken to OFF (R88), and what leaving CYCLE_SYNC makes of the cams (R35).
-/

set_option Elab.async false

namespace Sys2Proof.Machine

/-! ## One record of a pair replaced -/

theorem PerCam.eq_set {α : Type} {p q : PerCam α} {c : Cam} {a : α} (own : p.get c = a) (other : p.get c.other = q.get c.other) :
    p = q.set c a := by
  obtain ⟨pi, pe⟩ := p
  obtain ⟨qi, qe⟩ := q
  cases c <;> simp_all [PerCam.get, PerCam.set, Cam.other]

theorem PerCam.get_set_eq {α : Type} (p : PerCam α) (c d : Cam) (a : α) :
    (p.set c a).get d = if d = c then a else p.get d := by
  split
  next same => rw [same, PerCam.get_set]
  next other => exact PerCam.get_set_ne _ _ _ _ other

theorem PerCam.set_get {α : Type} (p : PerCam α) (c : Cam) : p.set c (p.get c) = p := by cases c <;> rfl

theorem PerCam.ext_get {α : Type} {p q : PerCam α} (h : ∀ c, p.get c = q.get c) : p = q := by
  obtain ⟨pi, pe⟩ := p
  obtain ⟨qi, qe⟩ := q
  obtain rfl : pi = qi := h .i
  obtain rfl : pe = qe := h .e
  rfl

/-! ## Entry to a state (R82) -/

/-- An entry replaces the cam's four records, and its demand where the new state drops it; nothing else changes. -/
theorem State.enterCam_eq (s : State) (c : Cam) (new : CamState) (at_ : Time) : s.enterCam c new at_ = { s with
    phm := s.phm.set c (if (s.camOf c).state = .parked ∧ new ≠ .parked then (s.phmOf c).abandon else s.phmOf c)
    camc := { s.camc with cams := s.camc.cams.set c (s.enterCtl c new at_ (s.camOf c)) }
    loop := s.loop.set c (s.enterLoop (s.camOf c).state new (s.loopOf c))
    drv := s.drv.set c (s.enterDrv c new (s.drvOf c))
    shr := if new.dropsDemand then { s.shr with demand := s.shr.demand.set c 0 } else s.shr } := by
  obtain ⟨cam, phm, loop, drv, cam', phm', loop', drv', camc, shr⟩ := s.enterCam_spec c new at_
  refine State.eq_of_blocks (phm := PerCam.eq_set phm phm') (loop := PerCam.eq_set loop loop') (drv := PerCam.eq_set drv drv')
    (shr := shr) (camc := camc.trans ?_)
  exact congrArg (fun cams => { s.camc with cams := cams }) (PerCam.eq_set cam cam')

/-! ## A cam taken to OFF (R88) -/

/-- The cam is under control of a machine that takes transitions (R80, R88). -/
def State.goesOff (s : State) (c : Cam) : Bool := s.machineRuns c && (s.camOf c).state.controlled

theorem CamState.controlled_iff (x : CamState) : x.controlled = true ↔ x ≠ .off ∧ x ≠ .faulted := by
  cases x <;> simp [CamState.controlled]

theorem State.goesOff_iff (s : State) (c : Cam) :
    s.goesOff c = true ↔ s.machineRuns c = true ∧ (s.camOf c).state ≠ .off ∧ (s.camOf c).state ≠ .faulted := by
  simp only [State.goesOff, Bool.and_eq_true, CamState.controlled_iff]

/-- CAMC's record of a cam in OFF. -/
def CamCtl.off (k : CamCtl) : CamCtl :=
  { k with state := .off, ramp := 0, parkedAt := none, rested := false, settleStart := none, releaseExpiry := none, stuck := 0 }

theorem Phm.abandon_of_idle {p : Phm} (idle : p.status ≠ .learning) : p.abandon = p := if_neg idle

theorem Phm.abandon_abandon {p : Phm} (fresh : p.status = .learning → p.statusBefore ≠ some .learning) :
    p.abandon.abandon = p.abandon := by
  by_cases run : p.status = .learning
  · refine Phm.abandon_of_idle ?_
    simp only [Phm.abandon, if_pos run, Phm.statusAfter]
    cases before : p.statusBefore with
    | none => nofun
    | some b => exact fun same => fresh run (before.trans (congrArg some same))
  · rw [Phm.abandon_of_idle run, Phm.abandon_of_idle run]

theorem State.camToOff_eq (s : State) (c : Cam) : s.camToOff c = if s.goesOff c = true then { s with
    phm := s.phm.set c (if (s.camOf c).state = .parked then (s.phmOf c).abandon else s.phmOf c)
    camc := { s.camc with cams := s.camc.cams.set c (s.camOf c).off }
    loop := s.loop.set c { s.loopOf c with integral := 0, settled := 0 }
    drv := s.drv.set c { s.drvOf c with pending := 0 }
    shr := { s.shr with demand := s.shr.demand.set c 0 } } else s := by
  unfold State.camToOff State.goesOff
  split
  next go =>
    rw [State.enterCam_eq]
    simp [State.enterCtl, State.enterLoop, State.enterDrv, CamState.dropsDemand, CamCtl.off]
  next stay => rfl

theorem State.camToOff_camOf (s : State) (c d : Cam) :
    (s.camToOff c).camOf d = if d = c ∧ s.goesOff c = true then (s.camOf d).off else s.camOf d := by
  rw [State.camToOff_eq]
  by_cases go : s.goesOff c = true
  · by_cases same : d = c
    · subst same
      simp [go, State.camOf]
    · simp [go, same, State.camOf, PerCam.get_set_ne]
  · simp [go]

theorem State.camToOff_loopOf (s : State) (c d : Cam) : (s.camToOff c).loopOf d
    = if d = c ∧ s.goesOff c = true then { s.loopOf d with integral := 0, settled := 0 } else s.loopOf d := by
  rw [State.camToOff_eq]
  by_cases go : s.goesOff c = true
  · by_cases same : d = c
    · subst same
      simp [go, State.loopOf]
    · simp [go, same, State.loopOf, PerCam.get_set_ne]
  · simp [go]

theorem State.camToOff_drvOf (s : State) (c d : Cam) : (s.camToOff c).drvOf d
    = if d = c ∧ s.goesOff c = true then { s.drvOf d with pending := 0 } else s.drvOf d := by
  rw [State.camToOff_eq]
  by_cases go : s.goesOff c = true
  · by_cases same : d = c
    · subst same
      simp [go, State.drvOf]
    · simp [go, same, State.drvOf, PerCam.get_set_ne]
  · simp [go]

theorem State.camToOff_demand (s : State) (c d : Cam) : (s.camToOff c).shr.demand.get d
    = if d = c ∧ s.goesOff c = true then 0 else s.shr.demand.get d := by
  rw [State.camToOff_eq]
  by_cases go : s.goesOff c = true
  · by_cases same : d = c
    · subst same
      simp [go]
    · simp [go, same, PerCam.get_set_ne]
  · simp [go]

theorem State.camToOff_phm (s : State) (c d : Cam) : (s.camToOff c).phmOf d
    = if d = c ∧ s.goesOff c = true ∧ (s.camOf c).state = .parked then (s.phmOf d).abandon else s.phmOf d := by
  rw [State.camToOff_eq]
  by_cases go : s.goesOff c = true
  · by_cases same : d = c
    · subst same
      simp [go, State.phmOf]
    · simp [go, same, State.phmOf, PerCam.get_set_ne]
  · simp [go]

theorem State.camToOff_shr (s : State) (c : Cam) :
    (s.camToOff c).shr = { s.shr with demand := (s.camToOff c).shr.demand } := by
  rw [State.camToOff_eq]
  split <;> rfl

theorem State.camToOff_camc (s : State) (c : Cam) :
    (s.camToOff c).camc = { s.camc with cams := (s.camToOff c).camc.cams } := by
  rw [State.camToOff_eq]
  split <;> rfl

theorem State.goesOff_of_blocks {s t : State} (straps : t.straps = s.straps) {c : Cam}
    (state : (t.camOf c).state = (s.camOf c).state) : t.goesOff c = s.goesOff c := by
  unfold State.goesOff
  rw [State.machineRuns_of_straps straps, state]

/-- Both cams taken to OFF: each record as if its cam alone had been. -/
theorem State.bothCamsToOff (s : State) (d : Cam) :
    (s.bothCams State.camToOff).camOf d = (if s.goesOff d = true then (s.camOf d).off else s.camOf d)
    ∧ (s.bothCams State.camToOff).loopOf d
      = (if s.goesOff d = true then { s.loopOf d with integral := 0, settled := 0 } else s.loopOf d)
    ∧ (s.bothCams State.camToOff).drvOf d = (if s.goesOff d = true then { s.drvOf d with pending := 0 } else s.drvOf d)
    ∧ (s.bothCams State.camToOff).shr.demand.get d = (if s.goesOff d = true then 0 else s.shr.demand.get d) := by
  have second : (s.camToOff .i).goesOff .e = s.goesOff .e :=
    State.goesOff_of_blocks (by simp) (by rw [State.camToOff_camOf, if_neg (by simp)])
  simp only [State.bothCams, State.camToOff_camOf, State.camToOff_loopOf, State.camToOff_drvOf, State.camToOff_demand, second]
  cases d <;> simp

/-! ## Leaving CYCLE_SYNC (R35, R56, R64, R88) -/

theorem State.startTally_phmOf (s : State) (whole : Bool) (c : Cam) :
    (s.startTally whole).phmOf c = { s.phmOf c with tally := 0, wholeCycle := whole } := by cases c <;> rfl

theorem State.releaseCam_camOf (s : State) (c d : Cam) :
    (s.releaseCam c).camOf d = if d = c ∧ s.goesOff c = true then (s.camOf d).off else s.camOf d :=
  State.camToOff_camOf (s.onPhm c Phm.abandon) c d

theorem State.releaseCam_loopOf (s : State) (c d : Cam) : (s.releaseCam c).loopOf d
    = if d = c ∧ s.goesOff c = true then { s.loopOf d with integral := 0, settled := 0 } else s.loopOf d :=
  State.camToOff_loopOf (s.onPhm c Phm.abandon) c d

theorem State.releaseCam_drvOf (s : State) (c d : Cam) : (s.releaseCam c).drvOf d
    = if d = c ∧ s.goesOff c = true then { s.drvOf d with pending := 0 } else s.drvOf d :=
  State.camToOff_drvOf (s.onPhm c Phm.abandon) c d

theorem State.releaseCam_demand (s : State) (c d : Cam) : (s.releaseCam c).shr.demand.get d
    = if d = c ∧ s.goesOff c = true then 0 else s.shr.demand.get d :=
  State.camToOff_demand (s.onPhm c Phm.abandon) c d

/-- The run of the cam is abandoned once, whether at the end of CYCLE_SYNC or in the cam's departure from PARKED. -/
theorem State.releaseCam_phmOf (s : State) (c : Cam)
    (fresh : (s.phmOf c).status = .learning → (s.phmOf c).statusBefore ≠ some .learning) :
    (s.releaseCam c).phmOf c = (s.phmOf c).abandon := by
  unfold State.releaseCam
  rw [State.camToOff_phm, State.onPhm_phmOf]
  split
  · exact Phm.abandon_abandon fresh
  · rfl

theorem State.releaseCam_phmOf_ne (s : State) {c d : Cam} (other : d ≠ c) : (s.releaseCam c).phmOf d = s.phmOf d := by
  unfold State.releaseCam
  rw [State.camToOff_phm, if_neg (fun both => other both.1), State.onPhm_phmOf_ne _ _ _ _ other]

theorem State.releaseCam_shr (s : State) (c : Cam) :
    (s.releaseCam c).shr = { s.shr with demand := (s.releaseCam c).shr.demand } := State.camToOff_shr (s.onPhm c Phm.abandon) c

theorem State.releaseCam_camc (s : State) (c : Cam) :
    (s.releaseCam c).camc = { s.camc with cams := (s.releaseCam c).camc.cams } := State.camToOff_camc (s.onPhm c Phm.abandon) c

theorem State.leaveCycleSync_of_sync {s : State} (sync : s.trk.state = .cycleSync) :
    s.leaveCycleSync = ((s.releaseCam .i).releaseCam .e).startTally false := if_pos sync

theorem State.leaveCycleSync_phmOf {s : State} (sync : s.trk.state = .cycleSync) (d : Cam)
    (fresh : (s.phmOf d).status = .learning → (s.phmOf d).statusBefore ≠ some .learning) :
    s.leaveCycleSync.phmOf d = { (s.phmOf d).abandon with tally := 0, wholeCycle := false } := by
  have released : ((s.releaseCam .i).releaseCam .e).phmOf d = (s.phmOf d).abandon := by
    cases d with
    | i => rw [State.releaseCam_phmOf_ne _ (by decide), State.releaseCam_phmOf _ _ fresh]
    | e =>
      have kept : (s.releaseCam .i).phmOf .e = s.phmOf .e := s.releaseCam_phmOf_ne (by decide)
      rw [State.releaseCam_phmOf _ _ (by rwa [kept]), kept]
  rw [State.leaveCycleSync_of_sync sync, State.startTally_phmOf, released]

/-- The cams after CYCLE_SYNC: each one under control in OFF, the others as they were (R88). -/
theorem State.leaveCycleSync_cams {s : State} (sync : s.trk.state = .cycleSync) (d : Cam) :
    s.leaveCycleSync.camOf d = (if s.goesOff d = true then (s.camOf d).off else s.camOf d)
    ∧ s.leaveCycleSync.loopOf d = (if s.goesOff d = true then { s.loopOf d with integral := 0, settled := 0 } else s.loopOf d)
    ∧ s.leaveCycleSync.drvOf d = (if s.goesOff d = true then { s.drvOf d with pending := 0 } else s.drvOf d)
    ∧ s.leaveCycleSync.shr.demand.get d = (if s.goesOff d = true then 0 else s.shr.demand.get d) := by
  have second : (s.releaseCam .i).goesOff .e = s.goesOff .e :=
    State.goesOff_of_blocks (by simp) (by rw [State.releaseCam_camOf, if_neg (by simp)])
  rw [State.leaveCycleSync_of_sync sync]
  have untouched (t : State) : (t.startTally false).camOf d = t.camOf d ∧ (t.startTally false).loopOf d = t.loopOf d
    ∧ (t.startTally false).drvOf d = t.drvOf d ∧ (t.startTally false).shr = t.shr := ⟨rfl, rfl, rfl, rfl⟩
  obtain ⟨cam, loop, drv, shr⟩ := untouched ((s.releaseCam .i).releaseCam .e)
  rw [cam, loop, drv, shr]
  simp only [State.releaseCam_camOf, State.releaseCam_loopOf, State.releaseCam_drvOf, State.releaseCam_demand, second]
  cases d <;> simp

theorem State.leaveCycleSync_shr (s : State) : s.leaveCycleSync.shr = { s.shr with demand := s.leaveCycleSync.shr.demand } := by
  unfold State.leaveCycleSync
  split
  · show ((s.releaseCam .i).releaseCam .e).shr = { s.shr with demand := ((s.releaseCam .i).releaseCam .e).shr.demand }
    rw [State.releaseCam_shr, State.releaseCam_shr]
  · rfl

theorem State.leaveCycleSync_camc (s : State) : s.leaveCycleSync.camc = { s.camc with cams := s.leaveCycleSync.camc.cams } := by
  unfold State.leaveCycleSync
  split
  · show ((s.releaseCam .i).releaseCam .e).camc = { s.camc with cams := ((s.releaseCam .i).releaseCam .e).camc.cams }
    rw [State.releaseCam_camc, State.releaseCam_camc]
  · rfl

theorem SyncLeft.of_leave {s : State} (sync : s.trk.state = .cycleSync) : SyncLeft s s.leaveCycleSync where
  idle c idle := by rw [State.leaveCycleSync_phmOf sync c fun run => absurd run idle, Phm.abandon_of_idle idle]
  ended c run b before fresh o origin := by
    rw [State.leaveCycleSync_phmOf sync c fun _ same => fresh (Option.some.inj ((Option.mem_def.mp before).symm.trans same))]
    simp [Phm.abandon, run, Phm.statusAfter, Option.mem_def.mp before, Option.mem_def.mp origin]
  off c runs off faulted := by
    have go := (s.goesOff_iff c).mpr ⟨runs, off, faulted⟩
    obtain ⟨cam, loop, drv, demand⟩ := State.leaveCycleSync_cams sync c
    exact ⟨by rw [cam, if_pos go]; rfl, by rw [loop, if_pos go], by rw [drv, if_pos go], by rw [demand, if_pos go]⟩
  stays c stands := by
    have stay : ¬s.goesOff c = true := fun go => by
      obtain ⟨runs, off, faulted⟩ := (s.goesOff_iff c).mp go
      rcases stands with h | h | h
      · simp [runs] at h
      · exact off h
      · exact faulted h
    obtain ⟨cam, loop, drv, demand⟩ := State.leaveCycleSync_cams sync c
    exact ⟨by rw [cam, if_neg stay], by rw [loop, if_neg stay], by rw [drv, if_neg stay], by rw [demand, if_neg stay]⟩
  rest := State.eq_of_blocks (camc := s.leaveCycleSync_camc) (shr := s.leaveCycleSync_shr)

/-- What follows in TRK, CAP, MON, PWR and the line's slots leaves the cams where CYCLE_SYNC's end left them. -/
theorem SyncLeft.then {s t u : State} (h : SyncLeft s t) (pending : u.pending = t.pending := by simp) (now : u.now = t.now := by simp)
    (straps : u.straps = t.straps := by simp) (settings : u.settings = t.settings := by simp)
    (scan : u.scan = t.scan := by simp) (phm : u.phm = t.phm := by simp)
    (camc : u.camc = t.camc := by simp) (loop : u.loop = t.loop := by simp) (shr : u.shr = t.shr := by simp)
    (drv : u.drv = t.drv := by simp) (supply : u.supply = t.supply := by simp)
    (line : u.line = { t.line with slots := u.line.slots } := by simp)
    (store : u.store = t.store := by simp) (stored : u.stored = t.stored := by simp)
    (service : u.service = t.service := by simp) (freeDraws : u.freeDraws = t.freeDraws := by simp) : SyncLeft s u := by
  have cam (c : Cam) : u.phmOf c = t.phmOf c ∧ u.camOf c = t.camOf c ∧ u.loopOf c = t.loopOf c ∧ u.drvOf c = t.drvOf c :=
    ⟨State.phmOf_of_phm phm c, State.camOf_of_camc camc c, State.loopOf_of_loop loop c, State.drvOf_of_drv drv c⟩
  refine ⟨fun c idle => ?_, fun c run b before fresh o origin => ?_, fun c runs off faulted => ?_, fun c stands => ?_, ?_⟩
  · rw [(cam c).1, h.idle c idle]
  · rw [(cam c).1, h.ended c run b before fresh o origin]
  · obtain ⟨-, one, two, three⟩ := cam c
    rw [one, two, three, shr]
    exact h.off c runs off faulted
  · obtain ⟨-, one, two, three⟩ := cam c
    rw [one, two, three, shr]
    exact h.stays c stands
  · have rest := h.rest
    exact State.eq_of_blocks (pending.trans (congrArg State.pending rest :)) (now.trans (congrArg State.now rest :))
      (straps.trans (congrArg State.straps rest :)) (settings.trans (congrArg State.settings rest :))
      (cap := rfl) (scan := scan.trans (congrArg State.scan rest :)) (trk := rfl) (phm := rfl)
      (camc := by rw [camc]; exact (congrArg State.camc rest :)) (loop := rfl) (shr := by rw [shr]; exact (congrArg State.shr rest :))
      (drv := rfl) (supply := supply.trans (congrArg State.supply rest :))
      (line := by rw [line]; exact (congrArg (fun v => { v.line with slots := u.line.slots }) rest :)) (mon := rfl)
      (store := store.trans (congrArg State.store rest :)) (stored := stored.trans (congrArg State.stored rest :))
      (service := service.trans (congrArg State.service rest :)) (pwr := rfl)
      (freeDraws := freeDraws.trans (congrArg State.freeDraws rest :))

/-- The take of the entry that ended CYCLE_SYNC, and what TRK noted of it, are not part of it. -/
theorem SyncLeft.of_cap {s t : State} {k : Cap} {j : Trk} (h : SyncLeft { s with cap := k, trk := j } t) : SyncLeft s t :=
  ⟨h.idle, h.ended, h.off, h.stays, h.rest⟩

end Sys2Proof.Machine
end

section
/-!
The tracker's takes of crank entries and OVERFLOW markers, and the stall timeout (R20 to R25, R35, R42).
-/

set_option Elab.async false

namespace Sys2Proof.Machine

/-! ## Changes that only reach the line's slots -/

theorem State.activate_slots (s : State) (k : Cond) : (s.activate k).line = { s.line with slots := (s.activate k).line.slots } := by
  obtain e | e := s.activate_line k <;> rw [e]

theorem State.deactivate_slots (s : State) (k : Cond) :
    (s.deactivate k).line = { s.line with slots := (s.deactivate k).line.slots } := by
  obtain e | e := s.deactivate_line k <;> rw [e]

@[simp] theorem State.withdraw_line (s : State) (k : Slot) :
    (s.withdraw k).line = { s.line with slots := s.line.slots.set k false } := rfl

@[simp] theorem State.queue_line (s : State) (k : Slot) :
    (s.queue k).line = { s.line with slots := s.line.slots.set k true } := rfl

/-! ## Taking an entry (R7) -/

/-- The head entry has left the FIFO, with no loss pending. -/
def State.took (s : State) (rest : List Entry) : State := { s with cap := { s.cap with fifo := rest } }

@[simp] theorem State.took_trk (s : State) (rest : List Entry) : (s.took rest).trk = s.trk := rfl

theorem State.takeHead_plain {s : State} (no_loss : s.cap.overflowPending = false) {e : Entry} {rest : List Entry}
    (head : s.cap.fifo = e :: rest) : s.takeHead = s.took rest := by
  rw [State.takeHead, State.withCap]
  simp only [Cap.take_plain _ _ no_loss, head, List.tail_cons]
  rfl

theorem State.headEntry_eq {s : State} (on : s.operating = true) {e : Entry} {rest : List Entry} (head : s.cap.fifo = e :: rest) :
    s.headEntry = some e := by
  rw [State.headEntry, if_pos on, head]
  rfl

theorem exec_takeCrankEntry {s : State} (on : s.operating = true) (no_loss : s.cap.overflowPending = false) {t : Time}
    {rest : List Entry} (head : s.cap.fifo = ⟨.crank, t⟩ :: rest) :
    exec .takeCrankEntry s = .next ((s.took rest).crankEntry t) := by
  rw [← State.takeHead_plain no_loss head]
  show Host.Outcome.next (match s.headEntry with | some ⟨.crank, t⟩ => s.takeHead.crankEntry t | _ => s) = _
  rw [State.headEntry_eq on head]

theorem exec_takeOverflowMarker {s : State} (on : s.operating = true) (no_loss : s.cap.overflowPending = false) {t : Time}
    {rest : List Entry} (head : s.cap.fifo = ⟨.overflow, t⟩ :: rest) :
    exec .takeOverflowMarker s = .next ((s.took rest).overflowMarker t) := by
  rw [← State.takeHead_plain no_loss head]
  show Host.Outcome.next (match s.headEntry with | some ⟨.overflow, t⟩ => s.takeHead.overflowMarker t | _ => s) = _
  rw [State.headEntry_eq on head]

/-! ## Losing synchronisation (R25, R35, R42) -/

/-- TRK's record after a loss of synchronisation (R25, R42). -/
def Trk.searching (k : Trk) (lastCrank : Option Time) (tPrev : Option Nat) (stallRef : Time) : Trk :=
  { k.unsynced with
    state := .seek, toothErrors := satInc 255 k.toothErrors, lastCrank := lastCrank, tPrev := tPrev, stallRef := some stallRef }

theorem State.loseSync_eq (s : State) (lastCrank : Option Time) (tPrev : Option Nat) (stallRef : Time) :
    s.loseSync lastCrank tPrev stallRef
      = ((s.leaveCycleSync.withTrk (·.searching lastCrank tPrev stallRef)).activate .syncLoss).withdraw .sync := rfl

theorem State.leaveCycleSync_of_ne {s : State} (away : s.trk.state ≠ .cycleSync) : s.leaveCycleSync = s := if_neg away

theorem State.loseSync_away {s : State} (away : s.trk.state ≠ .cycleSync) (lastCrank : Option Time) (tPrev : Option Nat)
    (stallRef : Time) : s.loseSync lastCrank tPrev stallRef
      = (State.activate { s with trk := s.trk.searching lastCrank tPrev stallRef } .syncLoss).withdraw .sync := by
  rw [State.loseSync, State.leaveCycleSync_of_ne away]
  rfl

/-- The loss of synchronisation from CYCLE_SYNC: the cams as CYCLE_SYNC's end leaves them, SYNC_LOSS active, no SYNC pending. -/
theorem State.loseSync_left {s : State} (sync : s.trk.state = .cycleSync) (lastCrank : Option Time) (tPrev : Option Nat)
    (stallRef : Time) :
    let u := s.loseSync lastCrank tPrev stallRef
    SyncLeft s u ∧ u.trk = s.trk.searching lastCrank tPrev stallRef ∧ u.cap = s.cap ∧ u.pwr = s.pwr ∧ u.line.slots.sync = false
      ∧ u.mon.get .syncLoss = (if s.active .syncLoss then s.mon.get .syncLoss
        else ⟨true, true, min 255 ((s.mon.get .syncLoss).count + 1)⟩)
      ∧ ∀ k, k ≠ .syncLoss → u.mon.get k = s.mon.get k := by
  have mon : s.leaveCycleSync.mon = s.mon := by simp
  have told : (s.loseSync lastCrank tPrev stallRef).mon
      = ((s.leaveCycleSync.withTrk (·.searching lastCrank tPrev stallRef)).activate .syncLoss).mon := by
    simp [State.loseSync_eq]
  simp only
  refine ⟨?_, by simp [State.loseSync_eq], by simp, by simp, by simp [State.loseSync_eq, Slots.set], ?_, fun k other => ?_⟩
  · rw [State.loseSync_eq]
    refine (SyncLeft.of_leave sync).then (line := ?_)
    rw [State.withdraw_line, State.activate_slots]
    rfl
  · rw [told, State.activate_get, State.withTrk_mon, mon]
    rfl
  · rw [told, State.activate_get_ne _ _ _ other, State.withTrk_mon, mon]

/-! ## The entry to STOPPED (R21) -/

/-- TRK's record in STOPPED (R21). -/
def Trk.halted (k : Trk) : Trk := { k.unsynced with state := .stopped, lastCrank := none, tPrev := none, stallRef := none }

/-- The stop timer as the tracker comes to STOPPED at `now` (R189). -/
def Pwr.stoppedAt (p : Pwr) (now : Time) : Pwr :=
  { p with stopTimer := if p.power = .run then some ⟨now, 4000000⟩ else p.stopTimer }

theorem State.stopTimerOnStopped_pwr (s : State) : s.stopTimerOnStopped.pwr = s.pwr.stoppedAt s.now := by
  unfold State.stopTimerOnStopped Pwr.stoppedAt
  by_cases run : s.pwr.power = .run
  · simp [run]
  · simp [run]

theorem State.stopTimerOnStopped_eq (s : State) : s.stopTimerOnStopped = s.withPwr (·.stoppedAt s.now) :=
  State.eq_of_blocks (pwr := s.stopTimerOnStopped_pwr)

/-- PWR and TRK have no part in a change of MON's records. -/
theorem State.deactivate_withPwr (s : State) (f : Pwr → Pwr) (k : Cond) :
    (s.deactivate k).withPwr f = (s.withPwr f).deactivate k := by
  simp only [State.deactivate, State.changeMon, apply_ite (fun t : State => t.withPwr f)]
  rfl

theorem State.deactivate_withTrk (s : State) (f : Trk → Trk) (k : Cond) :
    (s.deactivate k).withTrk f = (s.withTrk f).deactivate k := by
  simp only [State.deactivate, State.changeMon, apply_ite (fun t : State => t.withTrk f)]
  rfl

theorem State.enterStopped_eq (s : State) : s.enterStopped
    = (((s.leaveCycleSync.withTrk Trk.halted).deactivate .syncLoss).withdraw .sync).withPwr (·.stoppedAt s.now) := by
  show ((((s.leaveCycleSync.withTrk Trk.halted).deactivate .syncLoss).withdraw .sync).stopTimerOnStopped) = _
  rw [State.stopTimerOnStopped_eq]
  simp

theorem State.enterStopped_away {s : State} (away : s.trk.state ≠ .cycleSync) : s.enterStopped
    = (State.deactivate { s with trk := s.trk.halted, pwr := s.pwr.stoppedAt s.now } .syncLoss).withdraw .sync := by
  rw [State.enterStopped_eq, State.leaveCycleSync_of_ne away]
  exact congrArg (State.withdraw · .sync) (State.deactivate_withPwr (s.withTrk Trk.halted) (·.stoppedAt s.now) .syncLoss)

/-- The entry to STOPPED: SYNC_LOSS ends, no SYNC is pending, and from CYCLE_SYNC the cams are as its end leaves them. -/
theorem State.enterStopped_left (s : State) :
    (s.trk.state = .cycleSync → SyncLeft s s.enterStopped) ∧ s.enterStopped.trk = s.trk.halted
      ∧ s.enterStopped.pwr = s.pwr.stoppedAt s.now
      ∧ s.enterStopped.line.slots.sync = false
      ∧ s.enterStopped.mon.get .syncLoss = { s.mon.get .syncLoss with active := false }
      ∧ ∀ k, k ≠ .syncLoss → s.enterStopped.mon.get k = s.mon.get k := by
  have mon : s.leaveCycleSync.mon = s.mon := by simp
  have told : s.enterStopped.mon = ((s.leaveCycleSync.withTrk Trk.halted).deactivate .syncLoss).mon := by
    rw [State.enterStopped_eq]
    simp
  refine ⟨fun sync => ?_, by simp [State.enterStopped_eq], by simp [State.enterStopped_eq],
    by simp [State.enterStopped_eq, Slots.set], ?_, fun k other => ?_⟩
  · rw [State.enterStopped_eq]
    refine (SyncLeft.of_leave sync).then (line := ?_)
    rw [State.withPwr_line, State.withdraw_line, State.deactivate_slots]
    rfl
  · rw [told, State.deactivate_get, State.withTrk_mon, mon]
  · rw [told, State.deactivate_get_ne _ _ _ other, State.withTrk_mon, mon]

/-! ## CRANK entries (R20 to R25) -/

theorem Trk.late_of_none {k : Trk} {t : Time} (none : k.lastCrank = none) : k.late t = false := by rw [Trk.late, none]

theorem Trk.late_of_some {k : Trk} {t last : Time} (some : k.lastCrank = some last) :
    k.late t = decide (400000 ≤ elapsed t last) := by rw [Trk.late, some]

theorem State.crankEntry_in_time {s : State} {t : Time} (in_time : s.trk.late t = false) : s.crankEntry t
    = match s.trk.state with
      | .stopped => s.crankInStopped t
      | .seek => s.crankInSeek t
      | .crankSync => s.crankInSync t
      | .cycleSync => s.crankInSync t := by
  rw [State.crankEntry, in_time]
  rfl

theorem State.crankEntry_of_stopped {s : State} {t : Time} (in_time : s.trk.late t = false) (stopped : s.trk.state = .stopped) :
    s.crankEntry t = s.crankInStopped t := by rw [State.crankEntry_in_time in_time, stopped]

theorem State.crankEntry_of_seek {s : State} {t : Time} (in_time : s.trk.late t = false) (seek : s.trk.state = .seek) :
    s.crankEntry t = s.withTrk (·.search t) := by rw [State.crankEntry_in_time in_time, seek, State.crankInSeek]

theorem Trk.search_first {k : Trk} {t : Time} (first : k.lastCrank = none) : k.search t = k.seekAt t k.tPrev := by
  rw [Trk.search, first]

theorem Trk.search_below {k : Trk} {t last : Time} (known : k.lastCrank = some last)
    (below : k.tPrev = none ∨ ∃ prev, k.tPrev = some prev ∧ elapsed t last < 2 * prev) :
    k.search t = k.seekAt t (some (elapsed t last)) := by
  rcases below with none | ⟨prev, before, short⟩
  · rw [Trk.search, known, none]
  · rw [Trk.search, known, before]
    exact if_neg (Nat.not_le.mpr short)

theorem Trk.search_gap {k : Trk} {t last : Time} {prev : Nat} (known : k.lastCrank = some last) (before : k.tPrev = some prev)
    (gap : 2 * prev ≤ elapsed t last) : k.search t = k.gapFound t (elapsed t last) := by
  rw [Trk.search, known, before]
  exact if_pos gap

theorem State.crankEntry_of_sync {s : State} {t : Time} (in_time : s.trk.late t = false)
    (sync : s.trk.state = .crankSync ∨ s.trk.state = .cycleSync) : s.crankEntry t = s.crankInSync t := by
  rw [State.crankEntry_in_time in_time]
  rcases sync with state | state <;> rw [state]

theorem Trk.sinceTooth_eq {k : Trk} {t t0 : Time} (some : k.toothTime = some t0) : k.sinceTooth t = elapsed t t0 := by
  rw [Trk.sinceTooth, some]
  rfl

/-- The limits of R23 for a tooth and of R24 for a gap, on an interval after the last tooth. -/
def Trk.passes (k : Trk) (span : Nat) : Prop :=
  if k.tooth < 21 then k.pitch ≤ 2 * span ∧ span < 2 * k.pitch else 2 * k.pitch ≤ span ∧ span < 5 * k.pitch

theorem State.crankInSync_fails {s : State} {t : Time} (fails : ¬s.trk.passes (s.trk.sinceTooth t)) :
    s.crankInSync t = s.loseSync (some t) (some (s.trk.sinceTooth t)) t := by
  unfold State.crankInSync
  unfold Trk.passes at fails
  by_cases normal : s.trk.tooth < 21
  · rw [if_pos normal] at fails
    simp only [if_pos normal, if_neg fails]
  · rw [if_neg normal] at fails
    simp only [if_neg normal, if_neg fails]

theorem State.crankInSync_tooth {s : State} {t : Time} (normal : s.trk.tooth < 21) (passes : s.trk.passes (s.trk.sinceTooth t)) :
    s.crankInSync t
      = (s.withTrk (fun k => (k.accept (k.tooth + 1) t (s.trk.sinceTooth t)).toothSpeed)).reportAtTooth11 := by
  unfold State.crankInSync
  unfold Trk.passes at passes
  rw [if_pos normal] at passes
  simp only [if_pos normal, if_pos passes]

theorem State.crankInSync_gap {s : State} {t : Time} (last : ¬s.trk.tooth < 21) (passes : s.trk.passes (s.trk.sinceTooth t)) :
    s.crankInSync t = (s.withTrk (·.accept 0 t (s.trk.sinceTooth t / 3))).completeRevolution t := by
  unfold State.crankInSync
  unfold Trk.passes at passes
  rw [if_neg last] at passes
  simp only [if_neg last, if_pos passes]

theorem Trk.toothSpeed_eq (k : Trk) :
    k.toothSpeed = { k with rpm := if k.revComplete then k.rpm else rpmOfPitch k.pitch } := by
  unfold Trk.toothSpeed
  by_cases whole : k.revComplete = true
  · rw [if_pos whole, if_pos whole]
  · rw [if_neg whole, if_neg whole]

theorem State.reportAtTooth11_eq (s : State) : s.reportAtTooth11 = { s with
    line := { s.line with slots := { s.line.slots with
      sync := if s.trk.tooth = 11 ∧ s.trk.state = .cycleSync ∧ s.trk.adopted = false ∧ s.trk.rpm < 4000
        then true else s.line.slots.sync } } } := by
  unfold State.reportAtTooth11
  split <;> rfl

/-- The search begun again by a late entry (R21): as if the stall timeout had come first. -/
def Trk.restarted (k : Trk) (t : Time) : Trk :=
  { k.unsynced with state := .seek, lastCrank := some t, tPrev := none, stallRef := some t }

theorem State.lateEntry_away {s : State} {t : Time} (away : s.trk.state ≠ .cycleSync) : s.enterStopped.crankInStopped t
    = (State.deactivate { s with trk := s.trk.restarted t, pwr := { s.pwr with stopTimer := none } } .syncLoss).withdraw .sync := by
  rw [State.enterStopped_away away]
  have search := State.deactivate_withTrk { s with trk := s.trk.halted, pwr := { s.pwr with stopTimer := none } }
    (fun k => { k with state := .seek, lastCrank := some t, stallRef := some t }) .syncLoss
  have timer := State.deactivate_withPwr { s with trk := s.trk.halted, pwr := s.pwr.stoppedAt s.now }
    (fun p => { p with stopTimer := none }) .syncLoss
  calc
    _ = ((((State.deactivate { s with trk := s.trk.halted, pwr := s.pwr.stoppedAt s.now } .syncLoss).withPwr
          (fun p => { p with stopTimer := none })).withTrk
          (fun k => { k with state := .seek, lastCrank := some t, stallRef := some t })).withdraw .sync) := rfl
    _ = _ := by
      rw [timer]
      exact congrArg (State.withdraw · .sync) search

theorem State.lateEntry_left {s : State} {t : Time} (sync : s.trk.state = .cycleSync) :
    let u := s.enterStopped.crankInStopped t
    SyncLeft s u ∧ u.trk = s.trk.restarted t ∧ u.cap = s.cap ∧ u.pwr = { s.pwr with stopTimer := none } ∧ u.line.slots.sync = false
      ∧ u.mon.get .syncLoss = { s.mon.get .syncLoss with active := false }
      ∧ ∀ k, k ≠ .syncLoss → u.mon.get k = s.mon.get k := by
  obtain ⟨left, trk, pwr, slot, ended, others⟩ := s.enterStopped_left
  refine ⟨(left sync).then (line := rfl), ?_, by simp, ?_, slot, ended, others⟩
  · simp [State.crankInStopped, trk, Trk.halted, Trk.restarted]
  · simp [State.crankInStopped, State.stopTimerOff, pwr, Pwr.stoppedAt]

/-- Settles O31: the entry leaves the FIFO (`exec_takeCrankEntry`), and each tracker state takes it by its rule. -/
theorem crankEntryIsHandledByState : Obligations.CrankEntryIsHandledByState := by
  intro s t rest on no_loss head
  have taken := exec_takeCrankEntry on no_loss head
  have in_time {last : Time} (known : s.trk.lastCrank = some last) (soon : elapsed t last < 400000) :
      (s.took rest).trk.late t = false := by
    rw [State.took_trk, Trk.late_of_some known]
    simpa using soon
  refine ⟨fun stopped first => ?_, fun seek first => ?_, fun last known soon seek => ⟨fun below => ?_, fun prev before gap => ?_⟩,
    fun last known soon t0 tooth sync => ?_, fun last known late => ⟨fun away => ?_, fun sync => ?_⟩⟩
  · exact taken.trans (congrArg Host.Outcome.next (State.crankEntry_of_stopped (Trk.late_of_none first) stopped))
  · refine taken.trans (congrArg Host.Outcome.next ((State.crankEntry_of_seek (s := s.took rest) (Trk.late_of_none first) seek).trans ?_))
    rw [State.withTrk, State.took_trk, Trk.search_first first]
    rfl
  · refine taken.trans (congrArg Host.Outcome.next ((State.crankEntry_of_seek (in_time known soon) seek).trans ?_))
    rw [State.withTrk, State.took_trk, Trk.search_below known below]
    rfl
  · refine taken.trans (congrArg Host.Outcome.next ((State.crankEntry_of_seek (in_time known soon) seek).trans ?_))
    rw [State.withTrk, State.took_trk, Trk.search_gap known before gap]
    rfl
  · have since : s.trk.sinceTooth t = elapsed t t0 := Trk.sinceTooth_eq tooth
    have entry := taken.trans (congrArg Host.Outcome.next (State.crankEntry_of_sync (in_time known soon) sync))
    refine ⟨fun normal passes => ?_, fun fails crankSync => ?_, fun fails cycleSync => ?_⟩
    · have accepted := State.crankInSync_tooth (s := s.took rest) (t := t) normal (by rw [State.took_trk, since]; exact passes)
      rw [entry, accepted, State.reportAtTooth11_eq]
      simp only [State.withTrk, Trk.toothSpeed_eq, Trk.accept, since, State.took_trk, Nat.reduceEqDiff]
      rfl
    · have lost := State.crankInSync_fails (s := s.took rest) (t := t) (by rw [State.took_trk, since]; exact fails)
      rw [entry, lost, State.loseSync_away (by simp [crankSync]), State.took_trk, since]
      rfl
    · have lost := State.crankInSync_fails (s := s.took rest) (t := t) (by rw [State.took_trk, since]; exact fails)
      rw [entry, lost, State.took_trk, since]
      obtain ⟨left, trk, cap, pwr, slot, told, others⟩ :=
        State.loseSync_left (s := s.took rest) cycleSync (some t) (some (elapsed t t0)) t
      exact ⟨_, rfl, left.of_cap, trk, cap, pwr, slot, told, others⟩
  · have late_entry : (s.took rest).trk.late t = true := by
      rw [State.took_trk, Trk.late_of_some known]
      simpa using late
    rw [taken, State.crankEntry, if_pos late_entry, State.lateEntry_away (s := s.took rest) away]
    rfl
  · have late_entry : (s.took rest).trk.late t = true := by
      rw [State.took_trk, Trk.late_of_some known]
      simpa using late
    rw [taken, State.crankEntry, if_pos late_entry]
    obtain ⟨left, trk, cap, pwr, slot, told, others⟩ := State.lateEntry_left (s := s.took rest) (t := t) sync
    exact ⟨_, rfl, left.of_cap, trk, cap, pwr, slot, told, others⟩

/-! ## OVERFLOW markers (R42) and the stall timeout (R21) -/

theorem State.stallDue_of {s : State} {r : Time} (on : s.operating = true) (known : s.trk.stallRef = some r)
    (due : 400000 ≤ elapsed s.now r) (moving : s.trk.state ≠ .stopped) : s.stallDue = true := by
  simp [State.stallDue, on, known, due, moving]

theorem State.enterStopped_phmOf (s : State) (c : Cam) : s.enterStopped.phmOf c = s.leaveCycleSync.phmOf c := by
  rw [State.enterStopped_eq]
  exact State.phmOf_of_phm (s := s.leaveCycleSync) (by simp) c

/-- Settles O33: as a tooth that fails, and as the entry to STOPPED (`State.enterStopped_left`). -/
theorem overflowAndStallAbandonSync : Obligations.OverflowAndStallAbandonSync := by
  refine ⟨fun s t rest on no_loss head => ?_, fun s r on known due moving => ?_⟩
  · have taken := exec_takeOverflowMarker on no_loss head
    refine ⟨fun unsynced => ?_, fun crankSync => ?_, fun cycleSync => ?_⟩
    · rcases unsynced with state | state
      · have marked : (s.took rest).overflowMarker t = ((s.took rest).withTrk (fun k => { k with
            state := .seek, lastCrank := none, tPrev := none, stallRef := some t })).stopTimerOff := by
          rw [State.overflowMarker, State.took_trk, state]
        rw [taken, marked, if_pos state]
        rfl
      · have marked : (s.took rest).overflowMarker t
            = (s.took rest).withTrk (fun k => { k with lastCrank := none, tPrev := none, stallRef := some t }) := by
          rw [State.overflowMarker, State.took_trk, state]
        rw [taken, marked, if_neg (by simp [state]), ← state]
        rfl
    · have marked : (s.took rest).overflowMarker t = (s.took rest).loseSync s.trk.lastCrank none t := by
        rw [State.overflowMarker, State.took_trk, crankSync]
      rw [taken, marked, State.loseSync_away (by simp [crankSync])]
      rfl
    · have marked : (s.took rest).overflowMarker t = (s.took rest).loseSync s.trk.lastCrank none t := by
        rw [State.overflowMarker, State.took_trk, cycleSync]
      rw [taken, marked]
      obtain ⟨left, trk, cap, pwr, slot, told, others⟩ :=
        State.loseSync_left (s := s.took rest) cycleSync s.trk.lastCrank none t
      exact ⟨_, rfl, left.of_cap, trk, cap, pwr, slot, told, others⟩
  · have entered : exec .stallTimeout s = .next s.enterStopped := next_ite_pos (State.stallDue_of on known due moving)
    obtain ⟨left, trk, pwr, slot, ended, others⟩ := s.enterStopped_left
    refine ⟨fun away => ?_, s.enterStopped, entered, trk, pwr, ?_, slot, ended, others, left,
      fun sync c runs => ⟨?_, fun run before => ?_⟩, by simp, by simp, by simp, by simp, by simp, by simp⟩
    · rw [entered, State.enterStopped_away away]
      rfl
    · rw [State.active, ended]
    · by_cases stands : (s.camOf c).state = .off ∨ (s.camOf c).state = .faulted
      · rw [((left sync).stays c (.inr stands)).1]
        rcases stands with state | state <;> simp [state]
      · obtain ⟨off, faulted⟩ := not_or.mp stands
        rw [((left sync).off c runs off faulted).1, if_neg faulted]
    · rw [State.enterStopped_phmOf, State.leaveCycleSync_phmOf sync c fun _ => by simp [before]]
      simp [Phm.abandon, run, Phm.statusAfter, before]

end Sys2Proof.Machine
end

section
/-!
Cycle reports: their bytes, the record they are filed in, adoption and disagreement (R37 to R41).
-/

set_option Elab.async false

namespace Sys2Proof.Machine

/-! ## A change of one peer record -/

theorem List.find_map_of_station {l : List Peer} {g : Peer → Peer} (keeps : ∀ p, (g p).station = p.station) (m : Nat) :
    (l.map g).find? (fun p => decide (p.station = m)) = (l.find? (fun p => decide (p.station = m))).map g := by
  rw [List.find?_map]
  simp only [Function.comp_def, keeps]

/-- A change of the record of one station shows in that station's record alone. -/
theorem Shr.peer_onPeer (r : Shr) (n m : Nat) {f : Peer → Peer} (keeps : ∀ p, (f p).station = p.station) :
    (r.onPeer n f).peer m = if m = n then (r.peer m).map f else r.peer m := by
  have kept (p : Peer) : (if p.station = n then f p else p).station = p.station := by split <;> simp [keeps]
  show (r.peers.map _).find? _ = _
  rw [List.find_map_of_station kept]
  show (r.peer m).map _ = _
  cases found : r.peer m with
  | none => simp
  | some p =>
    have station : p.station = m := of_decide_eq_true (List.find?_some (p := fun q : Peer => decide (q.station = m)) found)
    simp only [Option.map_some, station]
    split <;> rfl

/-! ## The payload (R37, R39) -/

/-- The half of byte 3, none where it is out of range (R37). -/
def reportHalf : Nat → Option Half
  | 0 => some .a
  | 1 => some .b
  | _ => none

/-- The source of byte 4, none where it is out of range (R37). -/
def reportSource : Nat → Option ReportSource
  | 0 => some .camI
  | 1 => some .camE
  | 2 => some .adopted
  | 3 => some .controller
  | _ => none

theorem cycleReport_eq (payload : List Byte) : cycleReport payload
    = (reportHalf (payload.getD 0 0).toNat).bind (fun h => (reportSource (payload.getD 1 0).toNat).map (fun r => (h, r))) := by
  show (match reportHalf (payload.getD 0 0).toNat, reportSource (payload.getD 1 0).toNat with
    | some h, some r => some (h, r)
    | _, _ => none) = _
  cases reportHalf (payload.getD 0 0).toNat <;> cases reportSource (payload.getD 1 0).toNat <;> rfl

theorem reportHalf_eq_some (n : Nat) (h : Half) : reportHalf n = some h ↔ n = halfCode h := by
  unfold reportHalf halfCode
  split <;> cases h <;> simp_all

theorem reportSource_eq_some (n : Nat) (r : ReportSource) :
    reportSource n = some r ↔ n = r.code := by
  unfold reportSource ReportSource.code
  split <;> cases r <;> simp_all

theorem cycleReport_eq_some (payload : List Byte) (h : Half) (r : ReportSource) : cycleReport payload = some (h, r) ↔
    reportHalf (payload.getD 0 0).toNat = some h ∧ reportSource (payload.getD 1 0).toNat = some r := by
  rw [cycleReport_eq]
  cases reportHalf (payload.getD 0 0).toNat <;> cases reportSource (payload.getD 1 0).toNat <;> simp

/-! ## The take (R39 to R41) -/

theorem exec_cycleReport {s : State} {w : Received} (waits : s.waiting .sync = some w) :
    exec .cycleReport s = .next (s.freeOldest.takeReport w.frame.station w.frame.payload) := by
  show Host.Outcome.next (match s.waiting .sync with
    | some r => s.freeOldest.takeReport r.frame.station r.frame.payload
    | none => s) = _
  rw [waits]

theorem State.takeReport_of {s : State} {n : Nat} {payload : List Byte} {h : Half} {r : ReportSource}
    (report : cycleReport payload = some (h, r)) : s.takeReport n payload =
      if s.trk.adopts r then (s.fileReport n (h, r)).adopt h
      else if s.trk.disagrees h r then (s.fileReport n (h, r)).raiseEvent .cycleDisagree
      else s.fileReport n (h, r) := by
  rw [State.takeReport, report]
  rfl

theorem Trk.adopts_iff (k : Trk) (r : ReportSource) : k.adopts r = true ↔
    r ≠ .adopted ∧ k.state = .crankSync ∧ k.rpm < 4000 ∧ 12 ≤ k.tooth ∧ k.tooth ≤ 21 := by
  simp [Trk.adopts, Trk.reportWindow, and_assoc]

theorem Half.ne_iff (g h : Half) : g ≠ h ↔ g = h.next := by cases g <;> cases h <;> simp [Half.next]

theorem Trk.disagrees_iff (k : Trk) (h : Half) (r : ReportSource) : k.disagrees h r = true ↔
    (r = .camI ∨ r = .camE) ∧ k.state = .cycleSync ∧ k.adopted = false
      ∧ (k.rpm < 4000 ∧ 12 ≤ k.tooth ∧ k.tooth ≤ 21) ∧ k.half = some h.next := by
  simp [Trk.disagrees, Trk.reportWindow, and_assoc]

/-- Settles O34: the report is filed in the sender's record (`Shr.peer_onPeer`); `Trk.adopts_iff` and `Trk.disagrees_iff` say what
more follows. -/
theorem cycleReportIsAdopted : Obligations.CycleReportIsAdopted := by
  refine ⟨fun payload h r => ?_, fun s w waits => ⟨fun out => ?_, fun h r report known => ?_⟩⟩
  · rw [cycleReport_eq_some, reportHalf_eq_some, reportSource_eq_some]
    cases h <;> cases r <;> rfl
  · rw [exec_cycleReport waits, State.takeReport, out]
  · have taken := (exec_cycleReport waits).trans (congrArg Host.Outcome.next (State.takeReport_of report))
    refine ⟨fun source crankSync window => ?_, fun own source cycleSync clear window half => ⟨fun other => ?_, fun same => ?_⟩,
      fun idle => ?_⟩
    · have adopts : s.freeOldest.trk.adopts r = true := (Trk.adopts_iff _ _).mpr ⟨source, by simpa using crankSync, by simpa using window⟩
      rw [if_pos adopts] at taken
      have peers (m : Nat) : ((s.freeOldest.fileReport w.frame.station (h, r)).adopt h).shr.peer m
          = if m = w.frame.station then (s.shr.peer m).map (fun p => { p with report := some (h, r) }) else s.shr.peer m := by
        have same : ((s.freeOldest.fileReport w.frame.station (h, r)).adopt h).shr
            = s.shr.onPeer w.frame.station (fun p => { p with report := some (h, r) }) := by
          simp [State.adopt, State.startTally, State.fileReport]
        rw [same]
        exact Shr.peer_onPeer s.shr _ _ fun _ => rfl
      have mon : ∀ k, k ≠ .syncLoss → ((s.freeOldest.fileReport w.frame.station (h, r)).adopt h).mon.get k = s.mon.get k :=
        fun k other => by
          rw [State.adopt, State.deactivate_get_ne _ _ _ other]
          rfl
      refine ⟨_, taken, ?_, by simp [State.adopt], mon, fun p own => by rw [peers, if_pos rfl, own]; rfl, fun n other => by rw [peers, if_neg other],
        fun c => ?_, ?_⟩
      · simp [State.adopt, State.startTally, State.fileReport, satInc]
      · rw [State.adopt, State.phmOf_of_phm (State.deactivate_frame _ _).2.2.2.2.2.2.2.1]
        exact State.startTally_phmOf _ _ c
      · simp [State.adopt, State.startTally, State.fileReport]
    · have adopts : ¬s.freeOldest.trk.adopts r = true := fun yes => by
        simpa [cycleSync] using ((Trk.adopts_iff _ _).mp yes).2.1
      have disagrees : s.freeOldest.trk.disagrees h r = true := (Trk.disagrees_iff _ _ _).mpr
        ⟨source, by simpa using cycleSync, by simpa using clear, by simpa using window, by simpa [half] using (Half.ne_iff own h).mp other⟩
      rw [taken, if_neg adopts, if_pos disagrees]
      rfl
    · have adopts : ¬s.freeOldest.trk.adopts r = true := fun yes => by
        simpa [cycleSync] using ((Trk.adopts_iff _ _).mp yes).2.1
      have disagrees : ¬s.freeOldest.trk.disagrees h r = true := fun yes => by
        have opposite := ((Trk.disagrees_iff _ _ _).mp yes).2.2.2.2
        exact (Half.ne_iff own h).mpr (by simpa [half] using opposite) same
      rw [taken, if_neg adopts, if_neg disagrees]
      rfl
    · have adopts : ¬s.freeOldest.trk.adopts r = true := fun yes => by
        obtain ⟨source, state, window⟩ := (Trk.adopts_iff _ _).mp yes
        simp only [State.freeOldest_frame] at state window
        simp [source, state, window] at idle
      have disagrees : ¬s.freeOldest.trk.disagrees h r = true := fun yes => by
        obtain ⟨source, state, clear, window, -⟩ := (Trk.disagrees_iff _ _ _).mp yes
        simp only [State.freeOldest_frame] at state window clear
        rcases source with rfl | rfl <;> simp [state, window, clear] at idle
      rw [taken, if_neg adopts, if_neg disagrees]
      rfl

end Sys2Proof.Machine
end

section
/-!
The tracker's take of a cam entry, and what PHM makes of it (R29, R49 to R61).
-/

set_option Elab.async false

namespace Sys2Proof.Machine

/-! ## One meter replaced -/

/-- The state with this record in PHM for the cam. -/
def State.metered (s : State) (c : Cam) (p : Phm) : State := { s with phm := s.phm.set c p }

@[simp] theorem State.metered_phmOf (s : State) (c : Cam) (p : Phm) : (s.metered c p).phmOf c = p := PerCam.get_set _ _ _

@[simp] theorem State.metered_camOf (s : State) (c : Cam) (p : Phm) (d : Cam) : (s.metered c p).camOf d = s.camOf d := rfl

theorem State.onPhm_metered (s : State) (c : Cam) (p : Phm) (f : Phm → Phm) :
    (s.metered c p).onPhm c f = s.metered c (f p) := by cases c <;> rfl

theorem State.onPhm_eq_metered (s : State) (c : Cam) (f : Phm → Phm) : s.onPhm c f = s.metered c (f (s.phmOf c)) := rfl

theorem State.metered_self (s : State) (c : Cam) : s.metered c (s.phmOf c) = s := by
  unfold State.metered State.phmOf
  rw [PerCam.set_get]

/-! ## The steps of R49 -/

theorem State.canLearn_iff (s : State) (c : Cam) : s.canLearn c = true ↔
    (s.camOf c).state = .parked ∧ (s.camOf c).rested = true ∧ s.trk.state = .cycleSync ∧ s.trk.adopted = false
      ∧ 700 ≤ s.trk.rpm ∧ s.trk.rpm ≤ s.settings.rpmMaxLearn := decide_eq_true_iff

theorem State.autoLearns_iff {s : State} {c : Cam} (sync : s.trk.state = .cycleSync) : s.autoLearns c = true ↔
    (s.phmOf c).learnDone = false ∧ (s.phmOf c).status ≠ .learning ∧ (s.camOf c).state = .parked
      ∧ (s.camOf c).rested = true ∧ s.trk.adopted = false ∧ 700 ≤ s.trk.rpm ∧ s.trk.rpm ≤ s.settings.rpmMaxLearn := by
  simp only [State.autoLearns, Bool.and_eq_true, State.canLearn_iff, Bool.not_eq_true', decide_eq_true_iff, sync, true_and]
  tauto

theorem State.effectiveTarget_le (s : State) (c : Cam) : s.effectiveTarget c ≤ (s.camOf c).commanded := by
  unfold State.effectiveTarget
  simp only
  split_ifs <;> omega

/-- A review with the cam in FAULTED, or in PARKED with its target within the park band, moves nothing (R85, R89). -/
theorem State.review_stands {s : State} {c : Cam} (m : Option Measurement) (stands : (s.camOf c).state = .faulted
      ∨ ((s.camOf c).state = .parked ∧ (s.camOf c).commanded ≤ s.settings.parkBand)) : s.review c m = s := by
  unfold State.review
  split
  · rfl
  · rcases stands with state | ⟨state, low⟩
    · simp only [state]
    · have unwanted : s.releaseWanted c = false := by
        have := s.effectiveTarget_le c
        simp [State.releaseWanted, Nat.le_trans this low]
      simp [state, unwanted]

/-- There the measurement is recorded and nothing else happens (R55). -/
theorem State.measure_stands {s : State} {c : Cam} (m : Measurement) (stands : (s.camOf c).state = .faulted
      ∨ ((s.camOf c).state = .parked ∧ (s.camOf c).commanded ≤ s.settings.parkBand)) :
    s.measure c m = s.onPhm c (fun p => { p with measurement := some m }) := by
  unfold State.measure
  rw [State.review_stands (s := s.onPhm c _) (some m) stands]
  have resting : ¬((s.camOf c).state = .follow ∨ (s.camOf c).state = .parking) := by
    rcases stands with state | ⟨state, -⟩ <;> simp [state]
  exact if_neg resting

/-- PHM's record after steps 3 to 6 of R49, with no move of the cam. -/
def Phm.judged (p : Phm) (c : Cam) (found : Nat × Nat) (angle : Nat) (t : Time) : Phm :=
  let raw := rawDeviation c found.2 angle
  if -128 ≤ raw - p.offset ∧ raw - p.offset ≤ 928 then
    { p with
      tally := min 255 (p.tally + 1)
      measurement := some { phase := raw - p.offset, edge := found.1, angle := angle, raw := raw, time := t } }
  else { p with tally := min 255 (p.tally + 1), implausible := min 65535 (p.implausible + 1) }

theorem Phm.judged_learn (p : Phm) (c : Cam) (found : Nat × Nat) (angle : Nat) (t : Time) :
    (p.judged c found angle t).status = p.status ∧ (p.judged c found angle t).collector = p.collector := by
  unfold Phm.judged
  simp only
  split <;> exact ⟨rfl, rfl⟩

theorem State.identified_stands {s : State} {c : Cam} {p : Phm} {found : Nat × Nat} {angle : Nat} {t : Time}
    (stands : ¬(-128 ≤ rawDeviation c found.2 angle - p.offset ∧ rawDeviation c found.2 angle - p.offset ≤ 928)
      ∨ (s.camOf c).state = .faulted ∨ ((s.camOf c).state = .parked ∧ (s.camOf c).commanded ≤ s.settings.parkBand)) :
    (s.metered c p).identified c t angle found.1 found.2
      = (s.metered c (p.judged c found angle t)).collect c (rawDeviation c found.2 angle) := by
  unfold State.identified Phm.judged
  simp only [State.onPhm_metered, State.metered_phmOf, plausible, decide_eq_true_iff]
  split
  next valid =>
    have moves := stands.resolve_left (not_not_intro valid)
    rw [State.measure_stands (s := s.metered c _) _ moves, State.onPhm_metered]
    rfl
  next out => rfl

theorem State.collect_idle {s : State} {c : Cam} {raw : Int} (idle : (s.phmOf c).status ≠ .learning) : s.collect c raw = s :=
  if_neg idle

theorem State.collect_more {s : State} {c : Cam} {raw : Int} (run : (s.phmOf c).status = .learning)
    (fewer : (s.phmOf c).collector.length < 31) :
    s.collect c raw = s.onPhm c (fun p => { p with collector := p.collector ++ [raw] }) := by
  unfold State.collect
  rw [if_pos run]
  exact if_neg (by simp [State.onPhm_phmOf]; omega)

/-! ## The take (R29) -/

theorem exec_takeCamEntry {s : State} (on : s.operating = true) {c : Cam} {t : Time}
    {rest : List Entry} (head : s.cap.fifo = ⟨.cam c, t⟩ :: rest) : exec .takeCamEntry s = .next (s.takeHead.camEntry c t) := by
  show Host.Outcome.next (match s.headEntry with | some ⟨.cam c, t⟩ => s.takeHead.camEntry c t | _ => s) = _
  rw [State.headEntry_eq on head]

/-- The slot a take frees takes the marker of a loss (R8). -/
theorem State.takeHead_full {s : State} (loss : s.cap.overflowPending = true) {e : Entry} {rest : List Entry}
    (head : s.cap.fifo = e :: rest) (size : rest.length = 15) : s.takeHead = { s with
      cap := { s.cap with fifo := rest ++ [⟨.overflow, s.now⟩], overflowPending := false } } := by
  rw [State.takeHead, State.withCap, Cap.take, head, List.tail_cons, Cap.flushMarker, if_pos ⟨loss, by simp [size]⟩]

theorem State.camEntry_early {s : State} (c : Cam) (t : Time) (state : s.trk.state = .stopped ∨ s.trk.state = .seek) :
    s.camEntry c t = s := by
  unfold State.camEntry
  rcases state with state | state <;> rw [state]

theorem State.learnStart_eq {s : State} {c : Cam} (sync : s.trk.state = .cycleSync) : s.learnStart c = s.metered c
    (if (s.phmOf c).learnDone = false ∧ (s.phmOf c).status ≠ .learning ∧ (s.camOf c).state = .parked
        ∧ (s.camOf c).rested = true ∧ s.trk.adopted = false ∧ 700 ≤ s.trk.rpm ∧ s.trk.rpm ≤ s.settings.rpmMaxLearn
      then (s.phmOf c).startRun .automatic else s.phmOf c) := by
  unfold State.learnStart
  by_cases starts : s.autoLearns c = true
  · rw [if_pos starts, if_pos ((State.autoLearns_iff sync).mp starts)]
    rfl
  · rw [if_neg starts, if_neg fun all => starts ((State.autoLearns_iff sync).mpr all), State.metered_self]

/-- Settles O32: the entry leaves the FIFO, and the steps of R49 each replace the cam's meter (`State.learnStart_eq`,
`State.identified_stands`, `State.collect`). -/
theorem camEntryIsHandledByState : Obligations.CamEntryIsHandledByState := by
  refine ⟨fun s c t rest on loss head size state => ?_, fun s c t rest on no_loss head => ⟨fun state => ?_, fun state => ?_,
    fun h half t0 tooth sync => ?_⟩⟩
  · rw [exec_takeCamEntry on head, State.takeHead_full loss head size]
    exact congrArg Host.Outcome.next (State.camEntry_early c t state)
  · rw [exec_takeCamEntry on head, State.takeHead_plain no_loss head]
    exact congrArg Host.Outcome.next (State.camEntry_early c t state)
  · rw [exec_takeCamEntry on head, State.takeHead_plain no_loss head, State.camEntry, State.took_trk, state]
    rfl
  · have taken : exec .takeCamEntry s = .next (((s.took rest).countCam c).stampedEdge c t (s.trk.angleAt t)) := by
      rw [exec_takeCamEntry on head, State.takeHead_plain no_loss head, State.camEntry, State.took_trk, sync]
    have place : s.trk.angleAt t = cycleAngle h s.trk.tooth (elapsed t t0) s.trk.pitch := by
      rw [Trk.angleAt, half, Trk.sinceTooth_eq tooth]
      rfl
    intro angle starts p left
    have started : ((s.took rest).countCam c).learnStart c = ((s.took rest).countCam c).metered c p := State.learnStart_eq sync
    rw [place, State.stampedEdge, started] at taken
    refine ⟨fun outside => ?_, fun found inside => ?_⟩
    · rw [taken]
      show Host.Outcome.next (match identify c (s.camSettings c) angle with
        | none => (((s.took rest).countCam c).metered c p).onPhm c (fun p => { p with stray := satInc 65535 p.stray })
        | some (e, ref) => (((s.took rest).countCam c).metered c p).identified c t angle e ref) = _
      rw [outside, State.onPhm_metered]
      rfl
    · intro raw phase valid q stands
      have judged : exec .takeCamEntry s = .next ((((s.took rest).countCam c).metered c (p.judged c found angle t)).collect c raw) := by
        rw [taken, ← State.identified_stands (s := (s.took rest).countCam c) stands]
        show Host.Outcome.next (match identify c (s.camSettings c) angle with
          | none => (((s.took rest).countCam c).metered c p).onPhm c (fun p => { p with stray := satInc 65535 p.stray })
          | some (e, ref) => (((s.took rest).countCam c).metered c p).identified c t angle e ref) = _
        rw [inside]
      obtain ⟨status, collector⟩ := p.judged_learn c found angle t
      refine ⟨fun idle => ?_, fun run fewer => ?_, fun run => judged⟩
      · rw [judged, State.collect_idle (by rwa [State.metered_phmOf, status])]
        rfl
      · rw [judged, State.collect_more (by rwa [State.metered_phmOf, status]) (by rwa [State.metered_phmOf, collector]),
          State.onPhm_metered, collector]
        rfl

end Sys2Proof.Machine
end

section
/-!
The end of a cycle for each cam (R56, R57), and the completion of a revolution (R26 to R34).
-/

set_option Elab.async false

namespace Sys2Proof.Machine

/-! ## The end of a cycle for a cam (R56, R57) -/

/-- A bad cycle: seen whole, with fewer than 3 edges. -/
abbrev Phm.Bad (p : Phm) : Prop := p.wholeCycle = true ∧ p.tally < 3

/-- A good cycle: seen whole, with 3 edges or more. -/
abbrev Phm.Good (p : Phm) : Prop := p.wholeCycle = true ∧ 3 ≤ p.tally

def Phm.badRunAfter (p : Phm) : Nat := if p.Bad then min 2 (p.badRun + 1) else if p.Good then 0 else p.badRun

def Phm.goodRunAfter (p : Phm) : Nat := if p.Good then min 2 (p.goodRun + 1) else if p.Bad then 0 else p.goodRun

def Phm.badCyclesAfter (p : Phm) : Nat := if p.Bad then min 65535 (p.badCycles + 1) else p.badCycles

/-- CAM_SIGNAL_x after the cycle: two bad ones in a row make it active, two good ones end it. -/
def Phm.signalAfter (p : Phm) (was : Bool) : Bool :=
  if p.Bad ∧ p.badRunAfter = 2 then true else if p.Good ∧ p.goodRunAfter = 2 then false else was

theorem Phm.Good.not_bad {p : Phm} (good : p.Good) : ¬p.Bad := fun bad => Nat.not_le.mpr bad.2 good.2

theorem Phm.signalAfter_bad {p : Phm} (bad : p.Bad) (was : Bool) :
    p.signalAfter was = if min 2 (p.badRun + 1) = 2 then true else was := by
  have not_good : ¬p.Good := fun good => good.not_bad bad
  have run : p.badRunAfter = min 2 (p.badRun + 1) := if_pos bad
  unfold Phm.signalAfter
  rw [run, if_neg (c := p.Good ∧ _) fun both => not_good both.1]
  exact if_congr (and_iff_right bad) rfl rfl

theorem Phm.signalAfter_good {p : Phm} (good : p.Good) (was : Bool) :
    p.signalAfter was = if min 2 (p.goodRun + 1) = 2 then false else was := by
  have run : p.goodRunAfter = min 2 (p.goodRun + 1) := if_pos good
  unfold Phm.signalAfter
  rw [run, if_neg (c := p.Bad ∧ _) fun both => good.not_bad both.1]
  exact if_congr (and_iff_right good) rfl rfl

theorem Phm.signalAfter_uncounted {p : Phm} (not_bad : ¬p.Bad) (not_good : ¬p.Good) (was : Bool) : p.signalAfter was = was := by
  unfold Phm.signalAfter
  rw [if_neg fun both => not_bad both.1, if_neg fun both => not_good both.1]

/-- What R57 counts of the cycles of a cam. -/
def Phm.cycles (p : Phm) : Nat × Nat × Nat := (p.badRun, p.goodRun, p.badCycles)

theorem Phm.abandon_cycles (p : Phm) : p.abandon.cycles = p.cycles := by
  unfold Phm.abandon
  split <;> rfl

theorem State.camToOff_cycles (s : State) (c d : Cam) : ((s.camToOff c).phmOf d).cycles = (s.phmOf d).cycles := by
  rw [State.camToOff_phm]
  split
  · exact Phm.abandon_cycles _
  · rfl

/-- A cycle that counts for nothing, or is bad or good, is evaluated so (R57). -/
theorem State.cycleEndOf_cases (s : State) (c : Cam) : s.cycleEndOf c =
    (if (s.phmOf c).Bad then s.badCycle c else if (s.phmOf c).Good then s.goodCycle c else s).onPhm c
      (fun p => { p with tally := 0, wholeCycle := true }) := by
  unfold State.cycleEndOf
  by_cases whole : (s.phmOf c).wholeCycle = true
  · by_cases few : (s.phmOf c).tally < 3
    · have bad : (s.phmOf c).Bad := ⟨whole, few⟩
      rw [if_pos whole, if_pos few, if_pos bad]
    · have good : (s.phmOf c).Good := ⟨whole, Nat.not_lt.mp few⟩
      rw [if_pos whole, if_neg few, if_neg good.not_bad, if_pos good]
  · have not_bad : ¬(s.phmOf c).Bad := fun bad => whole bad.1
    have not_good : ¬(s.phmOf c).Good := fun good => whole good.1
    rw [if_neg whole, if_neg not_bad, if_neg not_good]

theorem State.badCycle_cycles (s : State) (c : Cam) : ((s.badCycle c).phmOf c).cycles
    = (min 2 ((s.phmOf c).badRun + 1), 0, min 65535 ((s.phmOf c).badCycles + 1)) := by
  unfold State.badCycle
  simp only
  split
  · rw [State.camToOff_cycles, State.phmOf_of_phm (State.activate_frame _ _).2.2.2.2.2.2.2.1, State.onPhm_phmOf]
    rfl
  · rw [State.onPhm_phmOf]
    rfl

theorem State.goodCycle_cycles (s : State) (c : Cam) : ((s.goodCycle c).phmOf c).cycles
    = (0, min 2 ((s.phmOf c).goodRun + 1), (s.phmOf c).badCycles) := by
  unfold State.goodCycle
  simp only
  split
  · rw [State.phmOf_of_phm (State.deactivate_frame _ _).2.2.2.2.2.2.2.1, State.onPhm_phmOf]
    rfl
  · rw [State.onPhm_phmOf]
    rfl

theorem State.cycleEndOf_cycles (s : State) (c : Cam) : ((s.cycleEndOf c).phmOf c).cycles
    = ((s.phmOf c).badRunAfter, (s.phmOf c).goodRunAfter, (s.phmOf c).badCyclesAfter) := by
  rw [State.cycleEndOf_cases, State.onPhm_phmOf]
  show (State.phmOf _ c).cycles = _
  unfold Phm.badRunAfter Phm.goodRunAfter Phm.badCyclesAfter
  by_cases bad : (s.phmOf c).Bad
  · have not_good : ¬(s.phmOf c).Good := fun good => good.not_bad bad
    simp only [if_pos bad, if_neg not_good]
    exact s.badCycle_cycles c
  · by_cases good : (s.phmOf c).Good
    · simp only [if_neg bad, if_pos good]
      exact s.goodCycle_cycles c
    · simp only [if_neg bad, if_neg good]
      rfl

/-- What the end of a cycle of cam `c` makes of the part. -/
structure CycleEnded (s t : State) (c : Cam) : Prop where
  cycles : (t.phmOf c).cycles = ((s.phmOf c).badRunAfter, (s.phmOf c).goodRunAfter, (s.phmOf c).badCyclesAfter)
  tally  : (t.phmOf c).tally = 0
  whole  : (t.phmOf c).wholeCycle = true
  signal : t.active (.camSignal c) = (s.phmOf c).signalAfter (s.active (.camSignal c))
  off    : (s.phmOf c).signalAfter (s.active (.camSignal c)) = true → s.active (.camSignal c) = false → s.goesOff c = true →
    (t.camOf c).state = .off ∧ (t.drvOf c).pending = 0

theorem State.active_of_mon {s t : State} (same : t.mon = s.mon) (k : Cond) : t.active k = s.active k := by
  unfold State.active
  rw [same]

/-- Two bad cycles in a row make CAM_SIGNAL_x active and take the cam to OFF (R57). -/
theorem State.badCycle_signal (s : State) (c : Cam) :
    (s.badCycle c).active (.camSignal c) = (if min 2 ((s.phmOf c).badRun + 1) = 2 then true else s.active (.camSignal c))
    ∧ (min 2 ((s.phmOf c).badRun + 1) = 2 → s.active (.camSignal c) = false → s.goesOff c = true →
      ((s.badCycle c).camOf c).state = .off ∧ ((s.badCycle c).drvOf c).pending = 0) := by
  let counted : State := s.onPhm c (fun p => { p with
    goodRun := 0, badRun := satInc 2 p.badRun, badCycles := satInc 65535 p.badCycles })
  have run : (counted.phmOf c).badRun = min 2 ((s.phmOf c).badRun + 1) := by rw [State.onPhm_phmOf]; rfl
  have judged : s.badCycle c = if min 2 ((s.phmOf c).badRun + 1) = 2 ∧ s.active (.camSignal c) = false
      then (counted.activate (.camSignal c)).camToOff c else counted := by
    rw [← run]
    rfl
  by_cases second : min 2 ((s.phmOf c).badRun + 1) = 2
  · cases was : s.active (.camSignal c) with
    | false =>
      have go : (counted.activate (.camSignal c)).goesOff c = s.goesOff c :=
        State.goesOff_of_blocks (by simp [counted]) (by rw [State.camOf_of_camc (s := s) (by simp [counted])])
      rw [judged, if_pos ⟨second, was⟩, if_pos second]
      refine ⟨?_, fun _ _ goes => ⟨?_, ?_⟩⟩
      · rw [State.active_of_mon (s := counted.activate (.camSignal c)) (by simp), State.activate_active]
      · rw [State.camToOff_camOf, if_pos ⟨rfl, go.trans goes⟩]
        rfl
      · rw [State.camToOff_drvOf, if_pos ⟨rfl, go.trans goes⟩]
    | true =>
      rw [judged, if_neg (by simp [was]), if_pos second]
      exact ⟨was, fun _ off => absurd off (by simp)⟩
  · rw [judged, if_neg fun both => second both.1, if_neg second]
    exact ⟨rfl, fun two => absurd two second⟩

/-- Two good cycles in a row end it (R57). -/
theorem State.goodCycle_signal (s : State) (c : Cam) : (s.goodCycle c).active (.camSignal c)
    = if min 2 ((s.phmOf c).goodRun + 1) = 2 then false else s.active (.camSignal c) := by
  have run : ((s.onPhm c (fun p => { p with badRun := 0, goodRun := satInc 2 p.goodRun })).phmOf c).goodRun
      = min 2 ((s.phmOf c).goodRun + 1) := by rw [State.onPhm_phmOf]; rfl
  unfold State.goodCycle
  simp only [run]
  split
  · exact State.deactivate_active _ _
  · rfl

theorem State.cycleEndOf_ended (s : State) (c : Cam) : CycleEnded s (s.cycleEndOf c) c := by
  refine ⟨s.cycleEndOf_cycles c, by rw [State.cycleEndOf, State.onPhm_phmOf], by rw [State.cycleEndOf, State.onPhm_phmOf], ?_,
    fun now_on was go => ?_⟩
  · rw [State.cycleEndOf_cases]
    show State.active _ _ = _
    by_cases bad : (s.phmOf c).Bad
    · rw [if_pos bad, Phm.signalAfter_bad bad]
      exact (s.badCycle_signal c).1
    · by_cases good : (s.phmOf c).Good
      · rw [if_neg bad, if_pos good, Phm.signalAfter_good good]
        exact s.goodCycle_signal c
      · rw [if_neg bad, if_neg good, Phm.signalAfter_uncounted bad good]
        rfl
  · rw [State.cycleEndOf_cases]
    by_cases bad : (s.phmOf c).Bad
    · rw [Phm.signalAfter_bad bad, was] at now_on
      rw [if_pos bad]
      exact (s.badCycle_signal c).2 (by simpa using now_on) was go
    · by_cases good : (s.phmOf c).Good
      · simp [Phm.signalAfter_good good, was] at now_on
      · simp [Phm.signalAfter_uncounted bad good, was] at now_on

theorem State.badCycle_other (s : State) {c d : Cam} (other : d ≠ c) :
    (s.badCycle c).phmOf d = s.phmOf d ∧ (s.badCycle c).camOf d = s.camOf d ∧ (s.badCycle c).drvOf d = s.drvOf d
    ∧ ∀ k, k ≠ .camSignal c → (s.badCycle c).active k = s.active k := by
  unfold State.badCycle
  simp only
  split
  · refine ⟨?_, ?_, ?_, fun k ne => ?_⟩
    · rw [State.camToOff_phm, if_neg fun both => other both.1, State.phmOf_of_phm (State.activate_frame _ _).2.2.2.2.2.2.2.1,
        State.onPhm_phmOf_ne _ _ _ _ other]
    · rw [State.camToOff_camOf, if_neg fun both => other both.1]
      exact State.camOf_of_camc (by simp) d
    · rw [State.camToOff_drvOf, if_neg fun both => other both.1]
      exact State.drvOf_of_drv (by simp) d
    · rw [State.active_of_mon (State.camToOff_frame _ _).2.2.2.2.2.2.2.2.2.1, State.activate_active_ne _ _ _ ne]
      rfl
  · exact ⟨State.onPhm_phmOf_ne _ _ _ _ other, rfl, rfl, fun _ _ => rfl⟩

theorem State.goodCycle_other (s : State) {c d : Cam} (other : d ≠ c) :
    (s.goodCycle c).phmOf d = s.phmOf d ∧ (s.goodCycle c).camOf d = s.camOf d ∧ (s.goodCycle c).drvOf d = s.drvOf d
    ∧ ∀ k, k ≠ .camSignal c → (s.goodCycle c).active k = s.active k := by
  unfold State.goodCycle
  simp only
  split
  · refine ⟨?_, State.camOf_of_camc (by simp) d, State.drvOf_of_drv (by simp) d, fun k ne => State.deactivate_active_ne _ _ _ ne⟩
    rw [State.phmOf_of_phm (State.deactivate_frame _ _).2.2.2.2.2.2.2.1, State.onPhm_phmOf_ne _ _ _ _ other]
  · exact ⟨State.onPhm_phmOf_ne _ _ _ _ other, rfl, rfl, fun _ _ => rfl⟩

/-- The end of a cam's cycle says nothing of the other cam, nor of any other condition. -/
theorem State.cycleEndOf_other (s : State) {c d : Cam} (other : d ≠ c) :
    (s.cycleEndOf c).phmOf d = s.phmOf d ∧ (s.cycleEndOf c).camOf d = s.camOf d ∧ (s.cycleEndOf c).drvOf d = s.drvOf d
    ∧ ∀ k, k ≠ .camSignal c → (s.cycleEndOf c).active k = s.active k := by
  rw [State.cycleEndOf_cases, State.onPhm_phmOf_ne _ _ _ _ other]
  show (State.phmOf _ d = _) ∧ State.camOf _ d = _ ∧ State.drvOf _ d = _ ∧ ∀ k, _ → State.active _ k = _
  split
  · exact s.badCycle_other other
  · split
    · exact s.goodCycle_other other
    · exact ⟨rfl, rfl, rfl, fun _ _ => rfl⟩

/-- The end of a cycle, for both cams (R57). -/
theorem State.cycleEnd_ended (s : State) (c : Cam) : CycleEnded s s.cycleEnd c := by
  obtain ⟨phm, cam, drv, active⟩ := s.cycleEndOf_other (c := .i) (d := .e) (by decide)
  cases c with
  | e =>
    have first : CycleEnded (s.cycleEndOf .i) s.cycleEnd .e := (s.cycleEndOf .i).cycleEndOf_ended .e
    have go : (s.cycleEndOf .i).goesOff .e = s.goesOff .e := State.goesOff_of_blocks (by simp) (by rw [cam])
    have signal := active (.camSignal .e) (by simp)
    exact ⟨by rw [← phm]; exact first.cycles, first.tally, first.whole, by rw [← phm, ← signal]; exact first.signal,
      by rw [← phm, ← signal, ← go]; exact first.off⟩
  | i =>
    obtain ⟨phm', cam', drv', active'⟩ := (s.cycleEndOf .i).cycleEndOf_other (c := .e) (d := .i) (by decide)
    have first := s.cycleEndOf_ended .i
    have signal : s.cycleEnd.active (.camSignal .i) = (s.cycleEndOf .i).active (.camSignal .i) := active' _ (by simp)
    have same : s.cycleEnd.phmOf .i = (s.cycleEndOf .i).phmOf .i ∧ s.cycleEnd.camOf .i = (s.cycleEndOf .i).camOf .i
        ∧ s.cycleEnd.drvOf .i = (s.cycleEndOf .i).drvOf .i := ⟨phm', cam', drv'⟩
    obtain ⟨phm'', cam'', drv''⟩ := same
    exact ⟨by rw [phm'']; exact first.cycles, by rw [phm'']; exact first.tally, by rw [phm'']; exact first.whole,
      by rw [signal]; exact first.signal, by rw [cam'', drv'']; exact first.off⟩

end Sys2Proof.Machine
end

section
/-!
The completion of a revolution: half decision, cycle check and what they make of the cams (R24, R26, R30 to R34).
-/

set_option Elab.async false

namespace Sys2Proof.Machine

/-! ## What the evaluation of the counts leaves alone -/

/-- The basis of the new revolution: its tooth 0, pitch, crank time and speed. -/
def Trk.basis (k : Trk) : Nat × Option Time × Nat × Option Time × Option Time × Nat × Bool :=
  (k.tooth, k.toothTime, k.pitch, k.lastCrank, k.stallRef, k.rpm, k.revComplete)

theorem State.evaluateCounts_basis (s : State) : s.evaluateCounts.trk.basis = s.trk.basis := by
  unfold State.evaluateCounts
  split
  · unfold State.cycleCheck
    simp only
    split_ifs <;> simp [Trk.basis, State.fallToCrankSync]
  · split
    · simp [Trk.basis, State.enterCycleSync]
    · unfold State.undecidedRevolution
      simp only
      split_ifs <;> simp [Trk.basis]

theorem State.revolutionCycleEnd_trk (s : State) : s.revolutionCycleEnd.trk = s.trk := by
  unfold State.revolutionCycleEnd
  split <;> simp

theorem State.completeRevolution_basis (s : State) (t : Time) :
    (s.completeRevolution t).trk.basis = (s.revolutionSpeed t).trk.basis := by
  have kept := (s.revolutionSpeed t).revolutionCycleEnd.evaluateCounts_basis
  rw [State.revolutionCycleEnd_trk] at kept
  exact kept

/-! ## The half decided in CRANK_SYNC (R30, R31) -/

theorem State.evaluateCounts_decided {s : State} {h : Half} (away : s.trk.state ≠ .cycleSync) (decided : s.decidedHalf = some h) :
    s.evaluateCounts = s.enterCycleSync h := by
  rw [State.evaluateCounts, if_neg away, decided]

theorem State.evaluateCounts_undecided {s : State} (away : s.trk.state ≠ .cycleSync) (none : s.decidedHalf = none) :
    s.evaluateCounts = s.undecidedRevolution := by
  rw [State.evaluateCounts, if_neg away, none]

theorem State.enterCycleSync_camOf (s : State) (h : Half) (c : Cam) : (s.enterCycleSync h).camOf c = s.camOf c :=
  State.camOf_of_camc (by simp [State.enterCycleSync, State.startTally]) c

theorem State.enterCycleSync_active (s : State) (h : Half) :
    (s.enterCycleSync h).active .syncLoss = false ∧ (s.enterCycleSync h).active .camPattern = false := by
  have told (k : Cond) : (s.enterCycleSync h).active k = (((s.withTrk (fun k => { k with
      state := .cycleSync, half := some h, adopted := false, cycleErrRun := 0, undecided := 0 })).deactivate
      .syncLoss).deactivate .camPattern).active k := rfl
  refine ⟨?_, ?_⟩
  · rw [told, State.deactivate_active_ne _ _ _ (by decide), State.deactivate_active]
  · rw [told, State.deactivate_active]

theorem State.undecidedRevolution_eq (s : State) : s.undecidedRevolution
    = if 3 ≤ s.trk.undecided
      then (s.withTrk (fun k => { k with half := none, undecided := satInc 255 k.undecided })).activate .camPattern
      else s.withTrk (fun k => { k with half := none, undecided := satInc 255 k.undecided }) := by
  unfold State.undecidedRevolution
  refine if_congr ?_ rfl rfl
  simp only [State.withTrk_trk, satInc]
  omega

/-! ## The cycle check (R33) -/

theorem State.cycleCheck_match {s : State} {h : Half} (half : s.trk.half = some h) (agrees : s.cycleMatches h = true) :
    s.cycleCheck
      = (s.withTrk (fun k => { k with cycleErrRun := 0, adopted := false, half := some h.next })).deactivate .camPattern := by
  unfold State.cycleCheck
  rw [half]
  exact if_pos agrees

theorem State.cycleCheck_first {s : State} {h : Half} (half : s.trk.half = some h) (differs : ¬s.cycleMatches h = true)
    (first : s.trk.cycleErrRun = 0) : s.cycleCheck
      = s.withTrk (fun k => { k with mismatches := satInc 65535 k.mismatches, cycleErrRun := 1, half := some h.next }) := by
  unfold State.cycleCheck
  rw [half]
  exact (if_neg differs).trans (if_pos first)

theorem State.cycleCheck_second {s : State} {h : Half} (half : s.trk.half = some h) (differs : ¬s.cycleMatches h = true)
    (second : s.trk.cycleErrRun ≠ 0) : s.cycleCheck
      = (s.withTrk (fun k => { k with mismatches := satInc 65535 k.mismatches })).fallToCrankSync := by
  unfold State.cycleCheck
  rw [half]
  exact (if_neg differs).trans (if_neg second)

/-! ## The fall to CRANK_SYNC (R33, R35) -/

theorem State.releaseCam_cycles (s : State) (c d : Cam) : ((s.releaseCam c).phmOf d).cycles = (s.phmOf d).cycles := by
  unfold State.releaseCam
  rw [State.camToOff_cycles, State.onPhm_phmOf_eq]
  split
  · exact Phm.abandon_cycles _
  · rfl

/-- Leaving CYCLE_SYNC restarts the tallies and keeps what R57 counts. -/
theorem State.leaveCycleSync_tallies {s : State} (sync : s.trk.state = .cycleSync) (c : Cam) :
    (s.leaveCycleSync.phmOf c).cycles = (s.phmOf c).cycles ∧ (s.leaveCycleSync.phmOf c).tally = 0
      ∧ (s.leaveCycleSync.phmOf c).wholeCycle = false := by
  rw [State.leaveCycleSync_of_sync sync, State.startTally_phmOf]
  refine ⟨?_, rfl, rfl⟩
  show (((s.releaseCam .i).releaseCam .e).phmOf c).cycles = _
  rw [State.releaseCam_cycles, State.releaseCam_cycles]

/-- What the fall to CRANK_SYNC makes of the part, from a state in CYCLE_SYNC. -/
structure FellToCrankSync (s u : State) : Prop where
  left    : SyncLeft s u
  state   : u.trk.state = .crankSync
  half    : u.trk.half = none
  pattern : u.active .camPattern = true
  others  : ∀ k, k ≠ .camPattern → u.active k = s.active k
  slot    : u.line.slots.sync = false
  missed  : u.trk.mismatches = s.trk.mismatches
  tallies : ∀ c, (u.phmOf c).cycles = (s.phmOf c).cycles ∧ (u.phmOf c).tally = 0 ∧ (u.phmOf c).wholeCycle = false

theorem State.fallToCrankSync_fell {s : State} (sync : s.trk.state = .cycleSync) : FellToCrankSync s s.fallToCrankSync := by
  have mon : ((s.leaveCycleSync.withTrk (fun k => { k with
      state := .crankSync, half := none, adopted := false, cycleErrRun := 0 })).withdraw .sync).mon = s.mon := by simp
  unfold State.fallToCrankSync
  refine ⟨(SyncLeft.of_leave sync).then (line := ?_), by simp, by simp, State.activate_active _ _, fun k other => ?_, ?_, by simp,
    fun c => ?_⟩
  · rw [State.activate_slots]
    rfl
  · rw [State.activate_active_ne _ _ _ other]
    exact State.active_of_mon mon k
  · obtain e | e := State.activate_line ((s.leaveCycleSync.withTrk (fun k => { k with
      state := .crankSync, half := none, adopted := false, cycleErrRun := 0 })).withdraw .sync) .camPattern <;> rw [e] <;> rfl
  · rw [State.phmOf_of_phm (s := s.leaveCycleSync) (by simp)]
    exact State.leaveCycleSync_tallies sync c

/-! ## The take (R24) -/

theorem exec_takeCrankEntry_gap {s : State} {t t0 last : Time} {rest : List Entry} (on : s.operating = true)
    (no_loss : s.cap.overflowPending = false) (head : s.cap.fifo = ⟨.crank, t⟩ :: rest) (known : s.trk.lastCrank = some last)
    (soon : elapsed t last < 400000) (time : s.trk.toothTime = some t0) (tooth : s.trk.tooth = 21)
    (least : 2 * s.trk.pitch ≤ elapsed t t0) (most : elapsed t t0 < 5 * s.trk.pitch)
    (sync : s.trk.state = .crankSync ∨ s.trk.state = .cycleSync) :
    exec .takeCrankEntry s = .next (((s.took rest).withTrk (·.accept 0 t (elapsed t t0 / 3))).completeRevolution t) := by
  have in_time : (s.took rest).trk.late t = false := by
    rw [State.took_trk, Trk.late_of_some known]
    simpa using soon
  have since : s.trk.sinceTooth t = elapsed t t0 := Trk.sinceTooth_eq time
  have last_tooth : ¬(s.took rest).trk.tooth < 21 := by simp [tooth]
  have passes : (s.took rest).trk.passes ((s.took rest).trk.sinceTooth t) := by
    rw [Trk.passes, if_neg last_tooth, State.took_trk, since]
    exact ⟨least, most⟩
  rw [exec_takeCrankEntry on no_loss head, State.crankEntry_of_sync in_time sync, State.crankInSync_gap last_tooth passes,
    State.took_trk, since]

/-! ## The obligation (R26) -/

theorem combineVerdicts_eq (a b : Option Half) : combineVerdicts a b = match a, b with
    | none, none => none
    | none, some g => some g
    | some h, none => some h
    | some h, some g => if h = g then some h else none := by cases a <;> cases b <;> rfl

theorem State.cycleMatches_iff (s : State) (h : Half) : s.cycleMatches h = true ↔
    s.trk.camCounts.get s.referenceCam = expectedCount (s.camSettings s.referenceCam) h := decide_eq_true_iff

/-- What the cycle check leaves of the cycles just evaluated. -/
structure CyclesKept (e v : State) (c : Cam) : Prop where
  cycles : (v.phmOf c).cycles = (e.phmOf c).cycles
  tally  : (e.phmOf c).tally = 0 → (v.phmOf c).tally = 0
  signal : v.active (.camSignal c) = e.active (.camSignal c)
  off    : (e.camOf c).state = .off → (e.drvOf c).pending = 0 → (v.camOf c).state = .off ∧ (v.drvOf c).pending = 0

theorem CyclesKept.of_blocks {e v : State} {c : Cam} (phm : v.phm = e.phm) (camc : v.camc = e.camc) (drv : v.drv = e.drv)
    (signal : v.active (.camSignal c) = e.active (.camSignal c)) : CyclesKept e v c where
  cycles := by rw [State.phmOf_of_phm phm]
  tally zero := by rwa [State.phmOf_of_phm phm]
  signal := signal
  off state pending := by
    rw [State.camOf_of_camc camc, State.drvOf_of_drv drv]
    exact ⟨state, pending⟩

theorem SyncLeft.keeps_off {e v : State} (h : SyncLeft e v) {c : Cam} (state : (e.camOf c).state = .off)
    (pending : (e.drvOf c).pending = 0) : (v.camOf c).state = .off ∧ (v.drvOf c).pending = 0 := by
  obtain ⟨cam, -, drv, -⟩ := h.stays c (.inr (.inl state))
  rw [cam, drv]
  exact ⟨state, pending⟩

theorem SyncLeft.state_off {e v : State} (h : SyncLeft e v) {c : Cam} (runs : e.machineRuns c = true)
    (faulted : (e.camOf c).state ≠ .faulted) : (v.camOf c).state = .off := by
  by_cases off : (e.camOf c).state = .off
  · rw [(h.stays c (.inr (.inl off))).1, off]
  · rw [(h.off c runs off faulted).1]

/-- The three outcomes of the cycle check, with the half `h` of the finished revolution (R33). -/
structure CycleChecked (e v : State) (h : Half) : Prop where
  agreed : e.cycleMatches h = true → v.trk.state = .cycleSync ∧ v.trk.half = some h.next ∧ v.trk.cycleErrRun = 0
    ∧ v.trk.adopted = false ∧ v.active .camPattern = false ∧ v.phm = e.phm
  first  : ¬e.cycleMatches h = true → e.trk.cycleErrRun = 0 → v.trk.state = .cycleSync ∧ v.trk.half = some h.next
    ∧ v.trk.cycleErrRun = 1 ∧ v.trk.mismatches = min 65535 (e.trk.mismatches + 1) ∧ v.phm = e.phm
  second : ¬e.cycleMatches h = true → e.trk.cycleErrRun ≠ 0 → v.trk.state = .crankSync ∧ v.trk.half = none
    ∧ v.active .camPattern = true ∧ v.line.slots.sync = false ∧ v.trk.mismatches = min 65535 (e.trk.mismatches + 1)
    ∧ SyncLeft e v ∧ ∀ c, (v.phmOf c).wholeCycle = false
  kept   : ∀ c, CyclesKept e v c

theorem State.cycleCheck_checked {e : State} {h : Half} (sync : e.trk.state = .cycleSync) (half : e.trk.half = some h) :
    CycleChecked e e.cycleCheck h := by
  by_cases agrees : e.cycleMatches h = true
  · rw [State.cycleCheck_match half agrees]
    refine ⟨fun _ => ⟨by simp [sync], by simp, by simp, by simp, State.deactivate_active _ _, by simp⟩, fun differs => absurd agrees differs,
      fun differs => absurd agrees differs, fun c => CyclesKept.of_blocks (by simp) (by simp) (by simp) ?_⟩
    exact State.deactivate_active_ne _ _ _ (by simp)
  · by_cases first : e.trk.cycleErrRun = 0
    · rw [State.cycleCheck_first half agrees first]
      exact ⟨fun same => absurd same agrees, fun _ _ => ⟨sync, rfl, rfl, rfl, rfl⟩, fun _ again => absurd first again,
        fun c => CyclesKept.of_blocks rfl rfl rfl rfl⟩
    · rw [State.cycleCheck_second half agrees first]
      have fell : FellToCrankSync (e.withTrk (fun k => { k with mismatches := satInc 65535 k.mismatches }))
        (e.withTrk (fun k => { k with mismatches := satInc 65535 k.mismatches })).fallToCrankSync :=
        State.fallToCrankSync_fell sync
      have left := fell.left.of_cap (s := e)
      exact ⟨fun same => absurd same agrees, fun _ zero => absurd zero first,
        fun _ _ => ⟨fell.state, fell.half, fell.pattern, fell.slot, fell.missed, left, fun c => (fell.tallies c).2.2⟩,
        fun c => ⟨(fell.tallies c).1, fun _ => (fell.tallies c).2.1, fell.others _ (by simp), left.keeps_off⟩⟩

/-- Settles O60: the tooth after the gap completes the revolution (`exec_takeCrankEntry_gap`), the cams' cycles are evaluated
(`State.cycleEnd_ended`), and the counts decide the half or check the cycle (`State.cycleCheck_checked`). -/
theorem gapCompletesTheRevolution : Obligations.GapCompletesTheRevolution := by
  intro s t rest last t0 on no_loss head known soon time tooth least most sync verdict decided ref agrees
  have taken := exec_takeCrankEntry_gap on no_loss head known soon time tooth least most sync
  generalize swift : ((s.took rest).withTrk (·.accept 0 t (elapsed t t0 / 3))).revolutionSpeed t = r
  have trk : r.trk = { s.trk with
      tooth := 0, toothTime := some t, pitch := elapsed t t0 / 3, lastCrank := some t, stallRef := some t
      rpm := min 20000 (120000000 / elapsed t s.trk.revStart), revComplete := true } := by rw [← swift]; rfl
  have completed : exec .takeCrankEntry s = .next ((r.revolutionCycleEnd.evaluateCounts).newRevolution t) := by
    rw [taken, ← swift]
    rfl
  have basis := (r.revolutionCycleEnd.evaluateCounts_basis).trans (congrArg Trk.basis (r.revolutionCycleEnd_trk.trans trk))
  simp only [Trk.basis, Prod.mk.injEq] at basis
  obtain ⟨tooth', time', pitch', last', stall', rpm', whole'⟩ := basis
  have blocks : r = { s with cap := { s.cap with fifo := rest }, trk := r.trk } := by rw [← swift]; rfl
  have active (k : Cond) : r.active k = s.active k := by rw [blocks]; rfl
  have cams (c : Cam) : r.phmOf c = s.phmOf c ∧ r.camOf c = s.camOf c ∧ r.machineRuns c = s.machineRuns c := by
    rw [blocks]; exact ⟨rfl, rfl, rfl⟩
  have mon : r.mon = s.mon := by rw [blocks]
  have counts : r.trk.camCounts = s.trk.camCounts := by rw [trk]
  have settings (c : Cam) : r.camSettings c = s.camSettings c := by rw [blocks]; rfl
  have left {u : State} (h : SyncLeft r u) : SyncLeft s u := by rw [blocks] at h; exact h.of_cap
  have idle_end (other : ¬(s.trk.state = .cycleSync ∧ s.trk.half = some .b)) : r.revolutionCycleEnd = r := by
    refine if_neg ?_
    rw [trk]
    exact other
  have decides : r.decidedHalf = decided := by
    rw [blocks, trk]
    exact combineVerdicts_eq (verdict .i) (verdict .e)
  refine ⟨_, completed, tooth', time', pitch', last', rpm', whole', rfl, rfl, stall', fun h crank now => ?_, fun crank none => ?_,
    fun cycle halfA => ?_, fun crank c => ?_, fun cycle halfB => ?_, ?_⟩
  · have away : r.trk.state ≠ .cycleSync := by simp [trk, crank]
    rw [idle_end (by simp [crank]), State.evaluateCounts_decided away (decides.trans now)]
    exact ⟨by simp [State.enterCycleSync, State.startTally, State.newRevolution],
      by simp [State.enterCycleSync, State.startTally, State.newRevolution],
      by simp [State.enterCycleSync, State.startTally, State.newRevolution],
      by simp [State.enterCycleSync, State.startTally, State.newRevolution], r.enterCycleSync_active h⟩
  · have away : r.trk.state ≠ .cycleSync := by simp [trk, crank]
    rw [idle_end (by simp [crank]), State.evaluateCounts_undecided away (decides.trans none), State.undecidedRevolution_eq]
    have undecided : r.trk.undecided = s.trk.undecided := by rw [trk]
    rw [undecided]
    split
    next fourth =>
      refine ⟨by simp [State.newRevolution, trk, crank], by simp [State.newRevolution], by simp [State.newRevolution, trk, satInc],
        fun _ => State.activate_active _ _, fun few => absurd few (by omega)⟩
    next few =>
      exact ⟨by simp [State.newRevolution, trk, crank], by simp [State.newRevolution], by simp [State.newRevolution, trk, satInc],
        fun fourth => absurd fourth few, fun _ => mon⟩
  · have sync' : r.trk.state = .cycleSync := by simp [trk, cycle]
    obtain ⟨agreed, first, second, -⟩ : CycleChecked r r.cycleCheck .a := State.cycleCheck_checked sync' (by simp [trk, halfA])
    have reference : r.referenceCam = ref := by rw [State.referenceCam, active]
    have judged : r.cycleMatches .a = true ↔ agrees := by
      rw [State.cycleMatches_iff, counts, settings, reference]
      rfl
    have run : r.trk.cycleErrRun = s.trk.cycleErrRun := by rw [trk]
    have missed : r.trk.mismatches = s.trk.mismatches := by rw [trk]
    rw [judged, run, missed] at first second
    rw [idle_end (by simp [halfA]), State.evaluateCounts, if_pos sync']
    refine ⟨fun same => ?_, fun differs once => ?_, fun differs twice => ?_⟩
    · obtain ⟨state, half, err, clear, pattern, -⟩ := agreed (judged.mpr same)
      exact ⟨state, half, err, clear, pattern⟩
    · obtain ⟨state, half, err, more, -⟩ := first differs once
      exact ⟨state, half, err, more⟩
    · obtain ⟨state, half, pattern, slot, more, fell, -⟩ := second differs twice
      have fell' : SyncLeft s (r.cycleCheck.newRevolution t) := (left fell).then (line := rfl)
      exact ⟨state, half, pattern, slot, more, fell', fun c runs faulted => fell'.state_off runs faulted⟩
  · have away : r.trk.state ≠ .cycleSync := by simp [trk, crank]
    rw [idle_end (by simp [crank])]
    refine Eq.trans ?_ (cams c).2.1
    show r.evaluateCounts.camOf c = r.camOf c
    cases decision : r.decidedHalf with
    | none =>
      rw [State.evaluateCounts_undecided away decision, State.undecidedRevolution_eq]
      refine State.camOf_of_camc ?_ c
      split <;> simp
    | some h =>
      rw [State.evaluateCounts_decided away decision]
      exact r.enterCycleSync_camOf h c
  · have ended : r.revolutionCycleEnd = r.cycleEnd := if_pos ⟨by simp [trk, cycle], by simp [trk, halfB]⟩
    have kept_trk : r.cycleEnd.trk = r.trk := by simp
    have sync' : r.cycleEnd.trk.state = .cycleSync := by simp [trk, cycle]
    obtain ⟨agreed, first, second, kept⟩ : CycleChecked r.cycleEnd r.cycleEnd.cycleCheck .b :=
      State.cycleCheck_checked sync' (by simp [trk, halfB])
    rw [ended, State.evaluateCounts, if_pos sync']
    intro whole bad good badRun goodRun signal refB agreesB
    have cycle_ended (c : Cam) : CycleEnded r r.cycleEnd c := r.cycleEnd_ended c
    have signalled (c : Cam) : r.cycleEnd.active (.camSignal c) = signal c := by
      rw [(cycle_ended c).signal, active, (cams c).1]
      rfl
    have reference : r.cycleEnd.referenceCam = refB := by rw [State.referenceCam, signalled]
    have judged : r.cycleEnd.cycleMatches .b = true ↔ agreesB := by
      have settings' : r.cycleEnd.camSettings refB = s.camSettings refB := by
        rw [← settings, State.camSettings, State.camSettings, State.cycleEnd_frame r |>.2.2.2.1]
      rw [State.cycleMatches_iff, kept_trk, counts, reference, settings']
      rfl
    have run : r.cycleEnd.trk.cycleErrRun = s.trk.cycleErrRun := by rw [kept_trk, trk]
    rw [judged, run] at first second
    refine ⟨fun c => ?_, fun same => ?_, fun differs once => ?_, fun differs twice => ?_⟩
    · obtain ⟨cycles, tally, signal', off⟩ := kept c
      have cycles' := cycles.trans (cycle_ended c).cycles
      rw [(cams c).1] at cycles'
      simp only [Phm.cycles, Prod.mk.injEq] at cycles'
      obtain ⟨bads, goods, total⟩ := cycles'
      refine ⟨bads, goods, total, tally (cycle_ended c).tally, signal'.trans (signalled c), fun on was runs control => ?_⟩
      have now_on := ((cycle_ended c).signal).symm.trans ((signalled c).trans on)
      have go : r.goesOff c = true := by
        rw [State.goesOff, (cams c).2.1, (cams c).2.2, runs, control]
        rfl
      obtain ⟨state, pending⟩ := (cycle_ended c).off now_on ((active _).trans was) go
      exact off state pending
    · obtain ⟨state, half, err, clear, pattern, phm⟩ := agreed (judged.mpr same)
      exact ⟨state, half, err, clear, pattern, fun c => (congrArg Phm.wholeCycle (State.phmOf_of_phm phm c)).trans (cycle_ended c).whole⟩
    · obtain ⟨state, half, err, -, phm⟩ := first differs once
      exact ⟨state, half, err, fun c => (congrArg Phm.wholeCycle (State.phmOf_of_phm phm c)).trans (cycle_ended c).whole⟩
    · obtain ⟨state, half, pattern, -, -, -, whole⟩ := second differs twice
      exact ⟨state, half, pattern, whole⟩
  · have rest_blocks : r.cap.fifo = rest ∧ r.scan = s.scan ∧ r.stored = s.stored ∧ r.settings = s.settings ∧ r.pwr = s.pwr := by
      rw [blocks]
      exact ⟨rfl, rfl, rfl, rfl, rfl⟩
    simpa using rest_blocks

end Sys2Proof.Machine
end

section
/-!
What the cam chain does to one cam and leaves of the other, the expiries of a cam machine, and the reviews (R70 to R88).
-/

set_option Elab.async false

namespace Sys2Proof.Machine

/-! ## Changes of one cam -/

/-- From `s` to `t` only the records of cam `c` change, and its demand; its commanded target stands. -/
structure OneCam (c : Cam) (s t : State) : Prop where
  target : (t.camOf c).commanded = (s.camOf c).commanded
  cam    : t.camOf c.other = s.camOf c.other
  phm    : t.phmOf c.other = s.phmOf c.other
  loop   : t.loopOf c.other = s.loopOf c.other
  drv    : t.drvOf c.other = s.drvOf c.other
  demand : t.shr.demand.get c.other = s.shr.demand.get c.other
  rest   : t = { s with
    phm := t.phm, camc := { s.camc with cams := t.camc.cams }, loop := t.loop, drv := t.drv
    shr := { s.shr with demand := t.shr.demand } }

theorem OneCam.refl (c : Cam) (s : State) : OneCam c s s := ⟨rfl, rfl, rfl, rfl, rfl, rfl, rfl⟩

theorem OneCam.trans {c : Cam} {s t u : State} (h : OneCam c s t) (k : OneCam c t u) : OneCam c s u := by
  refine ⟨k.target.trans h.target, k.cam.trans h.cam, k.phm.trans h.phm, k.loop.trans h.loop, k.drv.trans h.drv,
    k.demand.trans h.demand, ?_⟩
  have first := h.rest
  have second := k.rest
  calc u = { t with
        phm := u.phm, camc := { t.camc with cams := u.camc.cams }, loop := u.loop, drv := u.drv
        shr := { t.shr with demand := u.shr.demand } } := second
    _ = _ := (congrArg (fun v : State => { v with
        phm := u.phm, camc := { v.camc with cams := u.camc.cams }, loop := u.loop, drv := u.drv
        shr := { v.shr with demand := u.shr.demand } }) first :)

theorem Cam.other_ne (c : Cam) : c.other ≠ c := by cases c <;> decide

theorem State.enterCam_oneCam (s : State) (c : Cam) (new : CamState) (at_ : Time) : OneCam c s (s.enterCam c new at_) := by
  obtain ⟨own, -, -, -, cam, phm, loop, drv, camc, shr⟩ := s.enterCam_spec c new at_
  refine ⟨by rw [own]; rfl, cam, phm, loop, drv, ?_, State.eq_of_blocks (camc := camc) (shr := ?_)⟩
  · rw [shr]
    split
    · exact PerCam.get_set_other _ _ _
    · rfl
  · rw [shr]
    split <;> rfl

theorem State.onCam_oneCam (s : State) (c : Cam) {f : CamCtl → CamCtl} (target : ∀ k, (f k).commanded = k.commanded) :
    OneCam c s (s.onCam c f) :=
  ⟨by rw [State.onCam_camOf]; exact target _, State.onCam_camOf_ne _ _ _ _ (Cam.other_ne c), rfl, rfl, rfl, rfl, rfl⟩

theorem State.judgePark_oneCam (s : State) (c : Cam) (m : Measurement) : OneCam c s (s.judgePark c m) := by
  unfold State.judgePark
  split
  · exact s.onCam_oneCam c fun _ => rfl
  · split
    · exact s.onCam_oneCam c fun _ => rfl
    · split
      · exact s.enterCam_oneCam c _ _
      · exact OneCam.refl c s

/-! ## A review by the cam's state (R81, R83 to R87) -/

theorem State.review_idle {s : State} {c : Cam} (stopped : s.machineRuns c = false) (at_ : Option Measurement) :
    s.review c at_ = s := if_pos stopped

theorem State.review_off_at {s : State} {c : Cam} (runs : s.machineRuns c = true) (state : (s.camOf c).state = .off)
    (m : Measurement) : s.review c (some m)
      = if s.controllable c then (s.enterCam c .parking s.now).judgePark c m else s := by
  unfold State.review
  rw [if_neg (by simp [runs]), state]

theorem State.review_off {s : State} {c : Cam} (state : (s.camOf c).state = .off) : s.review c none = s := by
  unfold State.review
  split <;> simp [state]

theorem State.review_parking_at {s : State} {c : Cam} (runs : s.machineRuns c = true) (state : (s.camOf c).state = .parking)
    (m : Measurement) : s.review c (some m)
      = if s.releaseWanted c then s.enterCam c .follow s.now else s.judgePark c m := by
  unfold State.review
  rw [if_neg (by simp [runs]), state]

theorem State.review_parking {s : State} {c : Cam} (runs : s.machineRuns c = true) (state : (s.camOf c).state = .parking) :
    s.review c none = if s.releaseWanted c then s.enterCam c .follow s.now else s := by
  unfold State.review
  rw [if_neg (by simp [runs]), state]

theorem State.review_parked {s : State} {c : Cam} (runs : s.machineRuns c = true) (state : (s.camOf c).state = .parked)
    (at_ : Option Measurement) : s.review c at_ = if s.releaseWanted c then s.enterCam c .release s.now else s := by
  unfold State.review
  rw [if_neg (by simp [runs]), state]

theorem State.review_release {s : State} {c : Cam} (runs : s.machineRuns c = true) (state : (s.camOf c).state = .release)
    (at_ : Option Measurement) : s.review c at_
      = if s.effectiveTarget c ≤ s.settings.parkBand then s.enterCam c .parked s.now else s := by
  unfold State.review
  rw [if_neg (by simp [runs]), state]

theorem State.review_follow {s : State} {c : Cam} (runs : s.machineRuns c = true) (state : (s.camOf c).state = .follow)
    (at_ : Option Measurement) : s.review c at_ = if s.phasingAllowed c = false ∨ s.effectiveTarget c ≤ s.settings.parkBand
      then s.enterCam c .parking s.now else s := by
  unfold State.review
  rw [if_neg (by simp [runs]), state]

theorem State.review_faulted {s : State} {c : Cam} (state : (s.camOf c).state = .faulted) (at_ : Option Measurement) :
    s.review c at_ = s := State.review_stands at_ (.inl state)

theorem State.review_oneCam (s : State) (c : Cam) (at_ : Option Measurement) : OneCam c s (s.review c at_) := by
  have same := OneCam.refl c s
  have entry (new : CamState) (p : Bool) : OneCam c s (if p = true then s.enterCam c new s.now else s) := by
    split
    · exact s.enterCam_oneCam c new _
    · exact same
  cases runs : s.machineRuns c with
  | false => rw [State.review_idle runs]; exact same
  | true =>
    cases state : (s.camOf c).state with
    | off =>
      cases at_ with
      | none => rw [State.review_off state]; exact same
      | some m =>
        rw [State.review_off_at runs state]
        split
        · exact (s.enterCam_oneCam c _ _).trans (State.judgePark_oneCam _ c m)
        · exact same
    | parking =>
      cases at_ with
      | none => rw [State.review_parking runs state]; exact entry _ _
      | some m =>
        rw [State.review_parking_at runs state]
        split
        · exact s.enterCam_oneCam c _ _
        · exact s.judgePark_oneCam c m
    | parked => rw [State.review_parked runs state]; exact entry _ _
    | release =>
      rw [State.review_release runs state]
      split
      · exact s.enterCam_oneCam c _ _
      · exact same
    | follow =>
      rw [State.review_follow runs state]
      split
      · exact s.enterCam_oneCam c _ _
      · exact same
    | faulted => rw [State.review_faulted state]; exact same

end Sys2Proof.Machine
end

section
/-!
The reviews of a cam (R77, R81 to R87).
-/

set_option Elab.async false

namespace Sys2Proof.Machine

/-! ## The records of the cam that enters a state (R82) -/

theorem State.enterCam_own (s : State) (c : Cam) (new : CamState) (at_ : Time) :
    (s.enterCam c new at_).camOf c = s.enterCtl c new at_ (s.camOf c)
    ∧ (s.enterCam c new at_).loopOf c = s.enterLoop (s.camOf c).state new (s.loopOf c)
    ∧ (s.enterCam c new at_).drvOf c = s.enterDrv c new (s.drvOf c)
    ∧ (new.dropsDemand = true → (s.enterCam c new at_).shr.demand.get c = 0) := by
  obtain ⟨cam, -, loop, drv, -, -, -, -, -, shr⟩ := s.enterCam_spec c new at_
  refine ⟨cam, loop, drv, fun drops => ?_⟩
  rw [shr, if_pos drops, PerCam.get_set]

/-- The entries to PARKING and FOLLOW write no duty. -/
theorem State.enterCam_drv_kept (s : State) (c : Cam) {new : CamState} (new_state : new = .parking ∨ new = .follow) (at_ : Time) :
    (s.enterCam c new at_).drv = s.drv := by
  rw [State.enterCam_eq]
  show s.drv.set c (s.enterDrv c new (s.drvOf c)) = s.drv
  rcases new_state with rfl | rfl <;> exact PerCam.set_get _ _

theorem Phm.abandon_status {p : Phm} (fresh : p.statusBefore ≠ some .learning) : p.abandon.status ≠ .learning := by
  by_cases run : p.status = .learning
  · simp only [Phm.abandon, if_pos run, Phm.statusAfter]
    cases before : p.statusBefore with
    | none => nofun
    | some b => exact fun same => fresh (before.trans (congrArg some same))
  · rwa [Phm.abandon_of_idle run]

/-! ## The inputs of a review (R77, R81) -/

theorem State.controllable_iff (s : State) (c : Cam) : s.controllable c = true ↔
    s.trk.state = .cycleSync ∧ s.active (.camSignal c) = false ∧ s.active .supplyLow = false := by
  simp [State.controllable, and_assoc]

theorem State.phasingAllowed_iff (s : State) (c : Cam) : s.phasingAllowed c = true ↔
    (s.trk.state = .cycleSync ∧ s.active (.camSignal c) = false ∧ s.active .supplyLow = false)
      ∧ s.camc.mode ≠ .park ∧ s.camc.loss ≠ .lossPark ∧ s.settings.rpmMinPhase ≤ s.trk.rpm := by
  simp only [State.phasingAllowed, Bool.and_eq_true, decide_eq_true_iff, State.controllable_iff, and_assoc]

theorem State.releaseWanted_iff (s : State) (c : Cam) : s.releaseWanted c = true ↔
    s.phasingAllowed c = true ∧ s.settings.parkBand < s.effectiveTarget c := by
  simp only [State.releaseWanted, Bool.and_eq_true, decide_eq_true_iff]

theorem State.machineRuns_iff (s : State) (c : Cam) : s.machineRuns c = true ↔ s.own ≠ 0 ∧ (c = .e → s.straps.xcf = true) := by
  cases c <;> simp [State.machineRuns]

/-! ## The park settle (R84) -/

theorem State.judgePark_outside {s : State} {c : Cam} {m : Measurement} (out : s.settings.parkBand < m.phase.natAbs) :
    s.judgePark c m = s.onCam c (fun k => { k with settleStart := none }) := if_pos out

theorem State.judgePark_first {s : State} {c : Cam} {m : Measurement} (inside : m.phase.natAbs ≤ s.settings.parkBand)
    (none : (s.camOf c).settleStart = none) : s.judgePark c m = s.onCam c (fun k => { k with settleStart := some m.time }) := by
  unfold State.judgePark
  rw [if_neg (Nat.not_lt.mpr inside), none]

theorem State.judgePark_later {s : State} {c : Cam} {m : Measurement} {t0 : Time} (inside : m.phase.natAbs ≤ s.settings.parkBand)
    (some : (s.camOf c).settleStart = some t0) :
    s.judgePark c m = if 400000 ≤ elapsed m.time t0 then s.enterCam c .parked m.time else s := by
  unfold State.judgePark
  rw [if_neg (Nat.not_lt.mpr inside), some]

theorem State.onCam_eq (s : State) (c : Cam) (f : CamCtl → CamCtl) : s.onCam c f = { s with
    camc := { s.camc with cams := s.camc.cams.set c (f (s.camOf c)) } } := rfl

/-- The entry to PARKING at a measurement, with its first judgement of the park settle (R83, R84). -/
theorem State.enterParking_judged (s : State) (c : Cam) (m : Measurement) (off : (s.camOf c).state = .off) :
    let t := (s.enterCam c .parking s.now).judgePark c m
    t.camOf c = { s.camOf c with
      state := .parking, ramp := 0, parkedAt := none, rested := false, releaseExpiry := none, stuck := 0
      settleStart := if m.phase.natAbs ≤ s.settings.parkBand then some m.time else none }
    ∧ t.loopOf c = { s.loopOf c with settled := 0, lastUpdate := s.now, first := true } ∧ t.drv = s.drv := by
  obtain ⟨cam, loop, -, -⟩ := s.enterCam_own c .parking s.now
  have drv := s.enterCam_drv_kept c (.inl rfl) s.now (new := .parking)
  have band : (s.enterCam c .parking s.now).settings.parkBand = s.settings.parkBand := by simp
  have entered : (s.enterCam c .parking s.now).loopOf c
      = { s.loopOf c with settled := 0, lastUpdate := s.now, first := true } := by
    rw [loop]
    simp [State.enterLoop, off]
  simp only
  by_cases inside : m.phase.natAbs ≤ s.settings.parkBand
  · rw [State.judgePark_first (by rwa [band]) (by rw [cam]; rfl), if_pos inside]
    refine ⟨?_, entered, drv⟩
    rw [State.onCam_camOf, cam]
    rfl
  · rw [State.judgePark_outside (by rw [band]; omega), if_neg inside]
    refine ⟨?_, entered, drv⟩
    rw [State.onCam_camOf, cam]
    rfl

/-- Settles O59: `State.review_parking` and its fellows say what a review of a cam in each state does, and `State.enterCam_own` what
the entry writes. -/
theorem reviewsMoveTheCam : Obligations.ReviewsMoveTheCam := by
  intro s c demand cold unlearned target control allowed band wanted
  have allows : s.phasingAllowed c = true ↔ allowed := s.phasingAllowed_iff c
  have wants : s.releaseWanted c = true ↔ wanted := (s.releaseWanted_iff c).trans (and_congr_left fun _ => allows)
  refine ⟨⟨rfl, fun within => (s.effectiveTarget_le c).trans within, s.controllable_iff c, allows, wants, s.machineRuns_iff c⟩,
    fun idle at_ => State.review_idle idle at_, fun runs => ⟨fun m off => ⟨fun can => ?_, fun cannot => ?_⟩, State.review_off,
      fun m parking unwanted => ⟨fun out => ?_, fun inside none => ?_, fun t0 some inside => ?_⟩, fun parking unwanted => ?_,
      fun at_ => ⟨fun parking want => ?_, fun parked want => ?_, fun parked unwanted => ?_, fun release low => ?_,
        fun release high => ?_, fun follow ends => ?_, fun follow want => ?_, fun faulted => State.review_faulted faulted at_, ?_⟩⟩⟩
  · rw [State.review_off_at runs off, if_pos ((s.controllable_iff c).mpr can)]
    exact s.enterParking_judged c m off
  · rw [State.review_off_at runs off, if_neg fun can => cannot ((s.controllable_iff c).mp can)]
  · rw [State.review_parking_at runs parking, if_neg fun want => unwanted (wants.mp want), State.judgePark_outside out]
    rfl
  · rw [State.review_parking_at runs parking, if_neg fun want => unwanted (wants.mp want), State.judgePark_first inside none]
    rfl
  · rw [State.review_parking_at runs parking, if_neg fun want => unwanted (wants.mp want), State.judgePark_later inside some]
    refine ⟨fun settled => ?_, fun early => if_neg (by omega)⟩
    obtain ⟨cam, loop, drv, drops⟩ := s.enterCam_own c .parked m.time
    rw [if_pos settled, cam, loop, drv]
    exact ⟨rfl, rfl, rfl, rfl, drops rfl⟩
  · rw [State.review_parking runs parking, if_neg fun want => unwanted (wants.mp want)]
  · have moved : s.review c at_ = s.enterCam c .follow s.now := by
      cases at_ with
      | none => rw [State.review_parking runs parking, if_pos (wants.mpr want)]
      | some m => rw [State.review_parking_at runs parking, if_pos (wants.mpr want)]
    obtain ⟨cam, loop, -, -⟩ := s.enterCam_own c .follow s.now
    rw [moved, cam, loop]
    exact ⟨rfl, rfl, rfl, s.enterCam_drv_kept c (.inr rfl) s.now⟩
  · rw [State.review_parked runs parked, if_pos (wants.mpr want)]
    obtain ⟨cam, phm, -, drv, -⟩ := s.enterCam_spec c .release s.now
    rw [cam, phm, drv]
    exact ⟨rfl, rfl, rfl, fun fresh => by rw [if_pos ⟨parked, by decide⟩]; exact Phm.abandon_status fresh⟩
  · rw [State.review_parked runs parked, if_neg fun want => unwanted (wants.mp want)]
  · have low' : s.effectiveTarget c ≤ s.settings.parkBand := low
    rw [State.review_release runs release, if_pos low']
    obtain ⟨cam, -, drv, -⟩ := s.enterCam_own c .parked s.now
    rw [cam, drv]
    exact ⟨rfl, rfl, rfl⟩
  · have high' : s.settings.parkBand < s.effectiveTarget c := high
    rw [State.review_release runs release, if_neg (Nat.not_le.mpr high')]
  · have leaves : s.phasingAllowed c = false ∨ s.effectiveTarget c ≤ s.settings.parkBand :=
      ends.imp_left fun forbidden => Bool.eq_false_iff.mpr fun can => forbidden (allows.mp can)
    rw [State.review_follow runs follow, if_pos leaves]
    obtain ⟨cam, loop, -, -⟩ := s.enterCam_own c .parking s.now
    rw [cam, loop]
    exact ⟨rfl, rfl, rfl, rfl, s.enterCam_drv_kept c (.inl rfl) s.now⟩
  · have stays : ¬(s.phasingAllowed c = false ∨ s.effectiveTarget c ≤ s.settings.parkBand) := by
      obtain ⟨can, high⟩ := want
      rintro (cannot | low)
      · rw [allows.mpr can] at cannot
        exact absurd cannot (by decide)
      · exact Nat.not_le.mpr high low
    rw [State.review_follow runs follow, if_neg stays]
  · have one := s.review_oneCam c at_
    exact ⟨one.cam, one.drv, by simp, by simp⟩

end Sys2Proof.Machine
end

section
/-!
The expiries of the cam machines, the supply's two expiries, and the demand loss (R73 to R75, R79, R80, R86, R88, R153, R154).
-/

set_option Elab.async false

namespace Sys2Proof.Machine

theorem dueAt_of {timer : Option Timer} {d : Timer} {now : Time} (set : timer = some d) (due : d.len ≤ elapsed now d.start) :
    dueAt timer now = true := by
  rw [set]
  exact decide_eq_true due

/-! ## RELEASE_EXPIRY and RESTED_MARK (R80, R86) -/

theorem State.rampAtFollow_eq (s : State) (c : Cam) : s.rampAtFollow c = Int.toNat (match (s.phmOf c).measurement with
    | some m => max 0 (min ((s.camSettings c).limit : Int) m.phase)
    | none => 0) := by
  unfold State.rampAtFollow
  cases (s.phmOf c).measurement <;> rfl

/-- Settles O38: the entry to FOLLOW is `State.enterCam_eq`, whose duty and meter stand. -/
theorem camExpiriesAct : Obligations.CamExpiriesAct := by
  refine ⟨fun s c d runs release timer due => ?_, fun s c r parked unrested since due => ?_⟩
  · have at_end : s.releaseDue c = true := by simp [State.releaseDue, runs, release, dueAt_of timer due]
    have entered : exec (.releaseExpiry c) s = .next (s.enterCam c .follow s.now) := next_ite_pos at_end
    intro ramp
    have phm : s.phm.set c (if (s.camOf c).state = .parked ∧ CamState.follow ≠ .parked then (s.phmOf c).abandon else s.phmOf c)
        = s.phm := by
      rw [if_neg (by simp [release])]
      exact PerCam.set_get _ _
    have drv : s.drv.set c (s.enterDrv c .follow (s.drvOf c)) = s.drv := PerCam.set_get _ _
    rw [entered, State.enterCam_eq, phm, drv]
    simp only [State.enterCtl, State.rampAtFollow_eq, if_true, reduceCtorEq, if_false]
    rfl
  · have at_end : s.restedDue c = true := by simp [State.restedDue, parked, unrested, since, due]
    exact next_ite_pos at_end

/-! ## The supply (R88, R153, R154) -/

theorem State.goesOff_of_same {s t : State} (straps : t.straps = s.straps) (camc : t.camc = s.camc) (c : Cam) :
    t.goesOff c = s.goesOff c := State.goesOff_of_blocks straps (by rw [State.camOf_of_camc camc])

/-- Settles O43: each cam under control goes to OFF (`State.bothCamsToOff`). -/
theorem supplyExpiriesAct : Obligations.SupplyExpiriesAct := by
  refine ⟨fun s d timer due => ?_, fun s d timer due => next_ite_pos (dueAt_of timer due)⟩
  have low : exec .supplyLowExpiry s = .next s.supplyLowExpiry := next_ite_pos (dueAt_of timer due)
  let told : State := (s.withSupply (fun k => { k with lowExpiry := none })).activate .supplyLow
  have camc : told.camc = s.camc := by simp [told]
  have drv (c : Cam) : told.drvOf c = s.drvOf c := State.drvOf_of_drv (by simp [told]) c
  have cam (c : Cam) : told.camOf c = s.camOf c := State.camOf_of_camc camc c
  have goes (c : Cam) : told.goesOff c = s.goesOff c := State.goesOff_of_same (by simp [told]) camc c
  have mon : s.supplyLowExpiry.mon = told.mon := by simp [State.supplyLowExpiry, State.bothCams, told]
  refine ⟨_, low, ?_, by simp [State.supplyLowExpiry, State.bothCams], fun c runs control => ?_, fun c stands => ?_,
    fun k other => ?_, by simp, by simp, by simp, by simp, by simp, by simp⟩
  · rw [State.active_of_mon mon]
    exact State.activate_active _ _
  · have go : told.goesOff c = true := by rw [goes, State.goesOff, runs, control]; rfl
    obtain ⟨camOf, -, drvOf, -⟩ := told.bothCamsToOff c
    rw [if_pos go] at camOf drvOf
    show ((told.bothCams State.camToOff).camOf c).state = _ ∧ ((told.bothCams State.camToOff).drvOf c).pending = 0
      ∧ ((told.bothCams State.camToOff).drvOf c).applied = _
    rw [camOf, drvOf, drv]
    exact ⟨rfl, rfl, rfl⟩
  · have stay : ¬told.goesOff c = true := by
      rw [goes, State.goesOff_iff]
      rcases stands with state | state <;> simp [state]
    obtain ⟨camOf, -, drvOf, -⟩ := told.bothCamsToOff c
    rw [if_neg stay] at camOf drvOf
    exact ⟨camOf.trans (cam c), drvOf.trans (drv c)⟩
  · rw [mon, State.activate_get_ne _ _ _ other]
    rfl

/-! ## Demand loss (R73 to R75) -/

theorem Cam.other_other (c : Cam) : c.other.other = c := by cases c <;> rfl

theorem OneCam.camc {c : Cam} {s t : State} (h : OneCam c s t) : t.camc = { s.camc with cams := t.camc.cams } :=
  (congrArg State.camc h.rest :)

theorem OneCam.camOf_ne {c d : Cam} {s t : State} (h : OneCam c s t) (other : d ≠ c) : t.camOf d = s.camOf d := by
  obtain rfl := (Cam.eq_or_eq_other c d).resolve_left other
  exact h.cam

theorem OneCam.commanded {c : Cam} {s t : State} (h : OneCam c s t) (d : Cam) : (t.camOf d).commanded = (s.camOf d).commanded := by
  rcases Cam.eq_or_eq_other c d with rfl | rfl
  · exact h.target
  · rw [h.cam]

theorem State.reviewBoth_camc (s : State) : s.reviewBoth.camc = { s.camc with cams := s.reviewBoth.camc.cams } := by
  have first := (s.review_oneCam .i none).camc
  have second := ((s.review .i none).review_oneCam .e none).camc
  show ((s.review .i none).review .e none).camc = { s.camc with cams := ((s.review .i none).review .e none).camc.cams }
  rw [second, first]

/-- Each cam's part of the review of both: as its own review, after that of the other cam at most. -/
theorem State.reviewBoth_each (s : State) (c : Cam) : ∃ v, OneCam c.other s v
    ∧ s.reviewBoth.camOf c = (v.review c none).camOf c ∧ s.reviewBoth.drvOf c = (v.review c none).drvOf c := by
  cases c with
  | i =>
    have second := (s.review .i none).review_oneCam .e none
    exact ⟨s, OneCam.refl _ s, second.cam, second.drv⟩
  | e => exact ⟨s.review .i none, s.review_oneCam .i none, rfl, rfl⟩

theorem State.reviewBoth_commanded (s : State) (c : Cam) : (s.reviewBoth.camOf c).commanded = (s.camOf c).commanded := by
  obtain ⟨v, one, cam, -⟩ := s.reviewBoth_each c
  rw [cam, (v.review_oneCam c none).commanded, one.commanded]

theorem OneCam.machineRuns {c : Cam} {s t : State} (h : OneCam c s t) (d : Cam) : t.machineRuns d = s.machineRuns d :=
  State.machineRuns_of_straps (congrArg State.straps h.rest :) d

/-- In LOSS_PARK no cam stays in FOLLOW or RELEASE (R74, R86, R87). -/
theorem State.reviewBoth_lossPark {s : State} (loss : s.camc.loss = .lossPark) {c : Cam} (runs : s.machineRuns c = true) :
    ((s.camOf c).state = .follow → (s.reviewBoth.camOf c).state = .parking ∧ (s.reviewBoth.camOf c).ramp = 0)
    ∧ ((s.camOf c).state = .release → (s.reviewBoth.camOf c).state = .parked ∧ (s.reviewBoth.drvOf c).pending = 0) := by
  obtain ⟨v, one, cam, drv⟩ := s.reviewBoth_each c
  have same : v.camOf c = s.camOf c := one.camOf_ne (Cam.other_ne c).symm
  have runs' : v.machineRuns c = true := (one.machineRuns c).trans runs
  have loss' : v.camc.loss = .lossPark := by rw [one.camc]; exact loss
  refine ⟨fun follow => ?_, fun release => ?_⟩
  · have forbidden : v.phasingAllowed c = false := Bool.eq_false_iff.mpr fun can =>
      ((v.phasingAllowed_iff c).mp can).2.2.1 loss'
    rw [cam, State.review_follow runs' (by rw [same, follow]), if_pos (.inl forbidden)]
    rw [(v.enterCam_own c .parking v.now).1]
    exact ⟨rfl, rfl⟩
  · have low : v.effectiveTarget c ≤ v.settings.parkBand := by simp [State.effectiveTarget, loss']
    rw [cam, drv, State.review_release runs' (by rw [same, release]), if_pos low]
    obtain ⟨own, -, duty, -⟩ := v.enterCam_own c .parked v.now
    rw [own, duty]
    exact ⟨rfl, rfl⟩

theorem State.demandTimeoutDue_of {s : State} {r : Time} (on : s.operating = true) (since : s.camc.ageStart = some r)
    (late : s.settings.demandTimeout * 2000 < elapsed s.now r) : s.demandTimeoutDue = true := by
  simp [State.demandTimeoutDue, on, since, late]

theorem State.freezeTargets_camOf (s : State) (c : Cam) :
    s.freezeTargets.camOf c = { s.camOf c with commanded := (s.camOf c).ramp } := by cases c <;> rfl

/-- Settles O37: the loss stage is set and both cams are reviewed (`State.reviewBoth_lossPark`). -/
theorem demandLossParksTheCams : Obligations.DemandLossParksTheCams := by
  refine ⟨fun s r on since late unlost => ?_, fun s d hold timer due => ?_⟩
  · generalize told : (s.withCamc (fun k => { k with ageStart := none })).activate .demandLost = u
    have camc : u.camc = { s.camc with ageStart := none } := by rw [← told]; simp
    have lost : u.active .demandLost = true := by rw [← told]; exact State.activate_active _ _
    have cam (c : Cam) : u.camOf c = s.camOf c := by rw [State.camOf, camc]; rfl
    have runs' (c : Cam) : u.machineRuns c = s.machineRuns c := State.machineRuns_of_straps (by rw [← told]; simp) c
    have blocks : u.trk = s.trk ∧ u.cap = s.cap ∧ u.scan = s.scan ∧ u.pwr = s.pwr ∧ u.settings = s.settings
        ∧ u.stored = s.stored := by
      rw [← told]
      simp
    have expired : exec .demandTimeout s = .next (if u.settings.lossReaction = 0 then u.toLossPark else u.toLossHold) := by
      have done : exec .demandTimeout s = .next s.demandExpiry := next_ite_pos (State.demandTimeoutDue_of on since late)
      have stage : u.camc.loss = .none := by rw [camc]; exact unlost
      rw [done]
      show Host.Outcome.next (if ((s.withCamc (fun k => { k with ageStart := none })).activate .demandLost).camc.loss = .none
        then _ else _) = _
      rw [told, if_pos stage]
    refine ⟨fun reaction => ?_, fun reaction => ?_⟩
    · let parked : State := u.withCamc (fun k => { k with loss := .lossPark, holdExpiry := none })
      have review := parked.reviewBoth_camc
      refine ⟨_, expired.trans (congrArg Host.Outcome.next (if_pos (by rw [blocks.2.2.2.2.1]; exact reaction))), ?_, ?_, ?_,
        fun c => ?_, fun c runs => ?_, ?_⟩
      · show parked.reviewBoth.camc.loss = _
        rw [review]
        rfl
      · show parked.reviewBoth.camc.ageStart = _
        rw [review]
        exact congrArg Camc.ageStart camc
      · rw [← lost]
        exact State.active_of_mon (s := u) (by simp [State.toLossPark]) _
      · exact (parked.reviewBoth_commanded c).trans (congrArg CamCtl.commanded (cam c))
      · have moved := parked.reviewBoth_lossPark rfl (c := c) ((runs' c).trans runs)
        have same : parked.camOf c = s.camOf c := cam c
        rwa [same] at moved
      · simpa [State.toLossPark] using blocks
    · let held : State := u.freezeTargets.withCamc (fun k => { k with loss := .lossHold, holdExpiry := some ⟨u.now, 2000000⟩ })
      have review := held.reviewBoth_camc
      refine ⟨_, expired.trans (congrArg Host.Outcome.next (if_neg (by rw [blocks.2.2.2.2.1]; omega))), ?_, ?_, ?_, ?_,
        fun c => ?_, ?_⟩
      · show held.reviewBoth.camc.loss = _
        rw [review]
        rfl
      · show held.reviewBoth.camc.holdExpiry = _
        rw [review]
        show some (⟨u.now, 2000000⟩ : Timer) = _
        rw [← told]
        simp
      · show held.reviewBoth.camc.ageStart = _
        rw [review]
        exact congrArg Camc.ageStart camc
      · rw [← lost]
        exact State.active_of_mon (s := u) (by simp [State.toLossHold]) _
      · have frozen := (held.reviewBoth_commanded c).trans (congrArg CamCtl.commanded (u.freezeTargets_camOf c))
        exact frozen.trans (congrArg CamCtl.ramp (cam c))
      · simpa [State.toLossHold] using blocks
  · have at_end : s.holdDue = true := by simp [State.holdDue, hold, dueAt_of timer due]
    have expired : exec .holdExpiry s = .next s.toLossPark := next_ite_pos at_end
    let parked : State := s.withCamc (fun k => { k with loss := .lossPark, holdExpiry := none })
    have review := parked.reviewBoth_camc
    refine ⟨_, expired, ?_, ?_, ?_, by simp [State.toLossPark], fun c runs follow => ?_⟩
    · show parked.reviewBoth.camc.loss = _
      rw [review]
      rfl
    · show parked.reviewBoth.camc.holdExpiry = _
      rw [review]
      rfl
    · show parked.reviewBoth.camc.mode = _
      rw [review]
      rfl
    · exact ((parked.reviewBoth_lossPark rfl (c := c) runs).1 follow).1

end Sys2Proof.Machine
end

section
/-!
The take of a DEMAND frame (R69 to R73).
-/

set_option Elab.async false

namespace Sys2Proof.Machine

/-! ## Commanded targets -/

/-- The state with these commanded targets. -/
def State.commanding (s : State) (f : Cam → Nat) : State := s.withCamc (fun k => { k with
  cams := ⟨{ k.cams.i with commanded := f .i }, { k.cams.e with commanded := f .e }⟩ })

theorem State.commanding_self (s : State) : s.commanding (fun c => (s.camOf c).commanded) = s := rfl

theorem State.freezeTargets_eq (s : State) : s.freezeTargets = s.commanding (fun c => (s.camOf c).ramp) := rfl

/-- The code of a cam in an entry of a DEMAND frame (R69). -/
def entryCode : Cam → Nat
  | .i => 0
  | .e => 1

/-- One entry sets the target of the cam it names, limited to L_c (R71). -/
theorem State.applyEntry_commanding (s : State) (f : Cam → Nat) (d : DemandEntry) : (s.commanding f).applyEntry d
    = s.commanding (fun c => if d.station = s.own ∧ d.cam = entryCode c then min d.target (s.camSettings c).limit else f c) := by
  unfold State.applyEntry
  by_cases own : d.station = s.own
  · by_cases intake : d.cam = 0
    · rw [if_pos ⟨own, by omega⟩]
      simp only [intake, entryCode, own, if_true]
      rfl
    · by_cases exhaust : d.cam = 1
      · rw [if_pos ⟨own, by omega⟩]
        simp only [exhaust, entryCode, own]
        rfl
      · rw [if_neg fun both => by omega]
        refine congrArg s.commanding (funext fun c => (if_neg fun both => ?_).symm)
        cases c
        · exact intake both.2
        · exact exhaust both.2
  · rw [if_neg fun both => own both.1]
    simp only [own, false_and, if_false]

theorem State.applyEntries_commanding (s : State) (entries : List DemandEntry) (f : Cam → Nat) :
    entries.foldl State.applyEntry (s.commanding f) = s.commanding (fun c => entries.foldl (fun v d =>
      if d.station = s.own ∧ d.cam = entryCode c then min d.target (s.camSettings c).limit else v) (f c)) := by
  induction entries generalizing f with
  | nil => rfl
  | cons d rest ih =>
    rw [List.foldl_cons, State.applyEntry_commanding, ih]
    rfl

/-- An entry as its three bytes give it (R69). -/
def entryOf (x : Byte × Byte × Byte) : DemandEntry := ⟨x.1.toNat / 16, x.1.toNat % 16, word16 x.2.1 x.2.2⟩

theorem demandEntries_flatMap (entries : List (Byte × Byte × Byte)) :
    demandEntries (entries.flatMap (fun x => [x.1, x.2.1, x.2.2])) = entries.map entryOf := by
  induction entries with
  | nil => rfl
  | cons x rest ih =>
    rw [List.flatMap_cons, List.map_cons, ← ih]
    rfl

theorem demandMode_hold (b : Byte) : demandMode b = .hold ↔ b = 3 := by
  unfold demandMode
  constructor
  · intro hold
    by_contra other
    rw [if_neg other] at hold
    split at hold <;> cases hold
  · rintro rfl
    rfl

/-! ## The take (R70) -/

/-- The state once a DEMAND frame has set mode and targets and the age has restarted (R70 to R73). -/
def State.demanded (s : State) (mode : DemandMode) (target : Cam → Nat) : State :=
  (s.commanding target).withCamc (fun k => { k with mode := mode, ageStart := some s.now, loss := .none, holdExpiry := none })

theorem State.acceptDemand_hold {s : State} {payload : List Byte} (hold : demandMode (payload.getD 0 0) = .hold) :
    s.acceptDemand payload = ((s.demanded .hold (fun c =>
      if s.camc.mode = .hold then (s.camOf c).commanded else (s.camOf c).ramp)).deactivate .demandLost).reviewBoth := by
  unfold State.acceptDemand
  by_cases held : s.camc.mode = .hold
  · simp only [hold, held, if_true, ne_eq, not_true, and_false, if_false]
    rfl
  · simp only [hold, held, if_true, ne_eq, not_false_iff, and_self, if_false]
    rfl

theorem State.acceptDemand_targets {s : State} {payload : List Byte} {mode : DemandMode}
    (known : demandMode (payload.getD 0 0) = mode) (moving : mode ≠ .hold) :
    s.acceptDemand payload = ((s.demanded mode (fun c => (demandEntries (payload.drop 1)).foldl (fun v d =>
      if d.station = s.own ∧ d.cam = entryCode c then min d.target (s.camSettings c).limit else v)
      (s.camOf c).commanded)).deactivate .demandLost).reviewBoth := by
  unfold State.acceptDemand
  simp only [known, moving, false_and, if_false]
  have start : s.withCamc (fun k => { k with mode := mode })
    = (s.withCamc (fun k => { k with mode := mode })).commanding (fun c => (s.camOf c).commanded) := rfl
  rw [start, State.applyEntries_commanding]
  refine congrArg (fun t : State => (t.deactivate .demandLost).reviewBoth) ?_
  rfl

theorem exec_demandFrame {s : State} {w : Received} (waits : s.waiting .demand = some w) :
    exec .demandFrame s = .next (s.freeOldest.takeDemand w) := by
  show Host.Outcome.next (match s.waiting .demand with | some w => s.freeOldest.takeDemand w | none => s) = _
  rw [waits]

theorem Line.setBuffer_buffer (l : Line) (b : Buffer) (r : Option Received) : (l.setBuffer b r).buffer b = r := by cases b <;> rfl

theorem Line.setBuffer_buffer_other (l : Line) (b : Buffer) (r : Option Received) :
    (l.setBuffer b r).buffer b.other = l.buffer b.other := by cases b <;> rfl

/-- A change of MON's records leaves the buffers. -/
theorem State.deactivate_buffer (s : State) (k : Cond) (b : Buffer) : (s.deactivate k).line.buffer b = s.line.buffer b := by
  rw [State.deactivate_slots]
  cases b <;> rfl

/-- Settles O36: the frame's mode and targets (`State.acceptDemand_hold`, `State.acceptDemand_targets`), then the reviews. -/
theorem demandFrameIsAccepted : Obligations.DemandFrameIsAccepted := by
  intro s w waits on
  have taken := exec_demandFrame waits
  have on' : s.freeOldest.operating = true := (State.operating_of_pwr (by simp)).trans on
  refine ⟨fun early => ?_, fun late foreign => ?_, fun late controller mode entries payload => ?_⟩
  · rw [taken, State.takeDemand, if_pos (.inr early)]
  · rw [taken, State.takeDemand, if_neg (by simp [on', late]), if_pos foreign]
    rfl
  · intro named target accepted
    have same : accepted = s.freeOldest.demanded (demandMode mode) target := rfl
    have accepts : exec .demandFrame s = .next (accepted.deactivate .demandLost).reviewBoth := by
      rw [taken, State.takeDemand, if_neg (by simp [on', late]), if_neg (by simp [controller]), payload, same]
      by_cases hold : mode = 3
      · have known := (demandMode_hold mode).mpr hold
        have frozen : target = fun c => if s.camc.mode = .hold then (s.camOf c).commanded else (s.camOf c).ramp :=
          funext fun c => if_pos hold
        rw [State.acceptDemand_hold (payload := mode :: _) known, known, frozen]
        rfl
      · rw [State.acceptDemand_targets (payload := mode :: _) (mode := demandMode mode) rfl
          fun same => hold ((demandMode_hold mode).mp same)]
        have moved : target = fun c => (demandEntries (entries.flatMap (fun x => [x.1, x.2.1, x.2.2]))).foldl (fun v d =>
            if d.station = s.own ∧ d.cam = entryCode c then min d.target (s.camSettings c).limit else v)
            (s.camOf c).commanded := by
          funext c
          rw [demandEntries_flatMap, List.foldl_map]
          cases c <;> exact if_neg hold
        rw [moved]
        rfl
    refine ⟨accepts, fun off => ?_⟩
    have cam (c : Cam) : ((accepted.deactivate .demandLost).camOf c).state = .off := by
      rw [State.camOf_of_camc (s := accepted) (by simp)]
      cases c with
      | i => exact off .i
      | e => exact off .e
    have still : (accepted.deactivate .demandLost).reviewBoth = accepted.deactivate .demandLost := by
      rw [State.reviewBoth, State.review_off (cam .i), State.review_off (cam .e)]
    rw [still] at accepts
    refine ⟨_, accepts, by simp, State.deactivate_active _ _, ?_, ?_, ?_⟩
    · rw [State.deactivate_buffer]
      exact Line.setBuffer_buffer _ _ _
    · rw [State.deactivate_buffer]
      exact Line.setBuffer_buffer_other _ _ _
    · have others (k : Cond) (other : k ≠ .demandLost) : (accepted.deactivate .demandLost).mon.get k = s.mon.get k :=
        (State.deactivate_get_ne _ _ _ other).trans rfl
      refine ⟨?_, ?_, ?_, ?_, ?_, ?_, others⟩ <;> simp [accepted]

end Sys2Proof.Machine
end

section
/-!
The pressure source (R119, R120) and the four conversions (R9 to R16).
-/

set_option Elab.async false

namespace Sys2Proof.Machine

/-! ## The pressure source (R119) -/

theorem Peer.candidate_eq_some (p : Peer) (x : Nat × Nat × Nat) : p.candidate = some x ↔
    p.fresh = true ∧ ∃ d k, p.share = some d ∧ p.pressure = some k ∧ x = (d.filing, p.station, k) := by
  unfold Peer.candidate
  cases p.fresh <;> cases p.share <;> cases p.pressure <;> simp [eq_comm]

theorem latestFiling_mem {l : List (Nat × Nat × Nat)} {x : Nat × Nat × Nat} (found : latestFiling l = some x) : x ∈ l := by
  induction l generalizing x with
  | nil => cases found
  | cons c rest ih =>
    unfold latestFiling at found
    cases tail : latestFiling rest with
    | none =>
      obtain rfl : c = x := by simpa [tail] using found
      exact List.mem_cons_self
    | some d =>
      have either : d = x ∨ c = x := by
        simp only [tail] at found
        split at found
        · exact .inl (Option.some.inj found)
        · exact .inr (Option.some.inj found)
      rcases either with rfl | rfl
      · exact List.mem_cons_of_mem _ (ih tail)
      · exact List.mem_cons_self

/-- A candidate filed after every other is the latest. -/
theorem latestFiling_eq {l : List (Nat × Nat × Nat)} {x : Nat × Nat × Nat} (mem : x ∈ l)
    (latest : ∀ y ∈ l, y = x ∨ y.1 < x.1) : latestFiling l = some x := by
  induction l with
  | nil => cases mem
  | cons c rest ih =>
    have first := latest c List.mem_cons_self
    have later : ∀ y ∈ rest, y = x ∨ y.1 < x.1 := fun y mem => latest y (List.mem_cons_of_mem c mem)
    by_cases again : x ∈ rest
    · rw [latestFiling, ih again later]
      rcases first with rfl | before
      · simp
      · simp [before]
    · obtain rfl : c = x := (List.mem_cons.mp mem).elim Eq.symm fun mem => absurd mem again
      have unique (d) (found : latestFiling rest = some d) : d.1 < c.1 := by
        have mem := latestFiling_mem found
        exact (later d mem).resolve_left fun same => again (same ▸ mem)
      unfold latestFiling
      cases found : latestFiling rest with
      | none => rfl
      | some d => exact if_neg (by have := unique d found; omega)

theorem State.ownPressure_of {s t : State} (straps : t.straps = s.straps) (scan : t.scan.pressure = s.scan.pressure) :
    t.ownPressure = s.ownPressure := by
  unfold State.ownPressure
  rw [straps, scan]

theorem State.chosenSource_own {s : State} {p : Nat} (valid : s.ownPressure = some p) : s.chosenSource = (.own, some p) := by
  unfold State.chosenSource
  rw [valid]

theorem State.chosenSource_peer {s : State} {x : Nat × Nat × Nat} (invalid : s.ownPressure = none)
    (latest : latestFiling (s.shr.peers.filterMap Peer.candidate) = some x) : s.chosenSource = (.peer x.2.1, some x.2.2) := by
  unfold State.chosenSource
  rw [invalid, latest]

theorem State.chosenSource_none {s : State} (invalid : s.ownPressure = none)
    (without : latestFiling (s.shr.peers.filterMap Peer.candidate) = none) : s.chosenSource = (.none, none) := by
  unfold State.chosenSource
  rw [invalid, without]

/-- The choice is the one R119 makes. -/
theorem State.chooseSource_chosen (s : State) : SourceChosen s.chooseSource := by
  have own : s.chooseSource.ownPressure = s.ownPressure := State.ownPressure_of (by simp) (by simp)
  refine ⟨fun p valid => ?_, fun invalid q q_mem d share p pressure fresh latest => ?_, fun invalid without => ?_, ?_⟩
  · have chosen := State.chosenSource_own (own ▸ valid)
    exact ⟨congrArg Prod.fst chosen, congrArg Prod.snd chosen⟩
  · have candidate : q.candidate = some (d.filing, q.station, p) :=
      (Peer.candidate_eq_some q _).mpr ⟨fresh, d, p, share, pressure, rfl⟩
    have last : latestFiling (s.shr.peers.filterMap Peer.candidate) = some (d.filing, q.station, p) := by
      refine latestFiling_eq (List.mem_filterMap.mpr ⟨q, q_mem, candidate⟩) fun y mem => ?_
      obtain ⟨r, r_mem, offered⟩ := List.mem_filterMap.mp mem
      obtain ⟨r_fresh, e, k, r_share, r_pressure, rfl⟩ := (Peer.candidate_eq_some r y).mp offered
      rcases latest r r_mem e r_share r_fresh (by rw [r_pressure]; rfl) with rfl | before
      · exact .inl (Option.some.inj (offered.symm.trans candidate))
      · exact .inr before
    have chosen := State.chosenSource_peer (own ▸ invalid) last
    exact ⟨congrArg Prod.fst chosen, congrArg Prod.snd chosen⟩
  · have nobody : s.shr.peers.filterMap Peer.candidate = [] := by
      refine List.filterMap_eq_nil_iff.mpr fun q mem => ?_
      by_contra offered
      obtain ⟨x, offered⟩ := Option.ne_none_iff_exists'.mp offered
      obtain ⟨fresh, d, k, share, pressure, -⟩ := (Peer.candidate_eq_some q x).mp offered
      rcases without q mem with stale | unfiled | silent
      · simp [fresh] at stale
      · simp [share] at unfiled
      · simp [pressure] at silent
    have chosen := State.chosenSource_none (own ▸ invalid) (by rw [nobody]; rfl)
    exact ⟨congrArg Prod.fst chosen, congrArg Prod.snd chosen⟩
  · show availableFlow s.settings s.chosenSource.2 = _
    show _ = match s.chosenSource.2 with | some p => _ | none => _
    cases s.chosenSource.2 <;> rfl

/-- Without a valid own pressure it is not the source. -/
theorem State.chooseSource_source_ne_own {s : State} (invalid : s.ownPressure = none) : s.chooseSource.shr.source ≠ .own := by
  show s.chosenSource.1 ≠ .own
  cases latest : latestFiling (s.shr.peers.filterMap Peer.candidate) with
  | none =>
    rw [State.chosenSource_none invalid latest]
    simp
  | some x =>
    rw [State.chosenSource_peer invalid latest]
    simp

theorem State.rechoose_on {s : State} (on : s.operating = true) : s.rechoose = s.chooseSource := if_pos on

theorem State.rechoose_off {s : State} (off : s.operating = false) : s.rechoose = s := if_neg (by simp [off])

/-- Only the source, its pressure and its flow are chosen again. -/
theorem State.rechoose_shr (s : State) : s.rechoose.shr = { s.shr with
    source := s.rechoose.shr.source, pressure := s.rechoose.shr.pressure, fAvail := s.rechoose.shr.fAvail } := by
  unfold State.rechoose
  split <;> rfl

theorem State.rechoose_eq (s : State) : s.rechoose = { s with shr := s.rechoose.shr } := by
  unfold State.rechoose
  split <;> rfl

theorem SourceChosen.of_blocks {s t : State} (chosen : SourceChosen s) (own : t.ownPressure = s.ownPressure) (shr : t.shr = s.shr)
    (settings : t.settings = s.settings) : SourceChosen t where
  own := by
    rw [own, shr]
    exact chosen.own
  peer := by
    rw [own, shr]
    exact chosen.peer
  lost := by
    rw [own, shr]
    exact chosen.lost
  flow := by
    rw [shr, settings]
    exact chosen.flow

/-! ## Windows (R12, R13, R15) -/

theorem pushCount_of_room {size : Nat} {w : List Nat} (c : Nat) (room : w.length < size) : pushCount size w c = w ++ [c] := by
  rw [pushCount, show w.length + 1 - size = 0 by omega, List.drop_zero]

/-- A window that is full with the new count. -/
theorem pushCount_of_full {size : Nat} {w window : List Nat} {c : Nat} (length : window.length = size)
    (full : w ++ [c] = window ∨ (w.length = size ∧ w.tail ++ [c] = window)) : pushCount size w c = window := by
  rcases full with rfl | ⟨was, rfl⟩
  · rw [pushCount_of_room c (by simp at length; omega)]
  · have some_count : 1 ≤ w.length := by simp at length; omega
    rw [pushCount, show w.length + 1 - size = 1 by omega, List.drop_one, List.tail_append_of_ne_nil]
    rintro rfl
    simp at some_count

end Sys2Proof.Machine
end

section
/-!
The four conversions of a pass (R9 to R16).
-/

set_option Elab.async false

namespace Sys2Proof.Machine

theorem State.converts_of {s : State} {ch : Channel} {t0 : Time} (progress : s.scan.conversion = some ⟨ch, t0⟩)
    (done : 16 ≤ elapsed s.now t0) : s.converts ch = true := by
  simp [State.converts, progress, done]

/-! ## Supply (R12, R153) -/

/-- The table of R153. -/
theorem SupplyMon.judge_eq (k : SupplyMon) (low : Bool) (v : Nat) (now : Time) : k.judge low v now = { k with
    lowExpiry :=
      if low then k.lowExpiry
      else if v < 7000 then (if k.lowExpiry = none then some ⟨now, 20000⟩ else k.lowExpiry) else none
    recoveryExpiry :=
      if low = false then k.recoveryExpiry
      else if v < 8000 then none
      else if k.recoveryExpiry = none then some ⟨now, 200000⟩ else k.recoveryExpiry } := by
  unfold SupplyMon.judge
  by_cases below : v < 7000
  · have below' : v < 8000 := by omega
    cases low <;> simp [below, below']
  · by_cases between : v < 8000 <;> cases low <;> simp [below, between]

theorem exec_supplyConversion {s : State} {t0 : Time} (count : BitVec 12) (progress : s.scan.conversion = some ⟨.supply, t0⟩)
    (done : 16 ≤ elapsed s.now t0) : exec (.supplyConversion count) s = .next
      ((s.withScan (fun k => { k with supply := pushCount 8 s.scan.supply count.toNat })).handSupply.nextConversion .pressure) :=
  next_ite_pos (State.converts_of progress done)

theorem State.supplyConversion_waiting {s : State} {t0 : Time} {count : BitVec 12}
    (progress : s.scan.conversion = some ⟨.supply, t0⟩) (done : 16 ≤ elapsed s.now t0) (waiting : s.supply.judging = false)
    (room : s.scan.supply.length < 7) : exec (.supplyConversion count) s = .next { s with
      scan := { s.scan with conversion := some ⟨.pressure, s.now⟩, supply := s.scan.supply ++ [count.toNat] } } := by
  rw [exec_supplyConversion count progress done, pushCount_of_room _ (by omega), State.handSupply, if_neg]
  · rfl
  · have short : ¬(s.scan.supply ++ [count.toNat]).length = 8 := by simp; omega
    simpa [waiting] using short

theorem State.supplyConversion_judged {s : State} {t0 : Time} {count : BitVec 12} {window : List Nat}
    (progress : s.scan.conversion = some ⟨.supply, t0⟩) (done : 16 ≤ elapsed s.now t0)
    (pushed : pushCount 8 s.scan.supply count.toNat = window) (full : window.length = 8) :
    exec (.supplyConversion count) s = .next { s with
      scan := { s.scan with conversion := some ⟨.pressure, s.now⟩, supply := window }
      supply := { s.supply with judging := true }.judge (s.active .supplyLow) (window.sum / 8 * 20000 / 4095) s.now } := by
  have volts : (s.withScan (fun k => { k with supply := window })).scan.millivolts = window.sum / 8 * 20000 / 4095 := if_pos full
  rw [exec_supplyConversion count progress done, pushed, State.handSupply, if_pos (.inr full), volts]
  rfl

/-! ## Pressure (R13, R119 to R121) -/

theorem exec_pressureConversion {s : State} {t0 : Time} (count : BitVec 12) (progress : s.scan.conversion = some ⟨.pressure, t0⟩)
    (done : 16 ≤ elapsed s.now t0) : exec (.pressureConversion count) s = .next
      ((if s.straps.psf then s.pressureCount count.toNat else s).nextConversion .temperature) :=
  next_ite_pos (State.converts_of progress done)

theorem State.activate_withScan (s : State) (k : Scan) (j : Cond) : (s.withScan (fun _ => k)).activate j = { s with
    scan := k, mon := ((s.withScan (fun _ => k)).activate j).mon, line := ((s.withScan (fun _ => k)).activate j).line } :=
  State.eq_of_blocks

theorem State.deactivate_withScan (s : State) (k : Scan) (j : Cond) : (s.withScan (fun _ => k)).deactivate j = { s with
    scan := k, mon := ((s.withScan (fun _ => k)).deactivate j).mon, line := ((s.withScan (fun _ => k)).deactivate j).line } :=
  State.eq_of_blocks

theorem State.pressureCount_valid {s : State} {count : Nat} {window : List Nat} (low : 205 ≤ count) (high : count ≤ 3890)
    (pushed : pushCount 16 s.scan.pressure count = window) : s.pressureCount count = if window.length = 16
      then ((s.withScan (fun _ => { s.scan with pressure := window })).deactivate .pressureSensor).rechoose
      else s.withScan (fun _ => { s.scan with pressure := window }) := by
  rw [State.pressureCount, if_neg (by omega), ← pushed]
  rfl

/-- The state once a pressure count has left the scan as `scan` and SHR has been told. -/
theorem State.told_nextConversion {s u : State} {scan : Scan} (rest : u = { s with scan := scan, mon := u.mon, line := u.line })
    (ch : Channel) : u.rechoose.nextConversion ch = { s with
      scan := { scan with conversion := some ⟨ch, s.now⟩ }, mon := u.mon, shr := u.rechoose.shr, line := u.line } := by
  rw [State.rechoose_eq u]
  generalize u.rechoose.shr = shr
  rw [rest]
  rfl

theorem State.told_source {s u : State} {scan : Scan} (rest : u = { s with scan := scan, mon := u.mon, line := u.line })
    (ch : Channel) (on : s.operating = true) : SourceChosen { s with
      scan := { scan with conversion := some ⟨ch, s.now⟩ }, mon := u.mon, shr := u.rechoose.shr, line := u.line } := by
  have on' : u.operating = true := by rw [rest]; exact on
  have chosen := u.chooseSource_chosen
  rw [← State.rechoose_on on'] at chosen
  have scan_eq : u.rechoose.scan = scan := State.rechoose_frame u |>.2.2.2.2.2.1.trans (congrArg State.scan rest :)
  refine chosen.of_blocks (State.ownPressure_of ?_ (by rw [scan_eq])) rfl ?_
  · simpa using (congrArg State.straps rest :).symm
  · simpa using (congrArg State.settings rest :).symm

/-- What the source is chosen among after a valid window: own pressure. -/
theorem State.rechoose_own {s : State} {p : Nat} (valid : s.ownPressure = some p) (on : s.operating = true) :
    s.rechoose.shr = { s.shr with source := .own, pressure := some p, fAvail := flowOfPressure s.settings p } := by
  rw [State.rechoose_on on, State.chooseSource, State.chosenSource_own valid]
  rfl

/-! ## Temperature (R15, R16, R78) and the end of a pass (R10) -/

/-- The scan after position 5 of a pass (R10). -/
def Scan.passEnded (k : Scan) (now : Time) (power : Power) : Scan :=
  if 1 < k.wakePasses ∨ power = .loading ∨ power = .run then
    { k with conversion := some ⟨.coil .i, now⟩, passStart := some now, wakePasses := k.wakePasses - 1 }
  else { k with conversion := none, wakePasses := k.wakePasses - 1 }

theorem State.endPass_eq (s : State) : s.endPass = { s with scan := s.scan.passEnded s.now s.pwr.power } := by
  have left : 0 < s.scan.wakePasses - 1 ↔ 1 < s.scan.wakePasses := by omega
  unfold State.endPass Scan.passEnded
  simp only [left]
  split <;> rfl

theorem exec_temperatureConversion {s : State} {t0 : Time} (count : BitVec 12)
    (progress : s.scan.conversion = some ⟨.temperature, t0⟩) (done : 16 ≤ elapsed s.now t0) :
    exec (.temperatureConversion count) s = .next (s.temperatureCount count.toNat).handTemperature.endPass :=
  next_ite_pos (State.converts_of progress done)

/-- The temperature used after the hand-over and the end of the pass is the one before them. -/
theorem State.temperature_of {s t : State} (scan : t.scan.temperature = s.scan.temperature) (mon : t.mon = s.mon)
    (settings : t.settings = s.settings) : t.temperature = s.temperature := by
  unfold State.temperature
  rw [scan, settings, State.active_of_mon mon]

theorem Scan.passEnded_temperature (k : Scan) (now : Time) (power : Power) : (k.passEnded now power).temperature = k.temperature := by
  unfold Scan.passEnded
  split <;> rfl

/-- The state after the hand-over and the end of the pass, where the count has left the scan as `scan`. -/
theorem State.handed_endPass {s u : State} {scan : Scan} (rest : u = { s with scan := scan, mon := u.mon, line := u.line }) :
    u.handTemperature.endPass = { s with
      scan := scan.passEnded s.now s.pwr.power
      camc := { s.camc with cold := coldAfter s.camc.cold s.settings.tCold u.temperature }
      mon := u.mon, line := u.line } := by
  rw [State.endPass_eq, State.handTemperature]
  generalize u.temperature = degrees
  rw [rest]
  rfl

theorem State.temperatureCount_valid {s : State} {count : Nat} {window : List Nat} (low : 100 ≤ count) (high : count ≤ 4000)
    (pushed : pushCount 8 s.scan.temperature count = window) : s.temperatureCount count = if window.length = 8
      then (s.withScan (fun _ => { s.scan with temperature := window })).deactivate .tempSensor
      else s.withScan (fun _ => { s.scan with temperature := window }) := by
  rw [State.temperatureCount, if_neg (by omega), ← pushed]
  rfl

theorem State.passDue_of {s : State} {t0 : Time} (standby : s.pwr.power = .standby) (between : s.scan.conversion = none)
    (since : s.scan.passStart = some t0) (due : 200000 ≤ elapsed s.now t0) : s.passDue = true := by
  simp [State.passDue, standby, between, since, due]

/-- Settles O35: the windows are `pushCount_of_room` and `pushCount_of_full`, the choice of the source `State.chooseSource_chosen`,
the end of a pass `State.temperatureHanded`. -/
theorem conversionsReachTheirWindows : Obligations.ConversionsReachTheirWindows := by
  refine ⟨fun s c count t0 progress done period => ?_, fun s count t0 progress done => ⟨fun waiting room => ?_,
    fun window length pushed => ?_⟩, fun s count t0 progress done => ⟨fun absent => ?_, fun fitted invalid => ?_,
    fun fitted low high => ⟨fun room => ?_, fun window length pushed => ?_⟩⟩, fun s count t0 progress done => ?_,
    fun s t0 standby between since due => next_ite_pos (State.passDue_of standby between since due)⟩
  · have converts : exec (.coilCurrentConversion c count) s = .next ((s.addCoil c count.toNat).nextConversion (afterCoil c)) :=
      next_ite_pos (State.converts_of progress done)
    rw [converts, State.addCoil, if_neg (by simp [Option.isSome_iff_ne_none.mp period])]
    cases c <;> rfl
  · exact State.supplyConversion_waiting progress done waiting room
  · intro v k
    rw [State.supplyConversion_judged progress done (pushCount_of_full length pushed) length, SupplyMon.judge_eq]
  · rw [exec_pressureConversion count progress done, if_neg (by simp [absent])]
    rfl
  · generalize told : (s.withScan (fun _ => { s.scan with pressure := [] })).activate .pressureSensor = u
    have rest : u = { s with scan := { s.scan with pressure := [] }, mon := u.mon, line := u.line } := by
      rw [← told]
      exact s.activate_withScan _ _
    have taken : exec (.pressureConversion count) s = .next (u.rechoose.nextConversion .temperature) := by
      rw [exec_pressureConversion count progress done, if_pos fitted, State.pressureCount, if_pos invalid, ← told]
      rfl
    have invalid_own : u.ownPressure = none := by rw [rest]; simp [State.ownPressure]
    have on : u.operating = s.operating := by rw [rest]; rfl
    have shr : u.shr = s.shr := (congrArg State.shr rest :)
    refine ⟨_, taken.trans (congrArg Host.Outcome.next (State.told_nextConversion rest _)), rfl, ?_, ?_, fun was => ?_,
      fun k other => ?_, fun operating => ⟨State.told_source rest _ operating, ?_⟩, fun idle => ?_, ?_, rfl⟩
    · show u.active _ = _
      rw [← told]
      exact State.activate_active _ _
    · simp [State.ownPressure]
    · show u.mon.get _ = _
      rw [← told, State.activate_get, if_neg (by simpa [State.active] using was)]
      rfl
    · show u.mon.get _ = _
      rw [← told, State.activate_get_ne _ _ _ other]
      rfl
    · show u.rechoose.shr.source ≠ _
      rw [State.rechoose_on (on.trans operating)]
      exact State.chooseSource_source_ne_own invalid_own
    · show u.rechoose.shr = _
      rw [State.rechoose_off (on.trans idle)]
      exact shr
    · have same := u.rechoose_shr
      rw [shr] at same
      exact same
  · have short : ¬(s.scan.pressure ++ [count.toNat]).length = 16 := by simp; omega
    rw [exec_pressureConversion count progress done, if_pos fitted,
      State.pressureCount_valid low high (pushCount_of_room _ (by omega)), if_neg short]
    rfl
  · intro p
    generalize told : (s.withScan (fun _ => { s.scan with pressure := window })).deactivate .pressureSensor = u
    have rest : u = { s with scan := { s.scan with pressure := window }, mon := u.mon, line := u.line } := by
      rw [← told]
      exact s.deactivate_withScan _ _
    have taken : exec (.pressureConversion count) s = .next (u.rechoose.nextConversion .temperature) := by
      rw [exec_pressureConversion count progress done, if_pos fitted,
        State.pressureCount_valid low high (pushCount_of_full length pushed), if_pos length, told]
    have own : s.straps.psf = true ∧ window.length = 16 := ⟨fitted, length⟩
    have valid : u.ownPressure = some p := by
      rw [rest]
      exact if_pos own
    have on : u.operating = s.operating := by rw [rest]; rfl
    have shr : u.shr = s.shr := (congrArg State.shr rest :)
    have settings : u.settings = s.settings := (congrArg State.settings rest :)
    refine ⟨_, taken.trans (congrArg Host.Outcome.next (State.told_nextConversion rest _)), rfl, if_pos own, ?_,
      fun k other => ?_, fun operating => ?_, fun idle => ?_, rfl⟩
    · show u.mon.get _ = _
      rw [← told]
      exact State.deactivate_get _ _
    · show u.mon.get _ = _
      rw [← told, State.deactivate_get_ne _ _ _ other]
      rfl
    · show u.rechoose.shr = _
      rw [State.rechoose_own valid (on.trans operating), shr, settings]
      rfl
    · show u.rechoose.shr = _
      rw [State.rechoose_off (on.trans idle)]
      exact shr
  · intro scan camc
    have taken := exec_temperatureConversion count progress done
    refine ⟨fun low high room => ?_, fun window low high length pushed => ?_, fun invalid => ?_⟩
    · have short : ¬(s.scan.temperature ++ [count.toNat]).length = 8 := by simp; omega
      rw [taken, State.temperatureCount_valid low high (pushCount_of_room _ (by omega)), if_neg short,
        State.handed_endPass (s := s) rfl]
      have cold : State.temperature (s.withScan (fun _ => { s.scan with temperature := s.scan.temperature ++ [count.toNat] }))
        = -10 := if_neg fun full => short full.1
      rw [cold]
      rfl
    · generalize told : (s.withScan (fun _ => { s.scan with temperature := window })).deactivate .tempSensor = u
      have rest : u = { s with scan := { s.scan with temperature := window }, mon := u.mon, line := u.line } := by
        rw [← told]
        exact s.deactivate_withScan _ _
      have inactive : u.active .tempSensor = false := by rw [← told]; exact State.deactivate_active _ _
      have degrees : u.temperature = tempOfCount s.settings (window.sum / 8) := by
        have scan_eq : u.scan.temperature = window := (congrArg (fun t : State => t.scan.temperature) rest :)
        have settings : u.settings = s.settings := (congrArg State.settings rest :)
        rw [State.temperature_of_full_window (by rw [scan_eq, length]) inactive, scan_eq, settings]
      rw [State.temperatureCount_valid low high (pushCount_of_full length pushed), if_pos length, told] at taken
      refine ⟨_, taken.trans (congrArg Host.Outcome.next (State.handed_endPass rest)), rfl, ?_, ?_, ?_, fun k other => ?_, rfl⟩
      · rw [← degrees]
        refine State.temperature_of ?_ rfl (congrArg State.settings rest :).symm
        rw [rest]
        exact Scan.passEnded_temperature _ _ _
      · rw [← degrees]
        rfl
      · show u.mon.get _ = _
        rw [← told]
        exact State.deactivate_get _ _
      · show u.mon.get _ = _
        rw [← told, State.deactivate_get_ne _ _ _ other]
        rfl
    · generalize told : (s.withScan (fun _ => { s.scan with temperature := [] })).activate .tempSensor = u
      have rest : u = { s with scan := { s.scan with temperature := [] }, mon := u.mon, line := u.line } := by
        rw [← told]
        exact s.activate_withScan _ _
      have active : u.active .tempSensor = true := by rw [← told]; exact State.activate_active _ _
      have degrees : u.temperature = -10 := by simp [State.temperature, active]
      have counted : s.temperatureCount count.toNat = u := by
        rw [State.temperatureCount, if_pos invalid, ← told]
        rfl
      rw [counted] at taken
      refine ⟨_, taken.trans (congrArg Host.Outcome.next (State.handed_endPass rest)), rfl, ?_, ?_, active, fun was => ?_,
        fun k other => ?_, rfl⟩
      · rw [← degrees]
        refine State.temperature_of ?_ rfl (congrArg State.settings rest :).symm
        rw [rest]
        exact Scan.passEnded_temperature _ _ _
      · rw [← degrees]
        rfl
      · show u.mon.get _ = _
        rw [← told, State.activate_get, if_neg (by simpa [State.active] using was)]
        rfl
      · show u.mon.get _ = _
        rw [← told, State.activate_get_ne _ _ _ other]
        rfl

end Sys2Proof.Machine
end

section
/-!
Peer records: a SHARE filed, a record gone stale, a record deleted (R124, R130 to R136); the timers that queue a frame (R128, R172,
R178) and the ends of an on-time (R148, R150).
-/

set_option Elab.async false

namespace Sys2Proof.Machine

/-! ## Peer records -/

theorem State.rechoose_peer (s : State) (n : Nat) : s.rechoose.shr.peer n = s.shr.peer n := by
  rw [State.rechoose_shr]
  rfl

theorem State.rechoose_chosen {s : State} (on : s.operating = true) : SourceChosen s.rechoose := by
  rw [State.rechoose_on on]
  exact s.chooseSource_chosen

/-- Where a record of station `n` stands, a filter on the other stations takes it away alone. -/
theorem find_filter_of_station (l : List Peer) (n m : Nat) :
    (l.filter (fun p => decide (p.station ≠ n))).find? (fun p => decide (p.station = m))
      = if m = n then none else l.find? (fun p => decide (p.station = m)) := by
  rw [List.find?_filter]
  split
  next same =>
    rw [List.find?_eq_none]
    intro p _
    simp [same]
  next other =>
    congr 1
    funext p
    by_cases station : p.station = m <;> simp [station, other]

theorem State.staleDue_of {s : State} {n : Nat} {p : Peer} (on : s.operating = true) (found : s.shr.peer n = some p)
    (fresh : p.fresh = true) (late : 60000 < elapsed s.now p.lastRefresh) : s.staleDue n = true := by
  simp [State.staleDue, on, found, fresh, late]

theorem State.deleteDue_of {s : State} {n : Nat} {p : Peer} (on : s.operating = true) (found : s.shr.peer n = some p)
    (late : 1000000 < elapsed s.now p.lastRefresh) : s.deleteDue n = true := by
  simp [State.deleteDue, on, found, late]

theorem State.lostPeer_iff {s : State} {n : Nat} {p : Peer} (found : s.shr.peer n = some p) :
    s.lostPeer n = true ↔ p.role = .phase ∧ s.pwr.power = .run := by
  simp [State.lostPeer, found, and_comm]

theorem exec_shareFrame {s : State} {w : Received} (waits : s.waiting .share = some w) :
    exec .shareFrame s = .next (s.freeOldest.fileShare w) := by
  show Host.Outcome.next (match s.waiting .share with | some r => s.freeOldest.fileShare r | none => s) = _
  rw [waits]

/-- Settles O39: the record's change is `Shr.peer_onPeer` or `find_filter_of_station`, the source `State.chooseSource_chosen`. -/
theorem peerRecordsAreFiledAndAge : Obligations.PeerRecordsAreFiledAndAge := by
  refine ⟨fun s w p waits found => ?_, fun s n p on found fresh late => ?_, fun s n p on found late => ?_⟩
  · intro flow flags pressure
    let filed (r : Peer) : Peer := r.filed w.frame.payload w.time s.shr.filings
    let u : State := s.freeOldest.withShr (fun k => { k.onPeer w.frame.station filed with filings := k.filings + 1 })
    have on : u.operating = s.operating := State.operating_of_pwr (by simp [u])
    have peer (n : Nat) : u.rechoose.shr.peer n = if n = w.frame.station then (s.shr.peer n).map filed else s.shr.peer n := by
      rw [State.rechoose_peer]
      exact s.shr.peer_onPeer _ _ fun r => rfl
    refine ⟨u.rechoose, exec_shareFrame waits, ?_, fun n other => ?_, fun operating => ?_, fun idle => ?_, ?_, ?_⟩
    · rw [peer, if_pos rfl, found]
      rfl
    · rw [peer, if_neg other]
    · exact State.rechoose_chosen (on.trans operating)
    · rw [State.rechoose_off (on.trans idle)]
      exact ⟨rfl, rfl, rfl⟩
    · rw [State.rechoose_shr]
      rfl
    · rw [State.rechoose_eq]
      rfl
  · have stale : exec (.peerStale n) s = .next (s.staleExpiry n.val) := next_ite_pos (State.staleDue_of on found fresh late)
    let u : State := s.withShr (fun r => r.onPeer n.val (fun p => { p with fresh := false }))
    have peer (k : Nat) : u.rechoose.shr.peer k = if k = n.val then (s.shr.peer k).map (fun p => { p with fresh := false })
        else s.shr.peer k := by
      rw [State.rechoose_peer]
      exact s.shr.peer_onPeer _ _ fun r => rfl
    refine ⟨u.rechoose, stale, ?_, rfl, fun k other => ?_, State.rechoose_chosen on, ?_, ?_⟩
    · rw [peer, if_pos rfl, found]
      rfl
    · rw [peer, if_neg other]
    · rw [State.rechoose_shr]
      rfl
    · rw [State.rechoose_eq]
      rfl
  · have deleted : exec (.peerDelete n) s = .next (s.deleteExpiry n.val) := next_ite_pos (State.deleteDue_of on found late)
    generalize told : (if s.lostPeer n.val then s.raiseEvent .peerLost else s) = v
    have rest : v = { s with mon := v.mon, line := v.line } := by
      rw [← told]
      split
      · exact State.eq_of_blocks
      · rfl
    let u : State := v.withShr (fun r => { r with
      deleted := satInc 65535 r.deleted
      peers := r.peers.filter (fun p => decide (p.station ≠ n.val)) })
    have at_u : s.deleteExpiry n.val = u.rechoose := by rw [State.deleteExpiry, told]
    have shr : v.shr = s.shr := (congrArg State.shr rest :)
    have peer (k : Nat) : u.rechoose.shr.peer k = if k = n.val then none else s.shr.peer k := by
      rw [State.rechoose_peer, ← shr]
      exact find_filter_of_station _ _ _
    have mon : u.rechoose.mon = v.mon := by simp [u]
    have on' : u.operating = true := (State.operating_of_pwr (congrArg State.pwr rest :)).trans on
    refine ⟨u.rechoose, deleted.trans (congrArg Host.Outcome.next at_u), ?_, fun k other => ?_, State.rechoose_chosen on', ?_, ?_,
      fun k other => ?_, ?_⟩
    · rw [peer, if_pos rfl]
    · rw [peer, if_neg other]
    · rw [State.rechoose_shr, ← shr]
      rfl
    · rw [mon, ← told]
      by_cases lost : s.lostPeer n.val = true
      · rw [if_pos lost, if_pos ((State.lostPeer_iff found).mp lost)]
        exact State.raiseEvent_get _ _
      · rw [if_neg lost, if_neg fun both => lost ((State.lostPeer_iff found).mpr both)]
    · rw [mon, ← told]
      split
      · exact State.raiseEvent_get_ne _ _ _ other
      · rfl
    · rw [State.rechoose_eq]
      generalize u.rechoose.shr = chosen
      show ({ v with shr := chosen } : State) = { s with shr := chosen, mon := v.mon, line := v.line }
      rw [rest]

/-! ## Timers that queue a frame -/

/-- Settles O40: each expiry is due, and its effect is one queued kind. -/
theorem periodicTimersQueueTheirFrames : Obligations.PeriodicTimersQueueTheirFrames := by
  refine ⟨fun s d run timer due => ?_, fun s d run timer due => ?_, fun s d timer due => ?_⟩
  · have at_end : s.shareTimerDue = true := by simp [State.shareTimerDue, run, dueAt_of timer due]
    have expired : exec .shareTimer s = .next ((s.withShr (fun _ => { s.shr with
      shareTimer := s.shr.shareTimer.map Timer.again })).queue .share) := next_ite_pos at_end
    rw [expired, timer]
    rfl
  · have at_end : s.statusTimerDue = true := by simp [State.statusTimerDue, run, dueAt_of timer due]
    have expired : exec .statusTimer s = .next ((s.withMon (fun _ => { s.mon with
      statusTimer := s.mon.statusTimer.map Timer.again })).queue .status) := next_ite_pos at_end
    rw [expired, timer]
    rfl
  · have expired : exec .listenExpiry s = .next (if s.own = 0 then { s with pwr := { s.pwr with listenTimer := none } } else
        { s with pwr := { s.pwr with listenTimer := none }
                 line := { s.line with life := .active, slots := { s.line.slots with status := true } } }) :=
      next_ite_pos (dueAt_of timer due)
    exact ⟨fun numbered => by rw [expired, if_neg numbered], fun unnumbered => by rw [expired, if_pos unnumbered]⟩

/-! ## Ends of an on-time -/

theorem State.onTimeOver_iff {s : State} {c : Cam} {t0 : Time} (on : (s.drvOf c).output = true)
    (period : (s.drvOf c).periodStart = some t0) : s.onTimeOver c = true ↔
      (s.drvOf c).applied < 1000 ∧ (s.drvOf c).applied * periodLength s.settings / 1000 ≤ elapsed s.now t0 := by
  simp [State.onTimeOver, on, period]

/-- Settles O42: the condition of each command decides it. -/
theorem outputIsSwitchedOff : Obligations.OutputIsSwitchedOff := by
  refine ⟨fun s c t0 on period => ⟨fun partly passed => ?_, fun whole => ?_⟩, fun s c milliamps on => ⟨fun past => ?_, fun below => ?_⟩⟩
  · exact next_ite_pos ((State.onTimeOver_iff on period).mpr ⟨partly, passed⟩)
  · exact next_ite_neg fun passed => by
      have partly := ((State.onTimeOver_iff on period).mp passed).1
      omega
  · exact next_ite_pos ⟨on, past⟩
  · exact next_ite_neg fun both => absurd below (Nat.not_le.mpr both.2)

end Sys2Proof.Machine
end

section
/-!
The period boundary: close, judgement, open (R89, R143 to R152).
-/

set_option Elab.async false

namespace Sys2Proof.Machine

theorem State.onDrv_eq (s : State) (c : Cam) (f : Drv → Drv) : s.onDrv c f = { s with drv := s.drv.set c (f (s.drvOf c)) } := rfl

theorem State.onDrv_onDrv (s : State) (c : Cam) (f g : Drv → Drv) : (s.onDrv c f).onDrv c g = s.onDrv c (fun d => g (f d)) := by
  cases c <;> rfl

/-! ## A cam faulted by its owner (R89) -/

/-- From `s` to `t` the condition `k` becomes active and its cam goes to FAULTED with its output cut (R89, R149). -/
structure FaultRaised (c : Cam) (k : Cond) (s t : State) : Prop where
  active   : t.active k = true
  state    : (t.camOf c).state = .faulted
  drive    : t.drvOf c = { s.drvOf c with pending := 0, active := 0, applied := 0, output := false }
  integral : (t.loopOf c).integral = 0
  demand   : t.shr.demand.get c = 0
  cam      : t.camOf c.other = s.camOf c.other
  other    : t.drvOf c.other = s.drvOf c.other
  trk      : t.trk = s.trk
  pwr      : t.pwr = s.pwr

theorem State.raiseLatched_raised {s : State} {c : Cam} {k : Cond} (idle : s.active k = false) (runs : s.machineRuns c = true)
    (up : (s.camOf c).state ≠ .faulted) : FaultRaised c k s (s.raiseLatched c k) := by
  generalize told : s.activate k = u
  have camc : u.camc = s.camc := by rw [← told]; simp
  have drv : u.drv = s.drv := by rw [← told]; simp
  have goes : u.machineRuns c = true := (State.machineRuns_of_straps (by rw [← told]; simp) c).trans runs
  have up' : (u.camOf c).state ≠ .faulted := by rw [State.camOf_of_camc camc]; exact up
  have entered : s.raiseLatched c k = u.enterCam c .faulted u.now := by
    rw [State.raiseLatched, if_neg (by simp [idle]), told, State.camToFaulted, if_pos (by simp [goes, up'])]
  obtain ⟨cam, loop, drive, demand⟩ := u.enterCam_own c .faulted u.now
  have one := u.enterCam_oneCam c .faulted u.now
  rw [entered]
  refine ⟨?_, by rw [cam]; rfl, ?_, by rw [loop]; rfl, demand rfl, ?_, ?_, ?_, ?_⟩
  · rw [State.active_of_mon (s := u) (by simp), ← told]
    exact State.activate_active _ _
  · rw [drive, State.drvOf_of_drv drv]
    rfl
  · rw [one.cam, State.camOf_of_camc camc]
  · rw [one.drv, State.drvOf_of_drv drv]
  · rw [← told]
    simp
  · rw [← told]
    simp

/-! ## Close and open (R145) -/

/-- The channel with the trip run of the period that closes (R145, R151). -/
def Drv.tripJudged (d : Drv) (mean : Nat) : Drv := { d with meanCurrent := mean, tripRun := tripRunAfter d.tripped d.tripRun }

theorem State.closeTrip_quiet {s : State} {c : Cam} {mean : Nat} (sums : (s.scan.coil.get c).milliamps = mean)
    (quiet : tripRunAfter (s.drvOf c).tripped (s.drvOf c).tripRun = 8 → s.active (.coilShort c) = true) :
    s.closeTrip c = s.onDrv c (·.tripJudged mean) := by
  subst sums
  show (if (State.drvOf (s.onDrv c (·.tripJudged (s.scan.coil.get c).milliamps)) c).tripRun = 8 then _ else _ : State) = _
  rw [State.onDrv_drvOf]
  split
  next eighth => exact if_pos (quiet eighth)
  next => rfl

theorem State.closeTrip_raised {s : State} {c : Cam} {mean : Nat} (sums : (s.scan.coil.get c).milliamps = mean)
    (eighth : tripRunAfter (s.drvOf c).tripped (s.drvOf c).tripRun = 8) :
    s.closeTrip c = (s.onDrv c (·.tripJudged mean)).raiseLatched c (.coilShort c) := by
  subst sums
  show (if (State.drvOf (s.onDrv c (·.tripJudged (s.scan.coil.get c).milliamps)) c).tripRun = 8 then _ else _ : State) = _
  rw [State.onDrv_drvOf]
  exact if_pos eighth

/-- The channel with its open load judged from its own record (R152). -/
def Drv.loadJudged (d : Drv) : Drv := d.openJudged (openLoadPeriod d.applied d.meanCurrent)

theorem Drv.loadJudged_eq (d : Drv) : d.loadJudged = { d with
    openRun := if 200 ≤ d.applied ∧ d.meanCurrent < 50 then min 3 (d.openRun + 1) else 0
    openPeriods := if 200 ≤ d.applied ∧ d.meanCurrent < 50 then min 65535 (d.openPeriods + 1) else d.openPeriods } := by
  unfold Drv.loadJudged Drv.openJudged openLoadPeriod
  by_cases counts : 200 ≤ d.applied ∧ d.meanCurrent < 50
  · simp only [counts, decide_true, if_true, and_self]
    rfl
  · simp only [counts, decide_false, if_false, Bool.false_eq_true]

theorem State.closeOpenLoad_quiet {s : State} {c : Cam} (quiet : (s.drvOf c).loadJudged.openRun = 3 → s.active (.openLoad c) = true) :
    s.closeOpenLoad c = s.onDrv c Drv.loadJudged := by
  show (if (State.drvOf (s.onDrv c Drv.loadJudged) c).openRun = 3 then _ else _ : State) = _
  rw [State.onDrv_drvOf]
  split
  next third => exact if_pos (quiet third)
  next => rfl

theorem State.closeOpenLoad_raised {s : State} {c : Cam} (third : (s.drvOf c).loadJudged.openRun = 3) :
    s.closeOpenLoad c = (s.onDrv c Drv.loadJudged).raiseLatched c (.openLoad c) := by
  show (if (State.drvOf (s.onDrv c Drv.loadJudged) c).openRun = 3 then _ else _ : State) = _
  rw [State.onDrv_drvOf]
  exact if_pos third

theorem State.openPeriod_onDrv (s : State) (c : Cam) (f : Drv → Drv) : (s.onDrv c f).openPeriod c = { s with
    drv := s.drv.set c ((f (s.drvOf c)).opened s.settings (s.camOf c).state s.scan.millivolts s.now)
    scan := { s.scan with coil := s.scan.coil.set c {} } } := by
  cases c <;> rfl

/-- A period opened with a pending duty of 0 has its output off. -/
theorem Drv.opened_of_none {d : Drv} (none : d.pending = 0) (st : Settings) (state : CamState) (mv : Nat) (now : Time) :
    (d.opened st state mv now).output = false ∧ (d.opened st state mv now).applied = 0 ∧ (d.opened st state mv now).pending = 0 := by
  rw [Drv.opened_eq]
  simp [none]

theorem State.boundaryDue_of {s : State} {c : Cam} {t0 : Time} (run : s.pwr.power = .run)
    (period : (s.drvOf c).periodStart = some t0) (due : periodLength s.settings ≤ elapsed s.now t0) : s.boundaryDue c = true := by
  simp [State.boundaryDue, run, period, due]

theorem FaultRaised.opened {c : Cam} {k : Cond} {s v : State} (raised : FaultRaised c k s v) {f : Drv → Drv}
    (none : (f (v.drvOf c)).pending = 0) : ∃ t, (v.onDrv c f).openPeriod c = t
      ∧ t.active k = true ∧ (t.camOf c).state = .faulted ∧ (t.drvOf c).output = false
      ∧ (t.drvOf c).applied = 0 ∧ (t.drvOf c).pending = 0 ∧ (t.loopOf c).integral = 0 ∧ t.shr.demand.get c = 0
      ∧ (t.drvOf c).tripRun = (f (v.drvOf c)).tripRun ∧ (t.drvOf c).openPeriods = (f (v.drvOf c)).openPeriods
      ∧ t.camOf c.other = s.camOf c.other ∧ t.drvOf c.other = s.drvOf c.other ∧ t.trk = s.trk ∧ t.pwr = s.pwr := by
  obtain ⟨output, applied, pending⟩ := Drv.opened_of_none none v.settings (v.camOf c).state v.scan.millivolts v.now
  have own (d : Drv) : (v.drv.set c d).get c = d := PerCam.get_set _ _ _
  refine ⟨_, v.openPeriod_onDrv c f, raised.active, raised.state, ?_, ?_, ?_, raised.integral, raised.demand, ?_, ?_, raised.cam, ?_,
    raised.trk, raised.pwr⟩
  · exact (congrArg Drv.output (own _)).trans output
  · exact (congrArg Drv.applied (own _)).trans applied
  · exact (congrArg Drv.pending (own _)).trans pending
  · exact (congrArg Drv.tripRun (own _)).trans rfl
  · exact (congrArg Drv.openPeriods (own _)).trans rfl
  · exact (PerCam.get_set_other _ _ _).trans raised.other

/-- Settles O41: the close with or without a fault (`State.closeTrip_quiet` and its fellows), then the open (`Drv.opened_eq`). -/
theorem periodBoundaryClosesAndOpens : Obligations.PeriodBoundaryClosesAndOpens := by
  intro s c t0 run period due sums mean millivolts half isOpen tripRun openRun openPeriods
  have boundary : exec (.periodBoundary c) s = .next ((s.closePeriod c).openPeriod c) :=
    next_ite_pos (State.boundaryDue_of run period due)
  have judged : ((s.drvOf c).tripJudged mean).loadJudged = { s.drvOf c with
      meanCurrent := mean, tripRun := tripRun, openRun := openRun, openPeriods := openPeriods } := Drv.loadJudged_eq _
  have own : (s.onDrv c (·.tripJudged mean)).drvOf c = (s.drvOf c).tripJudged mean := State.onDrv_drvOf _ _ _
  have other : (s.onDrv c (·.tripJudged mean)).drvOf c.other = s.drvOf c.other := State.onDrv_drvOf_ne _ _ _ _ (Cam.other_ne c)
  constructor
  · intro noShort noOpen phase dithered dither applied
    have closed : s.closePeriod c = s.onDrv c (fun d => { (d.tripJudged mean).loadJudged with tripped := false }) := by
      have load_quiet : ((s.onDrv c (·.tripJudged mean)).drvOf c).loadJudged.openRun = 3 →
          (s.onDrv c (·.tripJudged mean)).active (.openLoad c) = true := by
        rw [own, judged]
        exact noOpen
      rw [State.closePeriod, State.closeTrip_quiet (mean := mean) rfl noShort, State.closeOpenLoad_quiet load_quiet, State.onDrv_onDrv, State.onDrv_onDrv]
    rw [boundary, closed, State.openPeriod_onDrv, judged, Drv.opened_eq]
    rfl
  · intro k cause idle runs up
    rcases cause with ⟨eighth, rfl⟩ | ⟨below, third, rfl⟩
    · have raised : FaultRaised c (.coilShort c) (s.onDrv c (·.tripJudged mean)) (s.closeTrip c) := by
        rw [State.closeTrip_raised (mean := mean) rfl eighth]
        exact State.raiseLatched_raised idle runs up
      have drive := raised.drive
      rw [own] at drive
      have unloaded : ((s.closeTrip c).drvOf c).loadJudged.openRun = 0 := by
        rw [Drv.loadJudged_eq, drive]
        rfl
      have closed : s.closePeriod c = (s.closeTrip c).onDrv c (fun d => { d.loadJudged with tripped := false }) := by
        rw [State.closePeriod, State.closeOpenLoad_quiet fun third => absurd (unloaded.symm.trans third) (by decide),
          State.onDrv_onDrv]
      have pending : { ((s.closeTrip c).drvOf c).loadJudged with tripped := false }.pending = 0 := by
        rw [Drv.loadJudged_eq, drive]
      obtain ⟨t, opened, active, state, output, applied, none, integral, demand, trips, -, cam, drv, trk, pwr⟩ :=
        raised.opened (f := fun d => { d.loadJudged with tripped := false }) pending
      refine ⟨t, boundary.trans (by rw [closed, opened]), active, state, output, applied, none, integral, demand, ?_, nofun, cam,
        drv.trans other, trk, pwr⟩
      rw [trips, Drv.loadJudged_eq, drive]
      rfl
    · have load : ((s.onDrv c (·.tripJudged mean)).drvOf c).loadJudged.openRun = 3 := by
        rw [own, judged]
        exact third
      have raised : FaultRaised c (.openLoad c) ((s.onDrv c (·.tripJudged mean)).onDrv c Drv.loadJudged)
          ((s.closeTrip c).closeOpenLoad c) := by
        rw [State.closeTrip_quiet (mean := mean) rfl fun eighth => absurd eighth below, State.closeOpenLoad_raised load]
        exact State.raiseLatched_raised idle runs up
      have drive := raised.drive
      rw [State.onDrv_drvOf, own, judged] at drive
      have pending : { ((s.closeTrip c).closeOpenLoad c).drvOf c with tripped := false }.pending = 0 := by rw [drive]
      obtain ⟨t, opened, active, state, output, applied, none, integral, demand, trips, opens, cam, drv, trk, pwr⟩ :=
        raised.opened (f := fun d => { d with tripped := false }) pending
      refine ⟨t, boundary.trans (by rw [State.closePeriod, opened]), active, state, output, applied, none, integral, demand, ?_,
        fun _ => ?_, cam, ?_, trk, pwr⟩
      · rw [trips, drive]
      · rw [opens, drive]
      · rw [drv, State.onDrv_drvOf_ne _ _ _ _ (Cam.other_ne c)]
        exact other

end Sys2Proof.Machine
end

section
/-!
Service requests: the judging of a request and its answer (R166, R187), and the reads (R43, R65, R92, R139, R188).
-/

set_option Elab.async false

namespace Sys2Proof.Machine

/-! ## A request that is served -/

theorem Line.setBuffer_slots (l : Line) (b : Buffer) (r : Option Received) : (l.setBuffer b r).slots = l.slots := by
  cases b <;> rfl

theorem State.answer_replied (s : State) (w : Received) (result : Result) (data : List Byte) :
    s.freeOldest.answer w.frame result data = s.replied w result data := by
  have line : (s.freeOldest.answer w.frame result data).line = (s.replied w result data).line := by
    show { s.freeOldest.line with slots := s.freeOldest.line.slots.set .reply true } = _
    rw [show s.freeOldest.line.slots = s.line.slots from Line.setBuffer_slots _ _ _]
    rfl
  exact State.eq_of_blocks (line := line) (service := rfl) (pending := rfl) (now := rfl) (straps := rfl) (settings := rfl) (cap := rfl)
    (scan := rfl) (trk := rfl) (phm := rfl) (camc := rfl) (loop := rfl) (shr := rfl) (drv := rfl) (supply := rfl) (mon := rfl)
    (store := rfl) (stored := rfl) (pwr := rfl) (freeDraws := rfl)

section
variable {s : State} {w : Received} {r : Option Request}

theorem State.request_of (waits : s.waiting .request = some w) (asks : requestOf w.frame.payload = r) :
    s.request r = some w := by
  unfold State.request
  rw [waits]
  exact if_pos asks

theorem State.serveRequest_asked (asked : Asked s w r) (k : State → State) : s.serveRequest w k = k s.freeOldest :=
  if_pos (by
    simp only [State.serves, Bool.and_eq_true, Bool.not_eq_true', decide_eq_true_iff]
    exact ⟨⟨asked.operating, asked.late⟩, asked.own, asked.dest⟩)

theorem State.serveRequest_dropped (k : State → State)
    (unserved : s.operating = false ∨ w.early = true ∨ s.own = 0 ∨ (w.frame.payload.getD 0 0).toNat ≠ s.own) :
    s.serveRequest w k = s.freeOldest := by
  refine if_neg fun serves => ?_
  simp only [State.serves, Bool.and_eq_true, Bool.not_eq_true', decide_eq_true_iff] at serves
  obtain ⟨⟨operating, late⟩, own, dest⟩ := serves
  rcases unserved with idle | early | unnumbered | elsewhere
  · simp [operating] at idle
  · simp [late] at early
  · exact own unnumbered
  · exact elsewhere dest

/-- What becomes of a request that waits, whichever it is (R187). -/
def State.takes (s : State) (r : Option Request) (k : Received → State → State) : State :=
  match s.request r with
  | some w => s.serveRequest w (k w)
  | none => s

theorem State.takes_asked (asked : Asked s w r) (k : Received → State → State) : s.takes r k = k w s.freeOldest := by
  unfold State.takes
  rw [State.request_of asked.waiting asked.asks]
  exact State.serveRequest_asked asked _

theorem State.takes_dropped (waits : s.waiting .request = some w) (asks : requestOf w.frame.payload = r)
    (unserved : s.operating = false ∨ w.early = true ∨ s.own = 0 ∨ (w.frame.payload.getD 0 0).toNat ≠ s.own)
    (k : Received → State → State) : s.takes r k = s.freeOldest := by
  unfold State.takes
  rw [State.request_of waits asks]
  exact State.serveRequest_dropped _ unserved

end

/-! ## Values (R188) -/

theorem value16_eq (x : Int) : value16 x = [BitVec.ofInt 8 (x / 256), BitVec.ofInt 8 x] := by
  have high : (BitVec.ofInt 16 x).extractLsb' 8 8 = BitVec.ofInt 8 (x / 256) := by
    apply BitVec.eq_of_toNat_eq
    simp only [BitVec.extractLsb'_toNat, BitVec.toNat_ofInt, Nat.shiftRight_eq_div_pow]
    omega
  have low : (BitVec.ofInt 16 x).extractLsb' 0 8 = BitVec.ofInt 8 x := by
    apply BitVec.eq_of_toNat_eq
    simp only [BitVec.extractLsb'_toNat, BitVec.toNat_ofInt, Nat.shiftRight_zero]
    omega
  rw [value16, bytes16, high, low]

theorem entryCode_le (c : Cam) : entryCode c ≤ 1 := by cases c <;> decide

theorem camOfCode_entryCode (c : Cam) : camOfCode (entryCode c) = c := by cases c <;> rfl

/-- Settles O49: the pages' values are those of the blocks that hold them, code by code. -/
theorem camAndTrackerAreRead : Obligations.CamAndTrackerAreRead := by
  refine ⟨value16_eq, fun s w c asked => ?_, fun s w asked => ?_⟩
  · intro cam page part six status result
    have taken : exec .readCam s = .next (State.readCam w.frame s.freeOldest) :=
      congrArg Host.Outcome.next (State.takes_asked asked fun w => State.readCam w.frame)
    have served {c : Cam} (code : cam = entryCode c) (low : part ≤ 3) (exists_page : page ≤ 1) :
        exec .readCam s = .next (s.replied w .ok (six (if page = 0 then s.camPage0 c else s.camPage1 c))) := by
      have fits : ¬(1 < cam ∨ 1 < page ∨ 3 < part) := by have := entryCode_le c; omega
      rw [taken, State.readCam, if_neg fits]
      show Host.Outcome.next (if page = 0 then
        s.freeOldest.answer w.frame .ok (six (s.freeOldest.camPage0 (camOfCode cam))) else
        s.freeOldest.answer w.frame .ok (six (s.freeOldest.camPage1 (camOfCode cam)))) = _
      rw [code, camOfCode_entryCode, State.answer_replied, State.answer_replied]
      split <;> rfl
    refine ⟨fun wrong => ?_, fun code low first => ?_, fun code low second => ?_⟩
    · rw [taken, State.readCam, if_pos wrong, State.answer_replied]
    · rw [served (c := c) (code.trans (by cases c <;> rfl)) low (by omega), if_pos first]
      refine congrArg (fun values => Host.Outcome.next (s.replied w .ok (six values))) ?_
      unfold State.camPage0
      cases (s.phmOf c).measurement <;> cases (s.camOf c).state <;> rfl
    · rw [served (c := c) (code.trans (by cases c <;> rfl)) low (by omega), if_neg (by omega)]
      have shown : learnValues (s.phmOf c).lastResult = result := by
        cases last : (s.phmOf c).lastResult with
        | none => simp only [result, last] <;> rfl
        | some r =>
          obtain ⟨outcome, collected, spread, mean, origin⟩ := r
          simp only [result, last]
          cases spread <;> cases mean <;> rfl
      rw [State.camPage1, shown]
      rfl
  · have taken : exec .readTracker s = .next (State.readTracker w.frame s.freeOldest) :=
      congrArg Host.Outcome.next (State.takes_asked asked fun w => State.readTracker w.frame)
    refine ⟨fun wrong => ?_, fun right => ?_⟩
    · rw [taken, State.readTracker, if_pos wrong, State.answer_replied]
    · rw [taken, State.readTracker, if_neg (by omega), State.answer_replied]
      refine congrArg (fun values : List Int => Host.Outcome.next (s.replied w .ok (values.flatMap value16))) ?_
      show s.trk.values = _
      unfold Trk.values Trk.shownTooth
      cases s.trk.state <;> rcases s.trk.half with _ | _ | _ <;> rfl

end Sys2Proof.Machine
end

section
/-!
The reads of peers, conditions and counters (R139, R188).
-/

set_option Elab.async false

namespace Sys2Proof.Machine

/-! ## READ_PEER -/

section
variable {s : State} {f : Frame}

theorem State.readPeer_badIndex (wrong : argument f.payload 0 = s.own ∨ 7 < argument f.payload 0 ∨ 2 < argument f.payload 1
    ∨ s.shr.peer (argument f.payload 0) = none) : s.readPeer f = s.answer f .badIndex [] := by
  unfold State.readPeer
  dsimp only
  split
  next => rfl
  next right =>
    have missing : s.shr.peer (argument f.payload 0) = none := by
      rcases wrong with own | high | part | missing
      · exact absurd (.inl own) right
      · exact absurd (.inr (.inl (by omega))) right
      · exact absurd (.inr (.inr part)) right
      · exact missing
    rw [missing]

theorem State.readPeer_filed {p : Peer} {d : ShareData} (other : argument f.payload 0 ≠ s.own) (low : argument f.payload 0 ≤ 7)
    (part : argument f.payload 1 ≤ 2) (found : s.shr.peer (argument f.payload 0) = some p) (filed : p.share = some d) (moving : Int) :
    s.readPeer f = s.answer f .ok (partOf (p.values s.now moving) (argument f.payload 1)) := by
  have values (free : Int) : p.values s.now free = p.values s.now moving := by
    unfold Peer.values Peer.shareValues
    rw [filed]
  unfold State.readPeer
  dsimp only
  rw [if_neg (by omega), found]
  dsimp only
  rw [if_neg (by simp [filed]), values]

end

theorem Peer.values_of_filed {p : Peer} {d : ShareData} (filed : p.share = some d) (now : Time) (free : Int) : p.values now free =
    [(p.station : Int), p.role.code, flagValue (!p.fresh), p.lastSeq, p.missed, ((elapsed now p.lastRefresh / 2000 : Nat) : Int),
      d.demand, d.grant, d.flow, (p.pressure.elim 65535 (fun k => (k : Int))), movingValue d.moving] ++ reportValues p.report := by
  unfold Peer.values Peer.shareValues
  rw [filed]
  cases p.pressure <;> rfl

/-! ## READ_CONDITION and READ_COUNTERS -/

theorem State.readCondition_of {s : State} {f : Frame} {k : Fin 20} (code : argument f.payload 0 = k.val + 1) :
    s.readCondition f = s.answer f .ok (partOf (s.mon.records.get k).values 0) := by
  unfold State.readCondition
  dsimp only
  have known : 1 ≤ argument f.payload 0 ∧ argument f.payload 0 ≤ 20 := by omega
  rw [dif_pos known]
  have same : (⟨argument f.payload 0 - 1, by omega⟩ : Fin 20) = k := Fin.ext (by simp [code])
  rw [same]

theorem partOf_all {values : List Int} (few : values.length ≤ 6) : partOf values 0 = values.flatMap value16 := by
  rw [partOf, List.drop_zero, List.take_of_length_le few]

theorem State.counters_length (s : State) (group : Nat) : (s.counters group).length ≤ 6 := by
  unfold State.counters
  split <;> simp [perCamCounters]

theorem State.readCounters_of {s : State} {f : Frame} (low : argument f.payload 0 ≤ 7) :
    s.readCounters f = s.answer f .ok (partOf ((s.counters (argument f.payload 0)).map Nat.cast) 0) := by
  rw [State.readCounters, if_neg (by omega)]
  congr 2
  simp [List.map_eq_flatMap]

theorem State.freeOldest_counters (s : State) (group : Nat) : s.freeOldest.counters group = s.counters group := by
  show State.counters { s with line := s.line.setBuffer s.line.oldestBuffer none } group = _
  cases s.line.oldestBuffer <;> rfl

/-- Settles O50: the values of the record read, with the codes for what it does not hold. -/
theorem peersConditionsAndCountersAreRead : Obligations.PeersConditionsAndCountersAreRead := by
  refine ⟨fun s w asked => ?_, fun s w asked => ?_, fun s w asked => ?_⟩
  · intro n part
    have taken : exec .readPeer s = .next (State.readPeer w.frame s.freeOldest) :=
      congrArg Host.Outcome.next (State.takes_asked asked fun w => State.readPeer w.frame)
    refine ⟨fun wrong => ?_, fun p d other low few found filed => ?_⟩
    · rw [taken, State.readPeer_badIndex (s := s.freeOldest) wrong, State.answer_replied]
    · rw [taken, State.readPeer_filed (s := s.freeOldest) other low few found filed 0, State.answer_replied,
        Peer.values_of_filed filed]
      refine congrArg (fun values : List Int => Host.Outcome.next (s.replied w .ok (((values.drop (6 * part)).take 6).flatMap value16))) ?_
      have stale : flagValue (!p.fresh) = if p.fresh then 0 else 1 := by cases p.fresh <;> rfl
      have moving : movingValue d.moving = (if d.moving.i then 1 else 0) + (if d.moving.e then 2 else 0) := by
        unfold movingValue
        cases d.moving.e <;> rfl
      rw [stale, moving]
      rcases p.report with _ | ⟨half, source⟩
      · cases p.pressure <;> rfl
      · cases half <;> cases source <;> cases p.pressure <;> rfl
  · intro code
    have taken : exec .readCondition s = .next (State.readCondition w.frame s.freeOldest) :=
      congrArg Host.Outcome.next (State.takes_asked asked fun w => State.readCondition w.frame)
    refine ⟨fun wrong => ?_, fun k known => ?_⟩
    · rw [taken, State.readCondition, dif_neg (by omega), State.answer_replied]
    · intro r
      rw [taken, State.readCondition_of known, State.answer_replied]
      rfl
  · intro group two lists
    have taken : exec .readCounters s = .next (State.readCounters w.frame s.freeOldest) :=
      congrArg Host.Outcome.next (State.takes_asked asked fun w => State.readCounters w.frame)
    refine ⟨fun wrong => ?_, fun l found => ?_⟩
    · rw [taken, State.readCounters, if_pos wrong, State.answer_replied]
    · have all : lists = (List.range 8).map s.counters := rfl
      have counted : group ≤ 7 ∧ s.counters group = l := by
        rw [all, List.getElem?_map] at found
        by_cases low : group < 8
        · rw [List.getElem?_range low] at found
          exact ⟨by omega, Option.some.inj found⟩
        · rw [List.getElem?_eq_none (by simpa using low)] at found
          cases found
      rw [taken, State.readCounters_of counted.1, State.answer_replied, State.freeOldest_counters, counted.2,
        partOf_all (by rw [List.length_map, ← counted.2]; exact State.counters_length _ _), List.flatMap_map]

end Sys2Proof.Machine
end

section
/-!
The requests known by code and length, and the reads and writes of settings (R182, R187).
-/

set_option Elab.async false

namespace Sys2Proof.Machine

/-! ## The table of requests (R187) -/

/-- The requests with their codes and accepted payload lengths. -/
def requestTable : List (Request × Nat × List Nat) :=
  [(.readCam, 1, [4, 5]), (.readTracker, 2, [2, 3]), (.readPeer, 3, [3, 4]), (.readCondition, 4, [3]), (.readCounters, 5, [3]),
    (.readSetting, 6, [3, 4]), (.writeSetting, 7, [11]), (.learnPark, 8, [3]), (.clearConditions, 9, [2])]

theorem requestOfCode_eq_some {n : Nat} {r : Request} {lengths : List Nat} (known : requestOfCode n = some (r, lengths)) :
    (r, n, lengths) ∈ requestTable := by
  unfold requestOfCode at known
  split at known <;> cases known <;> decide

theorem requestOfCode_of_mem : ∀ x ∈ requestTable, requestOfCode x.2.1 = some (x.1, x.2.2) := by decide

theorem requestTable_unique : ∀ x ∈ requestTable, ∀ y ∈ requestTable, x.1 = y.1 → x = y := by decide

theorem requestOf_eq_some {payload : List Byte} {r : Request} (known : requestOf payload = some r) :
    ∃ lengths, requestOfCode (payload.getD 1 0).toNat = some (r, lengths) ∧ payload.length ∈ lengths := by
  unfold requestOf at known
  split at known
  next q lengths code =>
    split at known
    next accepted =>
      obtain rfl : q = r := Option.some.inj known
      exact ⟨lengths, code, accepted⟩
    · cases known
  · cases known

theorem requestOf_iff {payload : List Byte} {x : Request × Nat × List Nat} (mem : x ∈ requestTable) :
    requestOf payload = some x.1 ↔ (payload.getD 1 0).toNat = x.2.1 ∧ payload.length ∈ x.2.2 := by
  constructor
  · intro known
    obtain ⟨lengths, code, accepted⟩ := requestOf_eq_some known
    have same := requestTable_unique _ (requestOfCode_eq_some code) x mem rfl
    rw [← same]
    exact ⟨rfl, accepted⟩
  · rintro ⟨code, accepted⟩
    unfold requestOf
    rw [code, requestOfCode_of_mem x mem]
    exact if_pos accepted

/-! ## Left-over bits (R182) -/

theorem bytesOfNum_numOfBytes (bytes : List Byte) : bytesOfNum bytes.length (numOfBytes bytes) = bytes := by
  induction bytes using List.reverseRecOn with
  | nil => rfl
  | append_singleton front b ih =>
    have small : b.toNat < 256 := b.isLt
    rw [numOfBytes_append, List.length_append, List.length_singleton, bytesOfNum,
      show (numOfBytes front * 256 + b.toNat) / 256 = numOfBytes front by omega, ih]
    congr 2
    apply BitVec.eq_of_toNat_eq
    rw [BitVec.toNat_ofNat]
    omega

/-- Clearing the last `k` bits of a number clears those of its last byte. -/
theorem clear_low_bits {k : Nat} (few : k ≤ 8) (high : Nat) (b : Byte) :
    (high * 256 + b.toNat) / 2 ^ k * 2 ^ k = high * 256 + ((b >>> k) <<< k).toNat := by
  have small : b.toNat < 256 := b.isLt
  have cleared : ((b >>> k) <<< k).toNat = b.toNat / 2 ^ k * 2 ^ k := by
    have least := Nat.div_mul_le_self b.toNat (2 ^ k)
    rw [BitVec.toNat_shiftLeft, BitVec.toNat_ushiftRight, Nat.shiftLeft_eq, Nat.shiftRight_eq_div_pow]
    exact Nat.mod_eq_of_lt (by omega)
  rw [cleared]
  interval_cases k <;> omega

/-- The bits left over at a group's end. -/
def leftOverBits (group : Nat) : Nat := [2, 2, 4, 4, 6, 1, 5, 3].getD group 0

theorem groupWidths_last {group : Nat} (known : group ≤ 7) : (groupWidths group).getLastD 0 = leftOverBits group
    ∧ leftOverBits group ≤ 8 := by
  interval_cases group <;> decide

/-- The image's bytes of a group are read with its left-over bits as 0. -/
theorem groupRead_eq {image front : List Byte} {last : Byte} {group : Nat} (known : group ≤ 7)
    (bytes : (image.drop (8 * group)).take 8 = front ++ [last]) (length : front.length = 7) :
    groupRead image group = front ++ [(last >>> leftOverBits group) <<< leftOverBits group] := by
  obtain ⟨width, few⟩ := groupWidths_last known
  have whole := bytesOfNum_numOfBytes (front ++ [(last >>> leftOverBits group) <<< leftOverBits group])
  rw [List.length_append, length] at whole
  unfold groupRead groupBytes
  rw [bytes, width, numOfBytes_append]
  show bytesOfNum 8 (_ / 2 ^ leftOverBits group * 2 ^ leftOverBits group) = _
  rw [clear_low_bits few, ← numOfBytes_append]
  exact whole

/-- Settles O51: a request is known by `requestOf_iff`, an image is read by `groupRead_eq`. -/
theorem settingsAreReadAndWritten : Obligations.SettingsAreReadAndWritten := by
  refine ⟨fun payload => ⟨fun x mem => requestOf_iff mem, fun k => rfl⟩, fun s w asked => ?_, fun s w asked => ?_,
    fun s w asked => ?_, fun s w c r mem waits asks unserved => ?_⟩
  · intro group image
    have taken : exec .readSetting s = .next (State.readSetting w.frame s.freeOldest) :=
      congrArg Host.Outcome.next (State.takes_asked asked fun w => State.readSetting w.frame)
    refine ⟨fun wrong => ?_, fun low in_use => ?_, fun front last low next_start bytes length => ?_⟩
    · rw [taken, State.readSetting, if_pos wrong, State.answer_replied]
    · rw [taken, State.readSetting, if_neg (by omega), if_pos in_use, State.answer_replied]
      rfl
    · intro leftOver
      rw [taken, State.readSetting, if_neg (by omega), if_neg (by omega), State.answer_replied]
      exact congrArg (fun data => Host.Outcome.next (s.replied w .ok data)) (groupRead_eq low bytes length)
  · intro group
    have taken : exec .writeSetting s = .next (State.writeSetting w.frame s.freeOldest) :=
      congrArg Host.Outcome.next (State.takes_asked asked fun w => State.writeSetting w.frame)
    refine ⟨fun wrong => ?_, fun low turning => ?_, fun low stopped => ?_⟩
    · rw [taken, State.writeSetting, if_pos wrong, State.answer_replied]
    · have turning' : s.freeOldest.trk.state ≠ .stopped := turning
      rw [taken, State.writeSetting, if_neg (by omega), if_pos turning', State.answer_replied]
    · have stopped' : ¬s.freeOldest.trk.state ≠ .stopped := not_not.mpr stopped
      rw [taken, State.writeSetting, if_neg (by omega), if_neg stopped']
      exact congrArg Host.Outcome.next (State.answer_replied { s with store := { s.store with
        configImage := replaceGroup s.store.configImage group ((w.frame.payload.drop 3).take 8)
        dirty := { s.store.dirty with config := true } } } w .ok [])
  · have taken : exec .unknownRequest s = .next (s.freeOldest.answer w.frame .badRequest []) :=
      congrArg Host.Outcome.next (State.takes_asked asked fun w t => t.answer w.frame .badRequest [])
    rw [taken, State.answer_replied]
  · simp only [List.mem_cons, List.not_mem_nil, or_false, Prod.mk.injEq] at mem
    have dropped := State.takes_dropped waits asks unserved
    rcases mem with ⟨rfl, rfl⟩ | ⟨rfl, rfl⟩ | ⟨rfl, rfl⟩ | ⟨rfl, rfl⟩ | ⟨rfl, rfl⟩ | ⟨rfl, rfl⟩ | ⟨rfl, rfl⟩ | ⟨rfl, rfl⟩
      | ⟨rfl, rfl⟩ | ⟨rfl, rfl⟩
    all_goals exact congrArg Host.Outcome.next (dropped _)

end Sys2Proof.Machine
end

section
/-!
Learn runs: their start by request and their evaluation (R59 to R65).
-/

set_option Elab.async false

namespace Sys2Proof.Machine

/-! ## The spread (R61) -/

/-- The spread is the largest difference of two values. -/
theorem spreadOf_le_iff (values : List Int) (bound : Nat) :
    spreadOf values ≤ bound ↔ ∀ x ∈ values, ∀ y ∈ values, x - y ≤ bound := by
  cases values with
  | nil => simp [spreadOf]
  | cons x rest =>
    obtain ⟨max_mem, above⟩ := List.max?_eq_some_iff.mp (List.max?_cons' (x := x) (xs := rest))
    obtain ⟨min_mem, below⟩ := List.min?_eq_some_iff.mp (List.min?_cons' (x := x) (xs := rest))
    constructor
    · intro small a a_mem b b_mem
      have high := above a a_mem
      have low := below b b_mem
      simp only [spreadOf] at small
      omega
    · intro all
      have widest := all _ max_mem _ min_mem
      simp only [spreadOf]
      omega

theorem runSucceeds_iff (values : List Int) : runSucceeds values = true ↔
    (∀ x ∈ values, ∀ y ∈ values, x - y ≤ 16) ∧ -3072 ≤ values.sum ∧ values.sum ≤ 3072 := by
  rw [runSucceeds, decide_eq_true_iff, spreadOf_le_iff]
  rfl

/-! ## The end of a run (R61 to R63) -/

section
variable {s : State} {c : Cam} {raw : Int}

/-- The meter with its 32nd value. -/
def Phm.complete (p : Phm) (raw : Int) : Phm := { p with collector := p.collector ++ [raw] }

theorem State.collect_last (run : (s.phmOf c).status = .learning) (last : (s.phmOf c).collector.length = 31) :
    s.collect c raw = (s.metered c ((s.phmOf c).complete raw)).evaluateRun c := by
  unfold State.collect
  rw [if_pos run]
  exact if_pos (by rw [State.onPhm_phmOf]; simp [last])

theorem State.evaluateRun_ok {p : Phm} (ok : runSucceeds p.collector = true) : (s.metered c p).evaluateRun c =
    { s.metered c p.succeed with store := { s.store with
        dirty := { s.store.dirty with cams := s.store.dirty.cams.set c true }
        camImages := s.store.camImages.set c (CamRecord.encode ⟨roundedMean p.collector.sum, true, (s.loopOf c).hold⟩) } } := by
  have image : (s.metered c p.succeed).camRecord c = ⟨roundedMean p.collector.sum, true, (s.loopOf c).hold⟩ := by
    simp only [State.camRecord, State.metered_phmOf]
    rfl
  rw [State.evaluateRun, State.metered_phmOf, if_pos ok, State.onPhm_metered, State.refreshImage, image]
  rfl

theorem State.evaluateRun_failed {p : Phm} (failed : ¬runSucceeds p.collector = true) : (s.metered c p).evaluateRun c =
    (s.metered c p.fail).raiseEvent .learnFailed := by
  rw [State.evaluateRun, State.metered_phmOf, if_neg failed, State.onPhm_metered]

end

theorem State.metered_phmOf_other (s : State) (c : Cam) (p : Phm) : (s.metered c p).phmOf c.other = s.phmOf c.other :=
  PerCam.get_set_other _ _ _

/-- Settles O52: a request is judged by `State.canLearn_iff`, a run by `runSucceeds_iff`. -/
theorem learnRunsAreStartedAndEvaluated : Obligations.LearnRunsAreStartedAndEvaluated := by
  refine ⟨fun s w c asked => ?_, fun s c raw run last => ?_⟩
  · intro cam
    have taken : exec .learnPark s = .next (State.learnPark w.frame s.freeOldest) :=
      congrArg Host.Outcome.next (State.takes_asked asked fun w => State.learnPark w.frame)
    refine ⟨fun wrong => ?_, fun code => ?_⟩
    · rw [taken, State.learnPark, if_pos wrong, State.answer_replied]
    · have known : camOfCode cam = c := by
        rw [code]
        cases c <;> rfl
      have right : ¬1 < cam := by
        rw [code]
        cases c <;> decide
      have judged : exec .learnPark s = .next (if (s.phmOf c).status = .learning then s.replied w .busy [] else
          if s.canLearn c then State.replied (s.metered c ((s.phmOf c).startRun .requested)) w .ok []
          else s.replied w .refused []) := by
        rw [taken, State.learnPark, if_neg right, known, State.answer_replied, State.answer_replied]
        exact congrArg (fun started => Host.Outcome.next (if (s.phmOf c).status = .learning then s.replied w .busy [] else
          if s.canLearn c then started else s.replied w .refused []))
          (State.answer_replied (s.metered c ((s.phmOf c).startRun .requested)) w .ok [])
      refine ⟨fun running => by rw [judged, if_pos running], fun idle => ⟨fun may => ?_, fun may_not => ?_⟩⟩
      · rw [judged, if_neg idle, if_pos ((State.canLearn_iff s c).mpr may)]
        rfl
      · rw [judged, if_neg idle, if_neg fun can => may_not ((State.canLearn_iff s c).mp can)]
  · intro values ok t
    have ended : t = (s.metered c ((s.phmOf c).complete raw)).evaluateRun c := State.collect_last run last
    by_cases success : runSucceeds values = true
    · have holds : ok := (runSucceeds_iff values).mp success
      have done := ended.trans (State.evaluateRun_ok (p := (s.phmOf c).complete raw) success)
      have own : t.phmOf c = ((s.phmOf c).complete raw).succeed := by
        rw [done]
        exact State.metered_phmOf _ _ _
      have other : t.phmOf c.other = s.phmOf c.other := by
        rw [done]
        exact State.metered_phmOf_other _ _ _
      refine ⟨by rw [own]; rfl, by rw [own]; rfl, by rw [own]; rfl, other, by rw [done]; rfl, by rw [done]; rfl, by rw [done]; rfl,
        by rw [done]; rfl, fun _ => ⟨by rw [own]; rfl, by rw [own]; rfl, by rw [done]; rfl, by rw [done]; rfl, by rw [own]; rfl⟩,
        fun fails => absurd holds fails⟩
    · have fails : ¬ok := fun holds => success ((runSucceeds_iff values).mpr holds)
      have done := ended.trans (State.evaluateRun_failed (p := (s.phmOf c).complete raw) success)
      have own : t.phmOf c = ((s.phmOf c).complete raw).fail := by
        rw [done, State.raiseEvent_phmOf]
        exact State.metered_phmOf _ _ _
      have other : t.phmOf c.other = s.phmOf c.other := by
        rw [done, State.raiseEvent_phmOf]
        exact State.metered_phmOf_other _ _ _
      have record : t.mon.get .learnFailed = { s.mon.get .learnFailed with
          pending := true, count := min 255 ((s.mon.get .learnFailed).count + 1) } := by
        rw [done]
        exact State.raiseEvent_get _ _
      refine ⟨by rw [own]; rfl, by rw [own]; rfl, by rw [own]; rfl, other, by rw [done]; simp [State.metered],
        by rw [done]; simp [State.metered], by rw [done]; simp [State.metered], by rw [done]; simp [State.metered],
        fun holds => absurd holds fails, fun _ => ⟨by rw [own]; rfl, by rw [own]; rfl, by rw [done]; simp [State.metered],
        by rw [record], by rw [record]⟩⟩

end Sys2Proof.Machine
end

section
/-!
CLEAR_CONDITIONS (R89, R180).
-/

set_option Elab.async false

namespace Sys2Proof.Machine

/-! ## The records (R180) -/

/-- The latched conditions of a cam (R89). -/
def Cond.Latched (c : Cam) (k : Cond) : Prop := k = .coilShort c ∨ k = .openLoad c ∨ k = .phaseStuck c

theorem Mon.get_map (m : Mon) (f : CondRecord → CondRecord) (k : Cond) :
    Mon.get { m with records := m.records.map f } k = f (m.get k) := by
  simp [Mon.get, Vector.get]

theorem Mon.release_latched (m : Mon) {c : Cam} {k : Cond} (latched : k.Latched c) : (m.release c).get k = (m.get k).released := by
  unfold Mon.release
  simp only [List.foldl_cons, List.foldl_nil]
  have short_load : Cond.coilShort c ≠ .openLoad c := nofun
  have short_stuck : Cond.coilShort c ≠ .phaseStuck c := nofun
  have load_stuck : Cond.openLoad c ≠ .phaseStuck c := nofun
  rcases latched with rfl | rfl | rfl
  · rw [Mon.get_put_ne _ _ _ _ short_stuck, Mon.get_put_ne _ _ _ _ short_load, Mon.get_put]
  · rw [Mon.get_put_ne _ _ _ _ load_stuck, Mon.get_put, Mon.get_put_ne _ _ _ _ short_load.symm]
  · rw [Mon.get_put, Mon.get_put_ne _ _ _ _ load_stuck.symm, Mon.get_put_ne _ _ _ _ short_stuck.symm]

theorem Mon.release_other (m : Mon) {c : Cam} {k : Cond} (other : ¬k.Latched c) : (m.release c).get k = m.get k := by
  simp only [Cond.Latched, not_or] at other
  obtain ⟨short, load, stuck⟩ := other
  unfold Mon.release
  simp only [List.foldl_cons, List.foldl_nil]
  rw [Mon.get_put_ne _ _ _ _ stuck, Mon.get_put_ne _ _ _ _ load, Mon.get_put_ne _ _ _ _ short]

theorem Cond.Latched.unique {c d : Cam} {k : Cond} (one : k.Latched c) (two : k.Latched d) : c = d := by
  rcases one with rfl | rfl | rfl <;> rcases two with same | same | same <;> cases same <;> rfl

/-- A latched record of a cam in FAULTED is cleared and released. -/
theorem Mon.clear_latched (m : Mon) {faulted : PerCam Bool} {c : Cam} {k : Cond} (fault : faulted.get c = true) (latched : k.Latched c) :
    (m.clear faulted).get k = (m.get k).cleared.released := by
  have elsewhere {d : Cam} (ne : d ≠ c) : ¬k.Latched d := fun also => ne (also.unique latched)
  unfold Mon.clear
  cases c with
  | i =>
    dsimp only
    rw [if_pos (show faulted.i = true from fault)]
    split
    · rw [Mon.release_other _ (elsewhere (by decide)), Mon.release_latched _ latched, Mon.get_map]
    · rw [Mon.release_latched _ latched, Mon.get_map]
  | e =>
    dsimp only
    rw [if_pos (show faulted.e = true from fault), Mon.release_latched _ latched]
    split
    · rw [Mon.release_other _ (elsewhere (by decide)), Mon.get_map]
    · rw [Mon.get_map]

theorem Mon.clear_other (m : Mon) {faulted : PerCam Bool} {k : Cond} (other : ∀ c, faulted.get c = true → ¬k.Latched c) :
    (m.clear faulted).get k = (m.get k).cleared := by
  unfold Mon.clear
  dsimp only
  split
  next e =>
    rw [Mon.release_other _ (other .e e)]
    split
    next i => rw [Mon.release_other _ (other .i i), Mon.get_map]
    next => rw [Mon.get_map]
  next =>
    split
    next i => rw [Mon.release_other _ (other .i i), Mon.get_map]
    next => rw [Mon.get_map]

/-! ## The cams (R89) -/

theorem State.releaseFaulted_oneCam (s : State) (c : Cam) : OneCam c s (s.releaseFaulted c) := by
  unfold State.releaseFaulted
  split
  · exact s.enterCam_oneCam c _ _
  · exact OneCam.refl c s

theorem State.releaseFaulted_stands {s : State} {c : Cam} (up : (s.camOf c).state ≠ .faulted) : s.releaseFaulted c = s := if_neg up

theorem State.releaseFaulted_off {s : State} {c : Cam} (fault : (s.camOf c).state = .faulted) :
    ((s.releaseFaulted c).camOf c).state = .off ∧ ((s.releaseFaulted c).drvOf c).pending = 0 := by
  obtain ⟨cam, -, drive, -⟩ := s.enterCam_own c .off s.now
  rw [State.releaseFaulted, if_pos fault, cam, drive]
  exact ⟨rfl, rfl⟩

/-- Each cam's part of the release of both: as its own, after that of the other cam at most. -/
theorem State.bothReleased_each (s : State) (c : Cam) : ∃ v, OneCam c.other s v
    ∧ (s.bothCams State.releaseFaulted).camOf c = (v.releaseFaulted c).camOf c
    ∧ (s.bothCams State.releaseFaulted).drvOf c = (v.releaseFaulted c).drvOf c
    ∧ (s.bothCams State.releaseFaulted).loopOf c = (v.releaseFaulted c).loopOf c := by
  cases c with
  | i =>
    have second := (s.releaseFaulted .i).releaseFaulted_oneCam .e
    exact ⟨s, OneCam.refl _ s, second.cam, second.drv, second.loop⟩
  | e => exact ⟨s.releaseFaulted .i, s.releaseFaulted_oneCam .i, rfl, rfl, rfl⟩

/-- Which cams are in FAULTED. -/
def State.faulted (s : State) : PerCam Bool := ⟨decide ((s.camOf .i).state = .faulted), decide ((s.camOf .e).state = .faulted)⟩

theorem State.faulted_iff (s : State) (c : Cam) : s.faulted.get c = true ↔ (s.camOf c).state = .faulted := by
  cases c <;> exact decide_eq_true_iff

theorem State.clearConditions_mon (s : State) : s.clearConditions.mon = s.mon.clear s.faulted := by
  simp [State.clearConditions, State.bothCams, State.faulted]

/-- The cams after a clearing (R89): those in FAULTED go to OFF, the others stand. -/
theorem State.clearConditions_cam (s : State) (c : Cam) :
    ((s.camOf c).state = .faulted → (s.clearConditions.camOf c).state = .off ∧ (s.clearConditions.drvOf c).pending = 0)
    ∧ ((s.camOf c).state ≠ .faulted → s.clearConditions.camOf c = s.camOf c ∧ s.clearConditions.drvOf c = s.drvOf c
      ∧ s.clearConditions.loopOf c = s.loopOf c) := by
  generalize told : s.changeMon (·.clear s.faulted) = u
  have done : s.clearConditions = u.bothCams State.releaseFaulted := by rw [← told]; rfl
  have cam : u.camOf c = s.camOf c := State.camOf_of_camc (by rw [← told]; simp) c
  have drv : u.drvOf c = s.drvOf c := State.drvOf_of_drv (by rw [← told]; simp) c
  have loop : u.loopOf c = s.loopOf c := State.loopOf_of_loop (by rw [← told]; simp) c
  obtain ⟨v, one, camOf, drvOf, loopOf⟩ := u.bothReleased_each c
  have at_v : v.camOf c = s.camOf c := (one.camOf_ne (Cam.other_ne c).symm).trans cam
  rw [done, camOf, drvOf, loopOf]
  refine ⟨fun fault => State.releaseFaulted_off (by rw [at_v, fault]), fun up => ?_⟩
  rw [State.releaseFaulted_stands (by rw [at_v]; exact up)]
  have drive := one.drv
  have position := one.loop
  rw [Cam.other_other] at drive position
  exact ⟨at_v, drive.trans drv, position.trans loop⟩

/-- Settles O53: the records are `Mon.clear_latched` and `Mon.clear_other`, the cams `State.clearConditions_cam`. -/
theorem clearConditionsReleasesFaultedCams : Obligations.ClearConditionsReleasesFaultedCams := by
  intro s w asked
  have taken : exec .clearConditions s = .next (s.freeOldest.clearConditions.answer w.frame .ok []) :=
    congrArg Host.Outcome.next (State.takes_asked asked fun w t => t.clearConditions.answer w.frame .ok [])
  have mon := s.freeOldest.clearConditions_mon
  have cams (c : Cam) := s.freeOldest.clearConditions_cam c
  have blocks := s.freeOldest.clearConditions_frame
  generalize s.freeOldest.clearConditions = u at taken mon cams blocks
  have records (k : Cond) : (u.answer w.frame .ok []).mon.get k = (s.mon.clear s.faulted).get k := congrArg (Mon.get · k) mon
  refine ⟨_, taken, fun k idle => ?_, fun k active => ?_, fun c fault => (cams c).1 fault, fun c up => (cams c).2 up, rfl, rfl, ?_⟩
  · have cleared : (s.mon.get k).cleared = ⟨false, false, 0⟩ := by
      rw [CondRecord.cleared, if_neg (by simpa [State.active] using idle)]
      exact congrArg (fun a => (⟨a, false, 0⟩ : CondRecord)) idle
    rw [records]
    by_cases latched : ∃ c, s.faulted.get c = true ∧ k.Latched c
    · obtain ⟨c, fault, latched⟩ := latched
      rw [Mon.clear_latched _ fault latched, cleared]
      rfl
    · rw [Mon.clear_other _ fun c fault latched' => latched ⟨c, fault, latched'⟩, cleared]
  · have cleared : (s.mon.get k).cleared = s.mon.get k := if_pos active
    intro ends
    refine ⟨fun ⟨c, fault, latched⟩ => ?_, fun stands => ?_⟩
    · rw [records, Mon.clear_latched _ ((s.faulted_iff c).mpr fault) latched, cleared]
      exact if_pos active
    · rw [records, Mon.clear_other _ fun c fault latched => stands ⟨c, (s.faulted_iff c).mp fault, latched⟩, cleared]
  · obtain ⟨-, now, -, settings, cap, scan, trk, supply, store, stored, -, pwr, -⟩ := blocks
    exact ⟨cap, scan, trk, supply, store, stored, pwr, settings, now⟩

end Sys2Proof.Machine
end

section
/-!
Writes of the settings store (R182, R183, R185).
-/

set_option Elab.async false

namespace Sys2Proof.Machine

theorem State.writeReady_of {s : State} (on : s.operating = true) (free : s.store.inFlight = none) (supplied : s.active .supplyLow = false) :
    s.writeReady = s.store.firstDirty := if_pos (by simp [on, free, supplied])

theorem exec_storeWriteStart {s : State} {r : Rec} (on : s.operating = true) (free : s.store.inFlight = none)
    (supplied : s.active .supplyLow = false) (first : s.store.firstDirty = some r) : exec .storeWriteStart s = .next (s.startWrite r) := by
  have ready : s.writeReady = some r := (State.writeReady_of on free supplied).trans first
  show Host.Outcome.next (match s.writeReady with | some r => s.startWrite r | none => s) = _
  rw [ready]

theorem exec_storeWriteEnd {s : State} {w : Write} (readBack : List Byte) (flight : s.store.inFlight = some w)
    (due : w.endTime.len ≤ elapsed s.now w.endTime.start) :
    exec (.storeWriteEnd readBack) s = .next (s.endWrite w readBack).dozeCheck := by
  have done : s.writeDone = some w := by
    unfold State.writeDone
    rw [flight]
    exact if_pos due
  show Host.Outcome.next (match s.writeDone with | some w => (s.endWrite w readBack).dozeCheck | none => s) = _
  rw [done]

/-- STORE_FAULT follows the marks: nothing else changes, and where it stands nothing does (R183). -/
theorem State.tellStoreFault_told (s : State) :
    (s.tellStoreFault.active .storeFault = s.active .storeFault → s.tellStoreFault = s)
    ∧ (s.active .storeFault = true → s.tellStoreFault.active .storeFault = false →
      s.tellStoreFault.mon.get .storeFault = { s.mon.get .storeFault with active := false })
    ∧ (s.active .storeFault = false → s.tellStoreFault.active .storeFault = true →
      s.tellStoreFault.mon.get .storeFault = ⟨true, true, min 255 ((s.mon.get .storeFault).count + 1)⟩)
    ∧ (∀ k, k ≠ .storeFault → s.tellStoreFault.mon.get k = s.mon.get k)
    ∧ s.tellStoreFault = { s with mon := s.tellStoreFault.mon, line := s.tellStoreFault.line } := by
  cases fault : s.store.anyFault with
  | true =>
    have told : s.tellStoreFault = s.activate .storeFault := if_pos fault
    rw [told, State.activate_active]
    refine ⟨fun was => if_pos was.symm, nofun, fun was _ => ?_, fun k other => State.activate_get_ne _ _ _ other, State.eq_of_blocks⟩
    rw [State.activate_get, if_neg (by simpa [State.active] using was)]
  | false =>
    have told : s.tellStoreFault = s.deactivate .storeFault := if_neg (by simp [fault])
    rw [told, State.deactivate_active]
    exact ⟨fun was => if_neg (by simp [← was]), fun _ _ => State.deactivate_get _ _, nofun,
      fun k other => State.deactivate_get_ne _ _ _ other, State.eq_of_blocks⟩

/-- The store after a write whose bytes were read back (R185). -/
def Store.verified (t : Store) (r : Rec) (same : Bool) : Store :=
  if same then { t with inFlight := none, completed := satInc 65535 t.completed, fault := t.fault.set r false }
  else { t with
    inFlight := none, verifyFails := satInc 65535 t.verifyFails, fault := t.fault.set r true, dirty := t.dirty.set r true }

theorem State.endWrite_eq (s : State) (w : Write) (readBack : List Byte) : s.endWrite w readBack = State.tellStoreFault { s with
    stored := s.stored.set w.record (.whole readBack), store := s.store.verified w.record (decide (readBack = w.copy)) } := by
  by_cases same : readBack = w.copy
  · simp only [State.endWrite, same, if_true, Store.verified, decide_true]
    rfl
  · simp only [State.endWrite, same, if_false, Store.verified, decide_false]
    rfl

theorem State.dozeCheck_run {s : State} (run : s.pwr.power = .run) : s.dozeCheck = s := if_neg (by simp [State.dozeReady, run])

/-- Settles O54: a write starts with the first dirty record, and its end tells STORE_FAULT (`State.tellStoreFault_told`). -/
theorem storeWritesAreVerified : Obligations.StoreWritesAreVerified := by
  refine ⟨fun s on free supplied => ⟨fun dirty => ?_, fun c clean dirty order => ?_⟩, fun s r copy readBack d run flight due => ?_⟩
  · exact exec_storeWriteStart on free supplied (if_pos dirty)
  · have first : s.store.firstDirty = some (.cam c) := by
      unfold Store.firstDirty
      rw [if_neg (by simp [clean])]
      cases c with
      | i => exact if_pos dirty
      | e =>
        rw [if_neg (by simp [order rfl])]
        exact if_pos dirty
    exact exec_storeWriteStart on free supplied first
  · let u : State := { s with
      stored := s.stored.set r (.whole readBack), store := s.store.verified r (decide (readBack = copy)) }
    have power : u.tellStoreFault.pwr.power = .run := by simpa [u] using run
    have ended : exec (.storeWriteEnd readBack) s = .next u.tellStoreFault := by
      rw [exec_storeWriteEnd readBack flight due, State.endWrite_eq, State.dozeCheck_run power]
    have store : u.tellStoreFault.store = s.store.verified r (decide (readBack = copy)) := by simp [u]
    have stored : u.tellStoreFault.stored = s.stored.set r (.whole readBack) := by simp [u]
    obtain ⟨stands, ends, begins, others, rest⟩ := u.tellStoreFault_told
    refine ⟨_, ended, stored, fun same => ?_, fun differ => ?_, ?_, fun unchanged => ?_, ends, begins, others, ?_⟩
    · rw [store, decide_eq_true same]
      rfl
    · rw [store, decide_eq_false differ]
      rfl
    · rw [State.tellStoreFault_active, store]
      rfl
    · rw [stands unchanged]
      exact ⟨rfl, rfl⟩
    · rw [store, stored]
      exact rest

end Sys2Proof.Machine
end

section
/-!
The power states (R189, R190).
-/

set_option Elab.async false

namespace Sys2Proof.Machine

/-- The entry to STANDBY, block by block (R189, R190). -/
theorem State.enterStandby_eq (s : State) : s.enterStandby = { s with
    pwr := { s.pwr with power := .standby, stopTimer := none, quietTimer := some ⟨s.now, 10000000⟩, quietMark := false }
    drv := ⟨s.drv.i.stopped, s.drv.e.stopped⟩
    shr := { s.shr with shareTimer := none }
    mon := { s.mon with statusTimer := none }
    line := { s.line with slots := { s.line.slots with share := false } } } :=
  State.eq_of_blocks (drv := by rw [State.enterStandby_drv]; rfl) (shr := by simp [State.enterStandby])
    (line := by simp [State.enterStandby, Slots.set]) (mon := by simp [State.enterStandby]) (pwr := by simp [State.enterStandby])

/-- The entry to DOZE, block by block (R190). -/
theorem State.enterDoze_blocks (s : State) : s.enterDoze.pwr.power = .doze ∧ s.enterDoze.cap = s.cap.dozed ∧ s.enterDoze.scan = {}
    ∧ s.enterDoze.shr = s.shr.dozed s.settings ∧ s.enterDoze.camc = s.camc.dozed ∧ s.enterDoze.mon.records = s.mon.records := by
  simp [State.enterDoze]

/-- The completion of a wake, block by block (R190). -/
theorem State.wakeUp_eq (s : State) : s.wakeUp = { { s with now := 0 }.enterStandby with
    scan := { s.scan with conversion := some ⟨.coil .i, 0⟩, passStart := some 0, wakePasses := 16 }
    camc := { s.camc with ageStart := some 0 }
    line := { ({ s with now := 0 }.enterStandby.line.listenFrom 0) with
      slots := { s.line.slots with share := false, status := true } }
    pwr := { { s with now := 0 }.enterStandby.pwr with wakeTicks := 0 } } := rfl

theorem State.dozeReady_iff (s : State) : s.dozeReady = true ↔
    s.pwr.power = .standby ∧ s.pwr.quietMark = true ∧ s.store.clean = true ∧ s.line.sending = none ∧ s.line.aborting = false := by
  simp [State.dozeReady, and_assoc]

/-- Settles O56. -/
theorem standbyDozeAndWake : Obligations.StandbyDozeAndWake := by
  refine ⟨fun s d run timer due => ?_, fun s d standby timer due => ?_, fun s doze => next_ite_pos doze, fun s waking long => ?_⟩
  · exact (next_ite_pos (by simp [run, dueAt_of timer due])).trans (congrArg Host.Outcome.next s.enterStandby_eq)
  · have quiet : s.quietDue = true := by simp [State.quietDue, standby, dueAt_of timer due]
    let marked : State := { s with pwr := { s.pwr with quietTimer := none, quietMark := true } }
    have expired : exec .quietTimer s = .next marked.dozeCheck := next_ite_pos quiet
    refine ⟨fun busy => ?_, fun clean silent whole => ?_⟩
    · have awake : ¬marked.dozeReady = true := fun ready => by
        obtain ⟨-, -, clean, silent, whole⟩ := marked.dozeReady_iff.mp ready
        rcases busy with dirty | sending | aborting
        · exact absurd (clean.symm.trans dirty) (by decide)
        · exact absurd sending (by rw [show s.line.sending = none from silent]; decide)
        · exact absurd (whole.symm.trans aborting) (by decide)
      rw [expired, State.dozeCheck, if_neg awake]
    · have ready : marked.dozeReady = true := marked.dozeReady_iff.mpr ⟨standby, rfl, clean, silent, whole⟩
      rw [State.dozeCheck, if_pos ready] at expired
      obtain ⟨power, cap, scan, shr, camc, records⟩ := marked.enterDoze_blocks
      have line := marked.enterDoze_line
      have phm (c : Cam) := marked.enterDoze_phmOf c
      refine ⟨_, expired, power, ?_, ?_, scan, ?_, ?_, ?_, ?_, ?_, ?_, ?_, ?_, records, fun c => ?_, ?_⟩
      · rw [cap]; rfl
      · rw [cap]; rfl
      · rw [shr]; rfl
      · rw [shr]; rfl
      · rw [line]; rfl
      · rw [line]; rfl
      · rw [line]; rfl
      · rw [line]; rfl
      · rw [camc]; rfl
      · rw [camc]; rfl
      · rw [phm]
        exact ⟨rfl, rfl⟩
      · simp [marked]
  · have woken : exec .wakeComplete s = .next s.wakeUp := next_ite_pos ⟨waking, long⟩
    rw [State.wakeUp_eq, State.enterStandby_eq] at woken
    exact ⟨_, woken, rfl, rfl, rfl, rfl, rfl, rfl, rfl, rfl, rfl, rfl, rfl, rfl, rfl, rfl, rfl, rfl, rfl⟩

end Sys2Proof.Machine
end

section
/-!
The reset and the start sequence (R191), and the load of the stored records (R184).
-/

set_option Elab.async false

namespace Sys2Proof.Machine

/-- Settles O57: each command's condition holds, and its effect is one update of the blocks. -/
theorem resetAndStartSequence : Obligations.ResetAndStartSequence := by
  refine ⟨fun s cause => rfl, fun s held => next_ite_pos held, fun s pins d delay timer due => ?_, rfl, rfl⟩
  exact next_ite_pos (by simp [delay, dueAt_of timer due])

end Sys2Proof.Machine
end

section
/-!
The load of the stored records and the end of the start sequence (R17, R48, R94, R118, R182 to R184, R191).
-/

set_option Elab.async false

namespace Sys2Proof.Machine

/-! ## The load checks (R17, R48, R94, R118) -/

theorem pairwise_iff_at {α : Type} {l : List α} {R : α → α → Prop} : l.Pairwise R ↔
    ∀ (i j : Nat) (a b : α), i < j → l[i]? = some a → l[j]? = some b → R a b := by
  rw [List.pairwise_iff_getElem]
  constructor
  · intro all i j a b before at_i at_j
    obtain ⟨low, rfl⟩ := List.getElem?_eq_some_iff.mp at_i
    obtain ⟨high, rfl⟩ := List.getElem?_eq_some_iff.mp at_j
    exact all i j low high before
  · intro all i j low high before
    exact all i j _ _ before (List.getElem?_eq_getElem low) (List.getElem?_eq_getElem high)

theorem window_nonempty (c : Cam) (ref : Nat) : (window c ref).1 ≤ (window c ref).2 := by
  cases c <;> simp [window] <;> omega

/-- Windows are apart where they share no angle (R48). -/
theorem windowsApart_iff {v w : Int × Int} (v_some : v.1 ≤ v.2) (w_some : w.1 ≤ w.2) : windowsApart v w = true ↔
    ¬∃ angle, v.1 ≤ angle ∧ angle ≤ v.2 ∧ w.1 ≤ angle ∧ angle ≤ w.2 := by
  rw [windowsApart, decide_eq_true_iff]
  constructor
  · rintro apart ⟨angle, low, high, low', high'⟩
    omega
  · intro none
    by_contra overlap
    exact none ⟨max v.1 w.1, by omega, by omega, by omega, by omega⟩

/-- What is wrong with a cam's windows (R48). -/
def WindowsBad (c : Cam) (k : CamSettings) : Prop :=
  k.nA = k.nB
  ∨ (∃ ref ∈ k.refs, ¬((0 ≤ (window c ref).1 ∧ (window c ref).2 ≤ 5759)
    ∨ (5760 ≤ (window c ref).1 ∧ (window c ref).2 ≤ 11519)))
  ∨ ∃ (i j a b : Nat) (angle : Int), i < j ∧ k.refs[i]? = some a ∧ k.refs[j]? = some b
    ∧ (window c a).1 ≤ angle ∧ angle ≤ (window c a).2 ∧ (window c b).1 ≤ angle ∧ angle ≤ (window c b).2

theorem camWindowsOk_iff (c : Cam) (k : CamSettings) : camWindowsOk c k = true ↔ ¬WindowsBad c k := by
  have inside : (k.refs.map (window c)).all windowInRevolution = true ↔ ∀ ref ∈ k.refs,
      (0 ≤ (window c ref).1 ∧ (window c ref).2 ≤ 5759) ∨ (5760 ≤ (window c ref).1 ∧ (window c ref).2 ≤ 11519) := by
    simp [windowInRevolution]
  have apart : (k.refs.map (window c)).Pairwise (fun v w => windowsApart v w = true) ↔
      ∀ (i j a b : Nat), i < j → k.refs[i]? = some a → k.refs[j]? = some b →
        ¬∃ angle, (window c a).1 ≤ angle ∧ angle ≤ (window c a).2 ∧ (window c b).1 ≤ angle ∧ angle ≤ (window c b).2 := by
    rw [List.pairwise_map, pairwise_iff_at]
    simp only [windowsApart_iff (window_nonempty c _) (window_nonempty c _)]
  unfold camWindowsOk WindowsBad
  simp only [Bool.and_eq_true, decide_eq_true_iff, inside, apart]
  constructor
  · rintro ⟨⟨inside, apart⟩, counts⟩ (same | ⟨ref, mem, out⟩ | ⟨i, j, a, b, angle, before, at_i, at_j, shared⟩)
    · exact counts same
    · exact out (inside ref mem)
    · exact apart i j a b before at_i at_j ⟨angle, shared⟩
  · intro fine
    exact ⟨⟨fun ref mem => by_contra fun out => fine (.inr (.inl ⟨ref, mem, out⟩)),
      fun i j a b before at_i at_j ⟨angle, shared⟩ => fine (.inr (.inr ⟨i, j, a, b, angle, before, at_i, at_j, shared⟩))⟩,
      fun same => fine (.inl same)⟩

theorem loadChecks_iff (st : Settings) : loadChecks st = true ↔
    ¬((¬(st.tempTable.map TempPoint.count).Pairwise (fun a b => b < a)) ∨ (∃ c, WindowsBad c (st.cams.get c))
      ∨ st.aMax < st.aMin ∨ st.pFull ≤ st.pFloor) := by
  simp only [loadChecks, Bool.and_eq_true, decide_eq_true_iff, camWindowsOk_iff, tempTableOk]
  constructor
  · rintro ⟨⟨⟨⟨table, intake⟩, exhaust⟩, authority⟩, pressure⟩ (falls | ⟨c, bad⟩ | crossed | flat)
    · exact falls table
    · cases c
      · exact intake bad
      · exact exhaust bad
    · omega
    · omega
  · intro fine
    simp only [not_or, not_not, not_exists] at fine
    obtain ⟨table, cams, authority, pressure⟩ := fine
    exact ⟨⟨⟨⟨table, cams .i⟩, cams .e⟩, by omega⟩, by omega⟩

/-! ## Stored copies (R184) -/

/-- A copy that is part-written, of another size, or that fails its check. -/
def Stored.Fails (size : Nat) (copy : Stored) : Prop :=
  copy = .torn ∨ ∃ bytes, copy = .whole bytes ∧ (bytes.length ≠ size ∨ crcMatches bytes = false)

theorem Stored.checked_fails {size : Nat} {copy : Stored} (fails : copy.Fails size) : copy.checked size = none := by
  rcases fails with rfl | ⟨bytes, rfl, wrong⟩
  · rfl
  · refine if_neg fun ⟨length, check⟩ => ?_
    rcases wrong with other | unchecked
    · exact other length
    · simp [unchecked] at check

theorem Stored.checked_withCrc {size : Nat} {image : List Byte} (length : image.length + 2 = size) :
    (Stored.whole (withCrc image)).checked size = some image := by
  have taken := withCrc_take image
  rw [withCrc_length, length] at taken
  unfold Stored.checked
  simp only
  rw [if_pos ⟨by rw [withCrc_length, length], crcMatches_withCrc image⟩, taken]

theorem loadConfig_good {image : List Byte} (length : image.length = 64) (checks : loadChecks (decodeSettings image) = true) :
    loadConfig (.whole (withCrc image)) = (decodeSettings image, image, false) := by
  unfold loadConfig
  rw [Stored.checked_withCrc (by omega)]
  exact if_pos checks

theorem loadConfig_fails {copy : Stored} (fails : copy.Fails 66) :
    loadConfig copy = (Settings.default, encodeSettings Settings.default, true) := by
  unfold loadConfig
  rw [Stored.checked_fails fails]

theorem loadConfig_bad {image : List Byte} (length : image.length = 64) (bad : ¬loadChecks (decodeSettings image) = true) :
    loadConfig (.whole (withCrc image)) = (Settings.default, encodeSettings Settings.default, true) := by
  unfold loadConfig
  rw [Stored.checked_withCrc (by omega)]
  exact if_neg bad

theorem loadCam_fails {copy : Stored} (fails : copy.Fails 8) : loadCam copy = (CamRecord.default, [0, 0, 1, 244, 0, 0], true) := by
  unfold loadCam
  rw [Stored.checked_fails fails]
  rfl

/-- The values of a CAM record are in range (R184). -/
def CamBytesOk (b0 b1 b2 b3 : Byte) : Prop :=
  -96 ≤ b0.toInt ∧ b0.toInt ≤ 96 ∧ b1.toNat ≤ 1 ∧ 300 ≤ b2.toNat * 256 + b3.toNat ∧ b2.toNat * 256 + b3.toNat ≤ 700

theorem loadCam_good {b0 b1 b2 b3 : Byte} (b4 b5 : Byte) (ok : CamBytesOk b0 b1 b2 b3) :
    loadCam (.whole (withCrc [b0, b1, b2, b3, b4, b5]))
      = (⟨b0.toInt, decide (b1.toNat = 1), b2.toNat * 256 + b3.toNat⟩, [b0, b1, b2, b3, b4, b5], false) := by
  have decoded : CamRecord.decode [b0, b1, b2, b3, b4, b5]
      = some ⟨b0.toInt, decide (b1.toNat = 1), b2.toNat * 256 + b3.toNat⟩ := if_pos ok
  unfold loadCam
  rw [Stored.checked_withCrc (size := 8) (image := [b0, b1, b2, b3, b4, b5]) rfl]
  dsimp only
  rw [decoded]

theorem loadCam_bad {b0 b1 b2 b3 : Byte} (b4 b5 : Byte) (bad : ¬CamBytesOk b0 b1 b2 b3) :
    loadCam (.whole (withCrc [b0, b1, b2, b3, b4, b5])) = (CamRecord.default, [0, 0, 1, 244, 0, 0], true) := by
  have undecoded : CamRecord.decode [b0, b1, b2, b3, b4, b5] = none := if_neg bad
  unfold loadCam
  rw [Stored.checked_withCrc (size := 8) (image := [b0, b1, b2, b3, b4, b5]) rfl]
  dsimp only
  rw [undecoded]
  rfl

/-! ## The end of the start sequence (R73, R172, R191) -/

theorem State.started_blocks (s : State) : s.started.camc = { s.camc with ageStart := some s.now } ∧ s.started.line.life = .listen
    ∧ s.started.pwr.listenTimer = some ⟨s.now, 100000⟩ ∧ s.started.pwr.crankMark = s.pwr.crankMark
    ∧ s.started.mon.records = s.mon.records := ⟨by simp [State.started], rfl, rfl, rfl, rfl⟩

theorem State.finishStart_blocks (s : State) : s.finishStart.camc = { s.camc with ageStart := some s.now }
    ∧ s.finishStart.line.life = .listen ∧ s.finishStart.pwr.listenTimer = some ⟨s.now, 100000⟩
    ∧ s.finishStart.pwr.power = (if s.pwr.crankMark then .run else .standby) ∧ s.finishStart.pwr.crankMark = false
    ∧ s.finishStart.mon.records = s.mon.records := by
  obtain ⟨camc, life, listen, mark, records⟩ := s.started_blocks
  have mark' : s.started.enterStandby.pwr.crankMark = s.pwr.crankMark := by rw [State.enterStandby_eq]; exact mark
  rw [State.finishStart_eq, mark']
  cases marked : s.pwr.crankMark with
  | true =>
    simp only [if_true]
    refine ⟨?_, ?_, ?_, ?_, rfl, ?_⟩
    · simpa using camc
    · simpa using life
    · simpa using listen
    · simp [State.enterRun_power]
    · simpa [State.enterRun_records, State.enterStandby_records] using records
  | false =>
    simp only [Bool.false_eq_true, if_false]
    refine ⟨?_, ?_, ?_, rfl, ?_, ?_⟩
    · simpa using camc
    · simpa using life
    · simpa using listen
    · rw [mark', marked]
    · rw [State.enterStandby_records, records]

/-- What the load makes of the two cams' records: their owners' values, the images and the marks (R183, R184). -/
theorem State.recordsTaken_cam {s : State} {c : Cam} {r : CamRecord} {image : List Byte} {bad : Bool}
    (loaded : loadCam (s.stored.cams.get c) = (r, image, bad)) :
    (s.recordsTaken.phmOf c).offset = r.offset ∧ (s.recordsTaken.phmOf c).status = (if r.learned then .learned else .notLearned)
    ∧ (s.recordsTaken.loopOf c).hold = r.hold ∧ (s.recordsTaken.loopOf c).marked = r.hold
    ∧ s.recordsTaken.store.camImages.get c = image ∧ s.recordsTaken.store.dirty.cams.get c = bad
    ∧ s.recordsTaken.store.fault.cams.get c = bad := by
  have contents : (loadCam (s.stored.cams.get c)).1 = r := congrArg Prod.fst loaded
  have bytes : (loadCam (s.stored.cams.get c)).2.1 = image := congrArg (fun x => x.2.1) loaded
  have mark : (loadCam (s.stored.cams.get c)).2.2 = bad := congrArg (fun x => x.2.2) loaded
  rw [← contents, ← bytes, ← mark]
  cases c <;> exact ⟨rfl, rfl, rfl, rfl, rfl, rfl, rfl⟩

/-- Settles O55: the checks are `loadChecks_iff`, what a copy is taken as `loadConfig_good`, `loadCam_good` and their fellows, the
end of the start sequence `State.finishStart_blocks`. -/
theorem storeLoadTakesTheRecords : Obligations.StoreLoadTakesTheRecords := by
  unfold Obligations.StoreLoadTakesTheRecords
  intro fails bad
  refine ⟨loadChecks_iff, fun s d loading timer due => ?_⟩
  have loads : s.loadDue = true := by simp [State.loadDue, loading, dueAt_of timer due]
  have loaded : exec .storeLoadComplete s = .next s.loadRecords.finishStart := next_ite_pos loads
  have now : s.loadRecords.now = s.now := by simp
  have mark : s.loadRecords.pwr.crankMark = s.pwr.crankMark := by simp
  obtain ⟨camc, life, listen, power, crankMark, records⟩ := s.loadRecords.finishStart_blocks
  have settings : s.loadRecords.finishStart.settings = s.recordsTaken.settings := by simp [State.loadRecords_eq]
  have store : s.loadRecords.finishStart.store = s.recordsTaken.store := by simp [State.loadRecords_eq]
  have phm (c : Cam) : s.loadRecords.finishStart.phmOf c = s.recordsTaken.phmOf c :=
    State.phmOf_of_phm (by simp [State.loadRecords_eq]) c
  have loop (c : Cam) : s.loadRecords.finishStart.loopOf c = s.recordsTaken.loopOf c :=
    State.loopOf_of_loop (by simp [State.loadRecords_eq]) c
  refine ⟨_, loaded, fun image copy length checks => ?_, fun wrong => ?_,
    fun c b0 b1 b2 b3 b4 b5 copy low high status least most => ?_, fun c wrong => ?_, ?_, ?_, life, ?_, ?_, crankMark, ?_⟩
  · have taken := loadConfig_good length checks
    rw [← copy] at taken
    rw [settings, store]
    exact ⟨(congrArg Prod.fst taken :), (congrArg (fun x => x.2.1) taken :), (congrArg (fun x => x.2.2) taken :),
      (congrArg (fun x => x.2.2) taken :)⟩
  · have taken : loadConfig s.stored.config = (Settings.default, encodeSettings Settings.default, true) := by
      rcases wrong with broken | ⟨image, copy, length, unfit⟩
      · exact loadConfig_fails broken
      · rw [copy]
        exact loadConfig_bad length fun checks => (loadChecks_iff _).mp checks unfit
    rw [settings, store]
    exact ⟨(congrArg Prod.fst taken :), (congrArg (fun x => x.2.1) taken :), (congrArg (fun x => x.2.2) taken :),
      (congrArg (fun x => x.2.2) taken :)⟩
  · have taken := loadCam_good b4 b5 ⟨low, high, status, least, most⟩
    rw [← copy] at taken
    obtain ⟨offset, learned, hold, marked, image, dirty, fault⟩ := State.recordsTaken_cam taken
    have flag : (if decide (b1.toNat = 1) = true then LearnStatus.learned else .notLearned)
        = if b1 = 1 then .learned else .notLearned := by
      have one : b1.toNat = 1 ↔ b1 = 1 := ⟨fun h => BitVec.eq_of_toNat_eq h, fun h => by rw [h]; rfl⟩
      simp only [decide_eq_true_iff, one]
    rw [phm, loop, store]
    exact ⟨offset, learned.trans flag, hold, marked, image, dirty, fault⟩
  · have taken : loadCam (s.stored.cams.get c) = (CamRecord.default, [0, 0, 1, 244, 0, 0], true) := by
      rcases wrong with broken | ⟨b0, b1, b2, b3, b4, b5, copy, out⟩
      · exact loadCam_fails broken
      · rw [copy]
        refine loadCam_bad b4 b5 fun ⟨low, high, status, least, most⟩ => ?_
        omega
    rw [phm, loop, store]
    exact State.recordsTaken_cam taken
  · rw [State.active_of_records records, State.loadRecords_eq, State.tellStoreFault_active, ← State.loadRecords_eq, store]
  · rw [camc, now]
  · rw [listen, now]
  · rw [power, mark]
  · simp

end Sys2Proof.Machine
end

section
/-!
The stages of a loop update and what they write (R95 to R108, R123 to R126).
-/

set_option Elab.async false

namespace Sys2Proof.Machine

/-! ## The quantities of an update -/

/-- The quantities of a loop update, stage by stage: elapsed time, ramp, error, effective error, SHR's record with the cam demand,
authority, output. -/
structure Stages where
  dtq    : Nat
  ramp   : Nat
  error  : Int
  eEff   : Int
  shr    : Shr
  limit  : Nat
  output : StageResult

/-- They are functions of the state before the update and the measurement. -/
def State.stages (s : State) (c : Cam) (m : Measurement) : Stages :=
  let follows : Prop := (s.camOf c).state = .follow
  let k := s.loopOf c
  let dtq := if k.first then 0 else min 160 (elapsed m.time k.lastUpdate / 500)
  let target := s.effectiveTarget c
  let step := max 1 (s.settings.slew * 16 * dtq / 4000)
  let r0 := (s.camOf c).ramp
  let ramp := if follows then
    (if r0 < target then min target (r0 + step) else if target < r0 then max target (r0 - step) else r0) else r0
  let e := (if follows then (ramp : Int) else 0) - m.phase
  let eEff := if e.natAbs ≤ s.settings.deadband then 0 else e
  let d := min 500 eEff.natAbs
  let q : Shr := { s.shr with demand := s.shr.demand.set c d }
  let a := if d = 0 ∨ q.fAvail = 0 then 0 else max s.settings.aMin (q.camGrant c * s.settings.aMax / 500)
  { dtq := dtq, ramp := ramp, error := e, eEff := eEff, shr := q, limit := a
    output := outputStages s.settings k.hold k.integral eEff dtq a }

/-- LOOP's record after stages 1 to 13. -/
def Loop.staged (k : Loop) (m : Measurement) (x : Stages) : Loop :=
  Loop.written { k with first := false, lastUpdate := m.time } x.output x.error x.limit

/-- The state after stages 1 to 13. -/
def State.staged (s : State) (c : Cam) (m : Measurement) : State :=
  let x := s.stages c m
  { s with
    camc := { s.camc with cams := s.camc.cams.set c { s.camOf c with ramp := x.ramp } }
    loop := s.loop.set c ((s.loopOf c).staged m x)
    shr := { x.shr with starved :=
      if x.shr.stationGrant < x.shr.stationDemand then min 65535 (s.shr.starved + 1) else s.shr.starved }
    drv := s.drv.set c { s.drvOf c with pending := x.output.duty }
    line := if s.shr.stationDemand = 0 ∧ x.shr.stationDemand ≠ 0
      then { s.line with slots := { s.line.slots with share := true } } else s.line }

/-! ## What the steps of the stages write -/

theorem rampToward_eq (ramp target step : Nat) : rampToward ramp target step =
    if ramp < target then min target (ramp + max 1 step) else if target < ramp then max target (ramp - max 1 step) else ramp := by
  have least : (if step = 0 then 1 else step) = max 1 step := by split <;> omega
  simp only [rampToward, least]

theorem State.setDemand_eq (s : State) (c : Cam) (d : Nat) : s.setDemand c d = { s with
    shr := { s.shr with demand := s.shr.demand.set c d }
    line := if s.shr.stationDemand = 0 ∧ ({ s.shr with demand := s.shr.demand.set c d } : Shr).stationDemand ≠ 0
      then { s.line with slots := { s.line.slots with share := true } } else s.line } := by
  refine State.eq_of_blocks (shr := State.setDemand_shr s c d) (line := ?_)
  rw [State.setDemand_line, State.setDemand_shr]

theorem State.countStarved_eq (s : State) : s.countStarved = { s with
    shr := { s.shr with
      starved := if s.shr.stationGrant < s.shr.stationDemand then min 65535 (s.shr.starved + 1) else s.shr.starved } } := by
  unfold State.countStarved
  split <;> rfl

/-- Stages 1 and 2: the record marked and the ramp moved. -/
theorem State.targeted_eq (s : State) (c : Cam) (m : Measurement) : s.targeted c m = { s with
    camc := { s.camc with cams := s.camc.cams.set c { s.camOf c with ramp := (s.stages c m).ramp } }
    loop := s.loop.set c { s.loopOf c with first := false, lastUpdate := m.time } } := by
  unfold State.targeted
  by_cases follow : (s.camOf c).state = .follow
  · have ramp : (s.stages c m).ramp
        = rampToward (s.camOf c).ramp (s.effectiveTarget c) (s.settings.slew * 16 * (s.stages c m).dtq / 4000) := by
      rw [rampToward_eq]
      exact if_pos follow
    rw [ramp, if_pos follow]
    rfl
  · have ramp : (s.stages c m).ramp = (s.camOf c).ramp := if_neg follow
    have cams : s.camc.cams.set c { s.camOf c with ramp := (s.camOf c).ramp } = s.camc.cams := PerCam.set_get _ _
    rw [ramp, cams]
    exact if_neg follow

/-- Stages 4 to 13 with this error. -/
theorem State.driven_eq (s : State) (c : Cam) (e eEff : Int) (dtq : Nat) :
    let d := min 500 eEff.natAbs
    let q : Shr := { s.shr with demand := s.shr.demand.set c d }
    let a := if d = 0 ∨ q.fAvail = 0 then 0 else max s.settings.aMin (q.camGrant c * s.settings.aMax / 500)
    let r := outputStages s.settings (s.loopOf c).hold (s.loopOf c).integral eEff dtq a
    s.driven c e eEff dtq = { s with
      loop := s.loop.set c ((s.loopOf c).written r e a)
      shr := { q with
        starved := if q.stationGrant < q.stationDemand then min 65535 (s.shr.starved + 1) else s.shr.starved }
      drv := s.drv.set c { s.drvOf c with pending := r.duty }
      line := if s.shr.stationDemand = 0 ∧ q.stationDemand ≠ 0
        then { s.line with slots := { s.line.slots with share := true } } else s.line } := by
  intro d q a r
  simp only [State.driven, State.countStarved_eq, State.setDemand_eq]
  rfl

theorem State.loopStages_error (s : State) (c : Cam) (m : Measurement) : (s.loopStages c m).error = (s.stages c m).error := by
  have ramp : ((s.targeted c m).camOf c).ramp = (s.stages c m).ramp := by
    rw [State.targeted_eq]
    exact congrArg CamCtl.ramp (PerCam.get_set _ _ _)
  have targeted : (s.loopStages c m).error
      = (if (s.camOf c).state = .follow then (((s.targeted c m).camOf c).ramp : Int) else 0) - m.phase := by
    unfold State.loopStages State.targeted
    simp only [decide_eq_true_eq]
  rw [targeted, ramp]
  rfl

theorem State.loopStages_met (s : State) (c : Cam) (m : Measurement) : (s.loopStages c m).met = (s.stages c m).shr.grantMet := by
  have demand : (s.loopStages c m).met
      = Shr.grantMet { (s.targeted c m).shr with
          demand := (s.targeted c m).shr.demand.set c (camDemand (effectiveError s.settings.deadband (s.loopStages c m).error)) } := by
    unfold State.loopStages State.targeted
    simp only [decide_eq_true_eq, State.setDemand_shr]
  rw [demand, State.loopStages_error, State.targeted_eq]
  rfl

/-- The stages as the model runs them are the stages as stated. -/
theorem State.loopStages_eq (s : State) (c : Cam) (m : Measurement) : (s.loopStages c m).state = s.staged c m := by
  have marked : (s.targeted c m).loopOf c = { s.loopOf c with first := false, lastUpdate := m.time } := by
    rw [State.targeted_eq]
    exact PerCam.get_set _ _ _
  have again (k l : Loop) : (s.loop.set c k).set c l = s.loop.set c l := by cases c <;> rfl
  rw [State.loopStages_state, State.driven_eq, marked, State.loopStages_error, State.targeted_eq]
  dsimp only
  rw [again]
  rfl

end Sys2Proof.Machine
end

section
/-!
Hold learning after an update (R112 to R114).
-/

set_option Elab.async false

namespace Sys2Proof.Machine

/-! ## LOOP's record of one cam -/

/-- The state with this record of LOOP for the cam. -/
def State.looped (s : State) (c : Cam) (k : Loop) : State := { s with loop := s.loop.set c k }

theorem State.looped_loopOf (s : State) (c : Cam) (k : Loop) : (s.looped c k).loopOf c = k := PerCam.get_set _ _ _

theorem State.onLoop_looped (s : State) (c : Cam) (k : Loop) (f : Loop → Loop) : (s.looped c k).onLoop c f = s.looped c (f k) := by
  cases c <;> rfl

theorem State.onLoop_eq_looped {s : State} {c : Cam} {k : Loop} (own : s.loopOf c = k) (f : Loop → Loop) :
    s.onLoop c f = s.looped c (f k) := by
  rw [← own]
  rfl

theorem State.looped_camRecord (s : State) (c : Cam) (k : Loop) : (s.looped c k).camRecord c = { s.camRecord c with hold := k.hold } := by
  rw [State.camRecord, State.looped_loopOf]
  rfl

/-- What a hold step makes of the store: a new hold duty goes into the image, and where it has drifted the record is dirty. -/
theorem State.holdStep_looped (s : State) (c : Cam) (k : Loop) :
    let l := k.holdStep
    let moved : Prop := l.hold ≠ k.hold
    let marks : Prop := moved ∧ 5 ≤ ((l.hold : Int) - l.marked).natAbs
    (s.looped c k).holdStep c = { s.looped c { l with marked := if marks then l.hold else l.marked } with
      store := { s.store with
        dirty := if marks then { s.store.dirty with cams := s.store.dirty.cams.set c true } else s.store.dirty
        camImages := if moved then s.store.camImages.set c { s.camRecord c with hold := l.hold }.encode
          else s.store.camImages } } := by
  intro l moved marks
  have cases := (s.looped c k).holdStep_cases c
  rw [State.looped_loopOf, State.onLoop_looped] at cases
  rcases cases with ⟨same, done⟩ | ⟨new, near, done⟩ | ⟨new, far, done⟩
  · have still : ¬moved := not_not.mpr same
    have unmarked : ¬marks := fun both => still both.1
    rw [done, if_neg still, if_neg unmarked, if_neg unmarked]
    rfl
  · have unmarked : ¬marks := fun both => of_decide_eq_false near both.2
    rw [done, if_pos new, if_neg unmarked, if_neg unmarked, State.refreshImage, State.looped_camRecord]
    rfl
  · have marked : marks := ⟨new, of_decide_eq_true far⟩
    rw [done, if_pos new, if_pos marked, if_pos marked, State.refreshImage, State.looped_camRecord]
    cases c <;> rfl

/-- Hold learning: the settled time, and at 4,000 the hold step, in terms of LOOP's record before it. -/
theorem State.learnHold_spec {s : State} {c : Cam} {k : Loop} (own : s.loopOf c = k) (e : Int) (dtq : Nat) {f : Prop} [Decidable f]
    (follows : f) :
    let steps : Prop := f ∧ e.natAbs ≤ s.settings.deadband ∧ 4000 ≤ k.settled + dtq
    let up : Prop := steps ∧ 256 ≤ k.integral ∧ k.hold < 700
    let down : Prop := steps ∧ k.integral ≤ -256 ∧ 300 < k.hold
    let hold := if up then k.hold + 1 else if down then k.hold - 1 else k.hold
    let marks : Prop := (up ∨ down) ∧ 5 ≤ ((hold : Int) - k.marked).natAbs
    ∃ n, s.learnHold c e dtq = { s.looped c { k with
        holdSteps := n, hold := hold, marked := if marks then hold else k.marked
        integral := if up then k.integral - 256 else if down then k.integral + 256 else k.integral
        settled := if s.settings.deadband < e.natAbs then 0
          else if steps then k.settled + dtq - 4000 else k.settled + dtq } with
      store := { s.store with
        dirty := if marks then { s.store.dirty with cams := s.store.dirty.cams.set c true } else s.store.dirty
        camImages := if up ∨ down then s.store.camImages.set c { s.camRecord c with hold := hold }.encode
          else s.store.camImages } } := by
  intro steps up down hold marks
  have quiet (no : ¬steps) : hold = k.hold ∧ ¬marks ∧ ¬up ∧ ¬down := by
    have not_up : ¬up := fun both => no both.1
    have not_down : ¬down := fun both => no both.1
    refine ⟨?_, fun both => both.1.elim not_up not_down, not_up, not_down⟩
    show (if up then _ else if down then _ else _) = _
    rw [if_neg not_up, if_neg not_down]
  unfold State.learnHold
  by_cases far : s.settings.deadband < e.natAbs
  · obtain ⟨same, unmarked, not_up, not_down⟩ := quiet fun both => by omega
    refine ⟨k.holdSteps, ?_⟩
    rw [if_pos far, if_pos far, if_neg unmarked, if_neg unmarked, if_neg not_up, if_neg not_down,
      if_neg (not_or.mpr ⟨not_up, not_down⟩), State.onLoop_eq_looped own, same]
    rfl
  · by_cases full : 4000 ≤ k.settled + dtq
    · have stepping : steps := ⟨follows, by omega, full⟩
      have learned : s.learnHold c e dtq = (s.looped c { k with settled := k.settled + dtq - 4000 }).holdStep c := by
        simp only [State.learnHold, if_neg far, own, if_pos full]
        rw [State.onLoop_eq_looped own]
      have step : ({ k with settled := k.settled + dtq - 4000 } : Loop).holdStep = { k with
          settled := k.settled + dtq - 4000, holdSteps := satInc 65535 k.holdSteps, hold := hold
          integral := if up then k.integral - 256 else if down then k.integral + 256 else k.integral } := by
        by_cases raise : up
        · rw [Loop.holdStep_of_raise (k := { k with settled := k.settled + dtq - 4000 }) raise.2.1 raise.2.2, if_pos raise, show hold = k.hold + 1 from if_pos raise]
        · by_cases lower : down
          · rw [Loop.holdStep_of_lower (k := { k with settled := k.settled + dtq - 4000 }) lower.2.1 lower.2.2, if_neg raise, if_pos lower,
              show hold = k.hold - 1 from (if_neg raise).trans (if_pos lower)]
          · rw [Loop.holdStep_of_neither (k := { k with settled := k.settled + dtq - 4000 })
              (fun both => raise ⟨stepping, both⟩) (fun both => lower ⟨stepping, both⟩), if_neg raise, if_neg lower, show hold = k.hold from (if_neg raise).trans (if_neg lower)]
      have moves : hold ≠ k.hold ↔ up ∨ down := by
        by_cases raise : up
        · simp [hold, raise]
        · by_cases lower : down
          · have room := lower.2.2
            simp [hold, raise, lower]
            omega
          · simp [hold, raise, lower]
      refine ⟨satInc 65535 k.holdSteps, ?_⟩
      have done := s.holdStep_looped c { k with settled := k.settled + dtq - 4000 }
      rw [step] at done
      simp only [moves] at done
      unfold State.learnHold at learned
      rw [learned, done, if_neg far, if_pos stepping]
    · have not_steps : ¬steps := fun both => full both.2.2
      obtain ⟨same, unmarked, not_up, not_down⟩ := quiet not_steps
      refine ⟨k.holdSteps, ?_⟩
      simp only [if_neg far, own, if_neg full]
      rw [if_neg unmarked, if_neg unmarked, if_neg not_up, if_neg not_down, if_neg not_steps,
        if_neg (not_or.mpr ⟨not_up, not_down⟩), State.onLoop_eq_looped own, same]
      rfl

end Sys2Proof.Machine
end

section
/-!
The loop update as a whole: stages, hold learning, stuck time (R90, R95 to R114).
-/

set_option Elab.async false

namespace Sys2Proof.Machine

/-! ## Hold learning in FOLLOW only (R112) -/

theorem State.looped_self {s : State} {c : Cam} {k : Loop} (own : s.loopOf c = k) : s.looped c k = s := by
  have same : s.loop.set c k = s.loop := own ▸ PerCam.set_get s.loop c
  rw [State.looped, same]

/-- Hold learning where it is done at all. -/
theorem State.learnHold_if {s : State} {c : Cam} {k : Loop} (own : s.loopOf c = k) (e : Int) (dtq : Nat) (f : Prop) [Decidable f] :
    let steps : Prop := f ∧ e.natAbs ≤ s.settings.deadband ∧ 4000 ≤ k.settled + dtq
    let up : Prop := steps ∧ 256 ≤ k.integral ∧ k.hold < 700
    let down : Prop := steps ∧ k.integral ≤ -256 ∧ 300 < k.hold
    let hold := if up then k.hold + 1 else if down then k.hold - 1 else k.hold
    let marks : Prop := (up ∨ down) ∧ 5 ≤ ((hold : Int) - k.marked).natAbs
    ∃ n, (if f then s.learnHold c e dtq else s) = { s.looped c { k with
        holdSteps := n, hold := hold, marked := if marks then hold else k.marked
        integral := if up then k.integral - 256 else if down then k.integral + 256 else k.integral
        settled := if ¬f then k.settled else if s.settings.deadband < e.natAbs then 0
          else if steps then k.settled + dtq - 4000 else k.settled + dtq } with
      store := { s.store with
        dirty := if marks then { s.store.dirty with cams := s.store.dirty.cams.set c true } else s.store.dirty
        camImages := if up ∨ down then s.store.camImages.set c { s.camRecord c with hold := hold }.encode
          else s.store.camImages } } := by
  intro steps up down hold marks
  by_cases follows : f
  · obtain ⟨n, learned⟩ := State.learnHold_spec own e dtq follows
    refine ⟨n, ?_⟩
    rw [if_pos follows, if_neg (not_not.mpr follows)]
    exact learned
  · have not_up : ¬up := fun both => follows both.1.1
    have not_down : ¬down := fun both => follows both.1.1
    have unmarked : ¬marks := fun both => both.1.elim not_up not_down
    have same : hold = k.hold := (if_neg not_up).trans (if_neg not_down)
    refine ⟨k.holdSteps, ?_⟩
    rw [if_neg follows, if_neg unmarked, if_neg unmarked, if_neg not_up, if_neg not_down, if_neg (not_or.mpr ⟨not_up, not_down⟩),
      if_pos follows, same]
    show s = { s.looped c k with store := s.store }
    rw [State.looped_self own]

/-! ## The state before the stuck time is acted on (R90) -/

/-- The state after the stages with these records of LOOP and STORE and this stuck time. -/
def State.updated (s : State) (c : Cam) (m : Measurement) (k : Loop) (store : Store) (stuck : Nat) : State := { s.staged c m with
  camc := { s.camc with cams := s.camc.cams.set c { s.camOf c with ramp := (s.stages c m).ramp, stuck := stuck } }
  loop := s.loop.set c k
  store := store }

/-- PHASE_STUCK_x raised and the cam taken to FAULTED (R90). -/
def State.phaseStuck (s : State) (c : Cam) : State := (s.activate (.phaseStuck c)).camToFaulted c

/-- The stuck time as R90 has it. -/
theorem stuckAfter_eq (stuck : Nat) (e : Int) (dtq : Nat) (q : Shr) : stuckAfter stuck e dtq q.grantMet =
    if e.natAbs ≤ 128 then 0 else if q.stationGrant = q.stationDemand then min 4000 (stuck + dtq) else stuck := by
  simp only [stuckAfter, Shr.grantMet, decide_eq_true_eq]

theorem State.onCam_updated (s : State) (c : Cam) (m : Measurement) (k : Loop) (store : Store) (stuck : Nat) :
    State.onCam { (s.staged c m).looped c k with store := store } c (fun cam => { cam with stuck := stuck })
      = s.updated c m k store stuck := by cases c <;> rfl

theorem State.updated_unstuck (s : State) (c : Cam) (m : Measurement) (k : Loop) (store : Store) :
    s.updated c m k store (s.camOf c).stuck = { (s.staged c m).looped c k with store := store } := by cases c <;> rfl

/-- The stuck time judged on the state the stages and hold learning leave. -/
theorem State.timeStuck_staged (s : State) (c : Cam) (m : Measurement) (k : Loop) (store : Store) (e : Int) (dtq : Nat) (met : Bool) :
    State.timeStuck { (s.staged c m).looped c k with store := store } c e dtq met
      = if 4000 ≤ stuckAfter (s.camOf c).stuck e dtq met
        then (s.updated c m k store (stuckAfter (s.camOf c).stuck e dtq met)).phaseStuck c
        else s.updated c m k store (stuckAfter (s.camOf c).stuck e dtq met) := by
  have cam : State.camOf { (s.staged c m).looped c k with store := store } c = { s.camOf c with ramp := (s.stages c m).ramp } :=
    PerCam.get_set _ _ _
  unfold State.timeStuck
  simp only [cam, State.onCam_updated]
  rfl

/-- A loop update in terms of the state before it. -/
theorem State.loopUpdate_eq (s : State) (c : Cam) (m : Measurement) :
    let f : Prop := (s.camOf c).state = .follow
    let x := s.stages c m
    let k := (s.loopOf c).staged m x
    let stuck := if x.error.natAbs ≤ 128 then 0
      else if x.shr.stationGrant = x.shr.stationDemand then min 4000 ((s.camOf c).stuck + x.dtq) else (s.camOf c).stuck
    let steps : Prop := f ∧ x.error.natAbs ≤ s.settings.deadband ∧ 4000 ≤ k.settled + x.dtq
    let up : Prop := steps ∧ 256 ≤ k.integral ∧ k.hold < 700
    let down : Prop := steps ∧ k.integral ≤ -256 ∧ 300 < k.hold
    let hold := if up then k.hold + 1 else if down then k.hold - 1 else k.hold
    let marks : Prop := (up ∨ down) ∧ 5 ≤ ((hold : Int) - k.marked).natAbs
    ∃ n, s.loopUpdate c m =
      let v := s.updated c m { k with
          holdSteps := n, hold := hold, marked := if marks then hold else k.marked
          integral := if up then k.integral - 256 else if down then k.integral + 256 else k.integral
          settled := if ¬f then k.settled else if s.settings.deadband < x.error.natAbs then 0
            else if steps then k.settled + x.dtq - 4000 else k.settled + x.dtq }
        { s.store with
          dirty := if marks then { s.store.dirty with cams := s.store.dirty.cams.set c true } else s.store.dirty
          camImages := if up ∨ down then s.store.camImages.set c { s.camRecord c with hold := hold }.encode
            else s.store.camImages }
        (if f then stuck else (s.camOf c).stuck)
      if f ∧ 4000 ≤ stuck then v.phaseStuck c else v := by
  intro f x k stuck steps up down hold marks
  have own : (s.staged c m).loopOf c = k := PerCam.get_set _ _ _
  obtain ⟨n, learned⟩ := State.learnHold_if own x.error x.dtq f
  refine ⟨n, ?_⟩
  have stages : s.loopUpdate c m = if f then
      ((s.staged c m).learnHold c x.error x.dtq).timeStuck c x.error x.dtq x.shr.grantMet else s.staged c m := by
    unfold State.loopUpdate
    simp only [State.loopStages_eq, State.loopStages_error, State.loopStages_met]
    rfl
  by_cases follows : f
  · rw [if_pos follows] at stages learned
    rw [stages, learned, State.timeStuck_staged, stuckAfter_eq]
    by_cases out : 4000 ≤ stuck
    · refine (if_pos out).trans (Eq.trans ?_ (if_pos ⟨follows, out⟩).symm)
      exact congrArg (fun time => (s.updated c m _ _ time).phaseStuck c) (if_pos follows).symm
    · refine (if_neg out).trans (Eq.trans ?_ (if_neg fun both => out both.2).symm)
      exact congrArg (fun time => s.updated c m _ _ time) (if_pos follows).symm
  · rw [if_neg follows] at stages learned
    refine (stages.trans learned).trans (Eq.trans ?_ (if_neg fun both => follows both.1).symm)
    refine Eq.trans ?_ (congrArg (fun time => s.updated c m _ _ time) (if_neg follows).symm)
    exact (s.updated_unstuck c m _ _).symm

end Sys2Proof.Machine
end

section
/-!
A loop update in FOLLOW or PARKING (R90, R95 to R114), and the edge that makes one (R49, R55).
-/

set_option Elab.async false

namespace Sys2Proof.Machine

/-! ## What the stuck fault leaves (R89, R90) -/

/-- What stands of an update from `v` to `t`, whether PHASE_STUCK_x was raised or not. -/
structure UpdateKept (c : Cam) (v t : State) : Prop where
  error     : (t.loopOf c).lastError = (v.loopOf c).lastError
  authority : (t.loopOf c).authority = (v.loopOf c).authority
  duty      : (t.loopOf c).lastDuty = (v.loopOf c).lastDuty
  time      : (t.loopOf c).lastUpdate = (v.loopOf c).lastUpdate
  first     : (t.loopOf c).first = (v.loopOf c).first
  hold      : (t.loopOf c).hold = (v.loopOf c).hold
  marked    : (t.loopOf c).marked = (v.loopOf c).marked
  shr       : t.shr = { v.shr with demand := t.shr.demand }
  store     : t.store = v.store
  share     : t.line.slots.share = v.line.slots.share
  cam       : t.camOf c.other = v.camOf c.other
  loop      : t.loopOf c.other = v.loopOf c.other
  drv       : t.drvOf c.other = v.drvOf c.other
  blocks    : t.trk = v.trk ∧ t.phm = v.phm ∧ t.cap = v.cap ∧ t.scan = v.scan ∧ t.pwr = v.pwr ∧ t.stored = v.stored

theorem UpdateKept.refl (c : Cam) (v : State) : UpdateKept c v v :=
  ⟨rfl, rfl, rfl, rfl, rfl, rfl, rfl, rfl, rfl, rfl, rfl, rfl, rfl, rfl, rfl, rfl, rfl, rfl, rfl⟩

theorem State.activate_rest (s : State) (k : Cond) : s.activate k = { s with
    mon := (s.activate k).mon, line := { s.line with slots := (s.activate k).line.slots } } :=
  State.eq_of_blocks (line := s.activate_slots k)

theorem State.activate_share (s : State) (k : Cond) : (s.activate k).line.slots.share = s.line.slots.share := by
  rcases s.activate_line k with same | queued
  · rw [same]
  · rw [queued]

/-- The entry of a cam in FOLLOW to FAULTED, in full. -/
theorem State.enterFaulted_eq {s : State} {c : Cam} (follow : (s.camOf c).state = .follow) : s.enterCam c .faulted s.now = { s with
    camc := { s.camc with cams := s.camc.cams.set c (s.enterCtl c .faulted s.now (s.camOf c)) }
    loop := s.loop.set c (s.enterLoop .follow .faulted (s.loopOf c))
    drv := s.drv.set c (s.enterDrv c .faulted (s.drvOf c))
    shr := { s.shr with demand := s.shr.demand.set c 0 } } := by
  have phm : s.phm.set c (if (s.camOf c).state = .parked ∧ CamState.faulted ≠ .parked then (s.phmOf c).abandon else s.phmOf c)
      = s.phm := by
    rw [if_neg (by simp [follow])]
    exact PerCam.set_get _ _
  rw [State.enterCam_eq, phm, follow]
  rfl

theorem State.phaseStuck_of_runs {v : State} {c : Cam} (runs : v.machineRuns c = true) (follow : (v.camOf c).state = .follow) :
    v.phaseStuck c = { v with
      mon := (v.activate (.phaseStuck c)).mon, line := { v.line with slots := (v.activate (.phaseStuck c)).line.slots }
      camc := { v.camc with cams := v.camc.cams.set c (v.enterCtl c .faulted v.now (v.camOf c)) }
      loop := v.loop.set c (v.enterLoop .follow .faulted (v.loopOf c))
      drv := v.drv.set c (v.enterDrv c .faulted (v.drvOf c))
      shr := { v.shr with demand := v.shr.demand.set c 0 } } := by
  have rest := v.activate_rest (.phaseStuck c)
  unfold State.phaseStuck State.camToFaulted
  generalize (v.activate (.phaseStuck c)).mon = mon at rest
  generalize (v.activate (.phaseStuck c)).line.slots = slots at rest
  rw [rest]
  have goes : (State.machineRuns { v with mon := mon, line := { v.line with slots := slots } } c
      && decide ((State.camOf { v with mon := mon, line := { v.line with slots := slots } } c).state ≠ .faulted)) = true := by
    have up : (State.camOf { v with mon := mon, line := { v.line with slots := slots } } c).state = .follow := follow
    have on : State.machineRuns { v with mon := mon, line := { v.line with slots := slots } } c = true := runs
    rw [on, up]
    rfl
  rw [if_pos goes]
  exact State.enterFaulted_eq (s := { v with mon := mon, line := { v.line with slots := slots } }) follow

theorem State.phaseStuck_of_still {v : State} {c : Cam} (still : v.machineRuns c = false) :
    v.phaseStuck c = v.activate (.phaseStuck c) := by
  have still' : (v.activate (.phaseStuck c)).machineRuns c = false := (State.machineRuns_of_straps (by simp) c).trans still
  exact if_neg (by simp [still'])

theorem State.phaseStuck_kept {v : State} {c : Cam} (follow : (v.camOf c).state = .follow) : UpdateKept c v (v.phaseStuck c) := by
  have share := v.activate_share (.phaseStuck c)
  cases runs : v.machineRuns c with
  | true =>
    rw [State.phaseStuck_of_runs runs follow]
    have own : (v.loop.set c (v.enterLoop .follow .faulted (v.loopOf c))).get c = v.enterLoop .follow .faulted (v.loopOf c) :=
      PerCam.get_set _ _ _
    refine ⟨?_, ?_, ?_, ?_, ?_, ?_, ?_, rfl, rfl, share, PerCam.get_set_other _ _ _, PerCam.get_set_other _ _ _,
      PerCam.get_set_other _ _ _, rfl, rfl, rfl, rfl, rfl, rfl⟩
    · exact (congrArg Loop.lastError own).trans rfl
    · exact (congrArg Loop.authority own).trans rfl
    · exact (congrArg Loop.lastDuty own).trans rfl
    · exact (congrArg Loop.lastUpdate own).trans rfl
    · exact (congrArg Loop.first own).trans (Bool.false_or _)
    · exact (congrArg Loop.hold own).trans rfl
    · exact (congrArg Loop.marked own).trans rfl
  | false =>
    rw [State.phaseStuck_of_still runs]
    have rest := v.activate_rest (.phaseStuck c)
    generalize v.activate (.phaseStuck c) = u at rest share
    rw [rest]
    exact ⟨rfl, rfl, rfl, rfl, rfl, rfl, rfl, rfl, rfl, share, rfl, rfl, rfl, rfl, rfl, rfl, rfl, rfl, rfl⟩

/-! ## The update (R95) -/

theorem State.updated_loopOf (s : State) (c : Cam) (m : Measurement) (k : Loop) (store : Store) (stuck : Nat) :
    (s.updated c m k store stuck).loopOf c = k ∧ (s.updated c m k store stuck).loopOf c.other = s.loopOf c.other :=
  ⟨PerCam.get_set _ _ _, PerCam.get_set_other _ _ _⟩

theorem State.updated_camOf (s : State) (c : Cam) (m : Measurement) (k : Loop) (store : Store) (stuck : Nat) :
    (s.updated c m k store stuck).camOf c = { s.camOf c with ramp := (s.stages c m).ramp, stuck := stuck }
    ∧ (s.updated c m k store stuck).camOf c.other = s.camOf c.other :=
  ⟨PerCam.get_set _ _ _, PerCam.get_set_other _ _ _⟩

theorem State.updated_drvOf (s : State) (c : Cam) (m : Measurement) (k : Loop) (store : Store) (stuck : Nat) :
    (s.updated c m k store stuck).drvOf c = { s.drvOf c with pending := (s.stages c m).output.duty }
    ∧ (s.updated c m k store stuck).drvOf c.other = s.drvOf c.other :=
  ⟨PerCam.get_set _ _ _, PerCam.get_set_other _ _ _⟩

theorem State.phaseStuck_if_phm {v : State} {c : Cam} {f : Prop} [Decidable f] (follow : f → (v.camOf c).state = .follow) :
    (if f then v.phaseStuck c else v).phm = v.phm := by
  split
  next out => exact (State.phaseStuck_kept (follow out)).blocks.2.1
  next => rfl

theorem State.loopUpdate_phm {s : State} {c : Cam} (m : Measurement) : (s.loopUpdate c m).phm = s.phm := by
  obtain ⟨n, done⟩ := s.loopUpdate_eq c m
  exact (congrArg State.phm done).trans (State.phaseStuck_if_phm
    fun out => (congrArg CamCtl.state (s.updated_camOf c m _ _ _).1).trans out.1)

/-- In FOLLOW, with phasing allowed and the target above the park band, a measurement makes an update (R55, R81, R95). -/
theorem State.measure_follow {s : State} {c : Cam} {p : Phm} {m : Measurement} (runs : s.machineRuns c = true)
    (follow : (s.camOf c).state = .follow) (allowed : s.phasingAllowed c = true)
    (above : s.settings.parkBand < s.effectiveTarget c) (status : p.status = (s.phmOf c).status) :
    (s.metered c p).measure c m = (s.metered c { p with measurement := some m }).loopUpdate c m := by
  have target : (s.metered c { p with measurement := some m }).effectiveTarget c = s.effectiveTarget c := by
    unfold State.effectiveTarget
    rw [State.metered_phmOf, status]
    rfl
  have stays : ¬((s.metered c { p with measurement := some m }).phasingAllowed c = false
      ∨ (s.metered c { p with measurement := some m }).effectiveTarget c
        ≤ (s.metered c { p with measurement := some m }).settings.parkBand) := by
    rintro (forbidden | low)
    · exact absurd (allowed.symm.trans forbidden) (by decide)
    · exact absurd (target.symm.le.trans low) (Nat.not_le.mpr above)
  have reviewed : (s.metered c { p with measurement := some m }).review c (some m)
      = s.metered c { p with measurement := some m } := by
    have standing := State.review_follow (s := s.metered c { p with measurement := some m }) runs follow (some m)
    rw [if_neg stays] at standing
    exact standing
  unfold State.measure
  rw [State.onPhm_metered, reviewed]
  exact if_pos (.inl follow)

theorem State.identified_follow {s : State} {c : Cam} {t : Time} {angle e ref : Nat} (runs : s.machineRuns c = true)
    (follow : (s.camOf c).state = .follow) (idle : (s.phmOf c).status ≠ .learning) (allowed : s.phasingAllowed c = true)
    (above : s.settings.parkBand < s.effectiveTarget c) (low : -128 ≤ rawDeviation c ref angle - (s.phmOf c).offset)
    (high : rawDeviation c ref angle - (s.phmOf c).offset ≤ 928) :
    let raw := rawDeviation c ref angle
    let m : Measurement := { phase := raw - (s.phmOf c).offset, edge := e, angle := angle, raw := raw, time := t }
    s.identified c t angle e ref = (s.metered c { s.phmOf c with
      tally := min 255 ((s.phmOf c).tally + 1), measurement := some m }).loopUpdate c m := by
  intro raw m
  unfold State.identified
  simp only [State.onPhm_eq_metered s, State.metered_phmOf, plausible, decide_eq_true_eq]
  have measured := State.measure_follow (m := m) (p := { s.phmOf c with tally := min 255 ((s.phmOf c).tally + 1) })
    runs follow allowed above rfl
  rw [if_pos ⟨low, high⟩]
  refine (congrArg (State.collect · c raw) measured).trans ?_
  refine State.collect_idle ?_
  rw [State.phmOf_of_phm (State.loopUpdate_phm m), State.metered_phmOf]
  exact idle

/-- Settles O58: the update is `State.loopUpdate_eq`, a stuck fault keeps what `UpdateKept` says, and the edge that makes one is
`State.identified_follow`. -/
theorem followUpdateRunsTheStages : Obligations.FollowUpdateRunsTheStages := by
  refine ⟨fun s c m active => ?_, ?_⟩
  · intro follows k dtq target step r0 ramp e eEff d q a r stuck steps up down hold marks t
    obtain ⟨n, done⟩ := s.loopUpdate_eq c m
    let l : Loop := { k.staged m (s.stages c m) with
      holdSteps := n, hold := hold, marked := if marks then hold else k.marked
      integral := if up then r.integral - 256 else if down then r.integral + 256 else r.integral
      settled := if ¬follows then k.settled else if s.settings.deadband < e.natAbs then 0
        else if steps then k.settled + dtq - 4000 else k.settled + dtq }
    let store : Store := { s.store with
      dirty := if marks then { s.store.dirty with cams := s.store.dirty.cams.set c true } else s.store.dirty
      camImages := if up ∨ down then s.store.camImages.set c { s.camRecord c with hold := hold }.encode else s.store.camImages }
    obtain ⟨v, told⟩ : ∃ v, v = s.updated c m l store (if follows then stuck else (s.camOf c).stuck) := ⟨_, rfl⟩
    have updated : t = if follows ∧ 4000 ≤ stuck then v.phaseStuck c else v := by
      rw [told]
      exact done
    have loopOf : v.loopOf c = l ∧ v.loopOf c.other = s.loopOf c.other := told ▸ s.updated_loopOf c m _ _ _
    have camOf : v.camOf c = { s.camOf c with ramp := ramp, stuck := if follows then stuck else (s.camOf c).stuck }
        ∧ v.camOf c.other = s.camOf c.other := told ▸ s.updated_camOf c m _ _ _
    have drvOf : v.drvOf c = { s.drvOf c with pending := r.duty } ∧ v.drvOf c.other = s.drvOf c.other :=
      told ▸ s.updated_drvOf c m _ _ _
    have shr : v.shr = { q with
        starved := if q.stationGrant < q.stationDemand then min 65535 (s.shr.starved + 1) else s.shr.starved } := told ▸ rfl
    have line : v.line = if s.shr.stationDemand = 0 ∧ q.stationDemand ≠ 0
        then { s.line with slots := { s.line.slots with share := true } } else s.line := told ▸ rfl
    have stored : v.store = store := told ▸ rfl
    have mon : v.mon = s.mon := told ▸ rfl
    have straps : v.straps = s.straps := told ▸ rfl
    have blocks : v.trk = s.trk ∧ v.phm = s.phm ∧ v.cap = s.cap ∧ v.scan = s.scan ∧ v.pwr = s.pwr ∧ v.stored = s.stored :=
      told ▸ ⟨rfl, rfl, rfl, rfl, rfl, rfl⟩
    have kept : UpdateKept c v t := by
      rw [updated]
      split
      next out => exact State.phaseStuck_kept ((congrArg CamCtl.state camOf.1).trans out.1)
      next => exact .refl c v
    clear_value t
    refine ⟨?_, fun stays => ?_, fun following out runs => ?_⟩
    · obtain ⟨trk, phm, cap, scan, pwr, copies⟩ := kept.blocks
      obtain ⟨trk', phm', cap', scan', pwr', copies'⟩ := blocks
      have starved : t.shr.starved = v.shr.starved := (congrArg Shr.starved kept.shr :)
      have peers : t.shr.peers = v.shr.peers := (congrArg Shr.peers kept.shr :)
      have flow : t.shr.fAvail = v.shr.fAvail := (congrArg Shr.fAvail kept.shr :)
      refine ⟨kept.error.trans (congrArg Loop.lastError loopOf.1), kept.authority.trans (congrArg Loop.authority loopOf.1),
        kept.duty.trans (congrArg Loop.lastDuty loopOf.1), kept.time.trans (congrArg Loop.lastUpdate loopOf.1),
        kept.first.trans (congrArg Loop.first loopOf.1), kept.hold.trans (congrArg Loop.hold loopOf.1),
        kept.marked.trans (congrArg Loop.marked loopOf.1), ?_, ?_, ?_, kept.store.trans stored, fun none some => ?_,
        kept.cam.trans camOf.2, kept.loop.trans loopOf.2, kept.drv.trans drvOf.2, trk.trans trk', phm.trans phm', cap.trans cap',
        scan.trans scan', pwr.trans pwr', copies.trans copies'⟩
      · rw [starved, shr]
      · rw [peers, shr]
      · rw [flow, shr]
      · rw [kept.share, line, if_pos ⟨none, some⟩]
    · rw [if_neg stays] at updated
      subst updated
      refine ⟨camOf.1, congrArg Loop.integral loopOf.1, congrArg Loop.settled loopOf.1, drvOf.1, (congrArg Shr.demand shr).trans rfl, mon,
        fun unqueued => ?_⟩
      rw [line, if_neg unqueued]
    · have runs' : v.machineRuns c = true := (State.machineRuns_of_straps straps c).trans runs
      have follow : (v.camOf c).state = .follow := (congrArg CamCtl.state camOf.1).trans following
      have active : t.active (.phaseStuck c) = true := by
        rw [updated, if_pos ⟨following, out⟩]
        exact (State.active_of_mon (State.camToFaulted_frame c _).2.2.2.2.2.2.2.2.2.1 _).trans (State.activate_active _ _)
      rw [if_pos ⟨following, out⟩, State.phaseStuck_of_runs runs' follow] at updated
      have own : t.camOf c = v.enterCtl c .faulted v.now (v.camOf c) := by
        rw [updated]
        exact PerCam.get_set _ _ _
      have position : t.loopOf c = v.enterLoop .follow .faulted (v.loopOf c) := by
        rw [updated]
        exact PerCam.get_set _ _ _
      have drive : t.drvOf c = v.enterDrv c .faulted (v.drvOf c) := by
        rw [updated]
        exact PerCam.get_set _ _ _
      have records : t.mon = (v.activate (.phaseStuck c)).mon := by rw [updated]
      refine ⟨by rw [own]; rfl, by rw [own]; rfl, by rw [own]; rfl, by rw [position]; rfl, by rw [drive]; rfl, by rw [drive]; rfl,
        by rw [drive]; rfl, ?_, active, fun was => ?_, fun j other => ?_⟩
      · have again : (s.shr.demand.set c d).set c 0 = s.shr.demand.set c 0 := by cases c <;> rfl
        rw [updated, ← again]
        show v.shr.demand.set c 0 = _
        rw [shr]
      · rw [records, State.activate_get, mon, if_neg (by simpa [State.active] using was)]
      · rw [records, State.activate_get_ne _ _ _ other, mon]
  · intro s c t rest h t0 e ref on no_loss head sync half tooth runs follow idle allowed above angle raw m found low high
    have place : s.trk.angleAt t = angle := by
      rw [Trk.angleAt, half, Trk.sinceTooth_eq tooth]
      rfl
    have taken : exec .takeCamEntry s = .next (((s.took rest).countCam c).stampedEdge c t angle) := by
      rw [exec_takeCamEntry on head, State.takeHead_plain no_loss head, State.camEntry, State.took_trk, sync]
      exact congrArg (fun at_ => Host.Outcome.next (((s.took rest).countCam c).stampedEdge c t at_)) place
    have unlearned : ((s.took rest).countCam c).learnStart c = (s.took rest).countCam c := by
      refine if_neg fun auto => ?_
      have parked := ((State.autoLearns_iff (s := (s.took rest).countCam c) sync).mp auto).2.2.1
      exact absurd (follow.symm.trans parked) (by decide)
    rw [taken, State.stampedEdge, unlearned]
    show Host.Outcome.next (match identify c (s.camSettings c) angle with
      | none => ((s.took rest).countCam c).onPhm c (fun p => { p with stray := satInc 65535 p.stray })
      | some (e, ref) => ((s.took rest).countCam c).identified c t angle e ref) = _
    rw [found]
    exact congrArg Host.Outcome.next (State.identified_follow (s := (s.took rest).countCam c) runs follow idle allowed above low high)

end Sys2Proof.Machine
end

section
/-!
The receiver's errors and the line's level (R159 to R161, R170): one lemma per operation, and what FRAMING_ERROR, LINE_IDLE and
LINE_HELD do with them.
-/

set_option Elab.async false

namespace Sys2Proof.Machine

theorem State.tb_ge (s : State) : 8 ≤ s.tb := by
  unfold State.tb
  split <;> decide

/-! ## Framing errors (R159, R170) -/

/-- The line as a framing error leaves it where no frame of the own is being sent. -/
def Line.failed (l : Line) : Line :=
  { l with framing := min 65535 (l.framing + 1), receiver := .waitIdle, dataBits := 0, sampled := [] }

theorem State.dropOwnFrame_free {s : State} (free : s.line.sending = none) : s.dropOwnFrame = s := by
  unfold State.dropOwnFrame
  rw [free]

theorem State.framingError_free {s : State} (free : s.line.sending = none) :
    s.framingError = { s with line := s.line.failed } := by
  have failed : s.framingError = State.dropOwnFrame { s with line := s.line.failed } := by
    unfold State.framingError
    simp [State.withLine, Line.wait, Line.failed, satInc, free]
  rw [failed]
  exact State.dropOwnFrame_free (s := { s with line := s.line.failed }) free

/-- A frame of the own dropped in the middle, with what its owner does (R170, R177, R187). -/
theorem State.dropOwnFrame_eq {s : State} {slot : Slot} {bytes : List Byte} (sends : s.line.sending = some ⟨slot, bytes⟩) :
    s.dropOwnFrame = { s with
      line := { s.line with sending := none, txFailures := min 65535 (s.line.txFailures + 1) }
      mon := if slot = .status then { s.mon with noted := none } else s.mon
      service := if slot = .reply ∧ s.service.composed = true then {} else s.service } := by
  unfold State.dropOwnFrame
  rw [sends]
  cases slot with
  | sync => rfl
  | share => rfl
  | status => rfl
  | reply =>
    cases composed : s.service.composed <;> simp [State.withService, State.withLine, satInc, composed]

theorem State.framingError_own {s : State} {slot : Slot} {bytes : List Byte} (sends : s.line.sending = some ⟨slot, bytes⟩) :
    s.framingError = { s with
      line := { s.line.failed with
        drive := none, aborting := false
        lastRise := if s.line.drive.isSome = true ∧ s.line.othersLow = false then s.now else s.line.lastRise
        sending := none, txFailures := min 65535 (s.line.txFailures + 1) }
      mon := if slot = .status then { s.mon with noted := none } else s.mon
      service := if slot = .reply ∧ s.service.composed = true then {} else s.service } := by
  have failed : s.framingError = State.dropOwnFrame { s with line := { s.line.failed with
      drive := none, aborting := false
      lastRise := if s.line.drive.isSome = true ∧ s.line.othersLow = false then s.now else s.line.lastRise } } := by
    unfold State.framingError
    simp [State.withLine, Line.wait, Line.release, Line.failed, satInc, sends]
  rw [failed]
  exact State.dropOwnFrame_eq (s := { s with line := { s.line.failed with
      drive := none, aborting := false
      lastRise := if s.line.drive.isSome = true ∧ s.line.othersLow = false then s.now else s.line.lastRise } }) sends

theorem State.framingDue_iff (s : State) : s.framingDue = true ↔
    (s.line.receiver = .start ∧ s.line.low = true ∧ 14 * (s.tb / 8) < elapsed s.now s.line.lastFall)
    ∨ (s.line.receiver = .frame ∧ s.line.dataBits = 0 ∧ 17 * (s.tb / 8) < elapsed s.now s.line.lastFall)
    ∨ (s.line.receiver = .frame ∧ s.line.dataBits ≠ 0 ∧ (9 * (s.tb / 8) < elapsed s.now s.line.lastFall
      ∨ (s.line.low = true ∧ 7 * (s.tb / 8) < elapsed s.now s.line.lastFall))) := by
  unfold State.framingDue
  cases s.line.receiver with
  | frame => by_cases first : s.line.dataBits = 0 <;> simp [first]
  | start => simp
  | off => simp
  | waitIdle => simp
  | idle => simp

/-! ## The idle and the held line (R160, R161) -/

theorem State.deactivate_of_inactive {s : State} {k : Cond} (inactive : s.active k = false) : s.deactivate k = s :=
  if_neg (by simp [inactive])

theorem State.activate_of_active {s : State} {k : Cond} (active : s.active k = true) : s.activate k = s := if_pos active

theorem State.lineIdle_of_inactive {s : State} (inactive : s.active .lineStuck = false) :
    s.lineIdle = { s with line := { s.line with txEnabled := true, receiver := .idle } } :=
  State.deactivate_of_inactive inactive

/-- The receiver enters IDLE, block by block. -/
theorem State.lineIdle_eq (s : State) : s.lineIdle = { s with
    mon := s.lineIdle.mon
    line := { s.line with txEnabled := true, receiver := .idle, slots := s.lineIdle.line.slots } } :=
  State.eq_of_blocks (line := State.deactivate_slots _ _)

theorem State.lineIdle_stuck (s : State) : s.lineIdle.mon.get .lineStuck = { s.mon.get .lineStuck with active := false } :=
  State.deactivate_get _ _

theorem State.lineIdle_others (s : State) {k : Cond} (other : k ≠ .lineStuck) : s.lineIdle.mon.get k = s.mon.get k :=
  State.deactivate_get_ne _ _ _ other

theorem State.lineHeld_of_active {s : State} (active : s.active .lineStuck = true) :
    s.lineHeld = { s with line := { s.line with txEnabled := false } } := by
  unfold State.lineHeld
  rw [State.activate_of_active active]
  rfl

/-- The line is held, block by block. -/
theorem State.lineHeld_eq (s : State) : s.lineHeld = { s with
    mon := (s.activate .lineStuck).mon
    line := { s.line with txEnabled := false, slots := (s.activate .lineStuck).line.slots } } := by
  unfold State.lineHeld
  rw [s.activate_rest .lineStuck]
  rfl

theorem State.holdReached_iff {s : State} : s.holdReached = true ↔
    s.line.receiver ≠ .off ∧ s.line.low = true ∧ 16 * s.tb ≤ elapsed s.now s.line.lastFall := by
  simp [State.holdReached, and_assoc]

theorem State.dozeCheck_of_awake {s : State} (awake : s.dozeReady = false) : s.dozeCheck = s := if_neg (by simp [awake])

/-- Settles O44. -/
theorem receiverLeavesFramesAndFindsIdle : Obligations.ReceiverLeavesFramesAndFindsIdle := by
  unfold Obligations.ReceiverLeavesFramesAndFindsIdle
  refine ⟨fun s => ?cell, fun s => ?framing, fun s wait high => ⟨fun long => ⟨fun inactive => ?_, ?idle⟩, fun short => ?_⟩,
    fun s on low => ⟨fun long => ⟨fun active => ?_, ?held⟩, fun short => ?_⟩⟩
  case cell =>
    unfold State.tb
    split
    next code => rw [if_pos code]
    next code => rw [if_neg (by rw [code]; decide), if_pos code]
    next zero two => rw [if_neg zero, if_neg two]
  case framing =>
    intro dt due
    have iff : s.framingDue = true ↔ due := s.framingDue_iff
    refine ⟨fun now free awake => ?_, fun slot bytes now sends run => ?_, fun early => next_ite_neg (mt iff.mp early)⟩
    · refine (next_ite_pos (iff.mpr now)).trans ?_
      have same : State.dozeReady { s with line := s.line.failed } = s.dozeReady := rfl
      rw [State.framingError_free free, State.dozeCheck_of_awake (same.trans awake)]
      rfl
    · refine (next_ite_pos (iff.mpr now)).trans ?_
      rw [State.dozeCheck_run ((congrArg Pwr.power (State.framingError_frame s).2.2.2.2.2.2.2.2.2.2.2.2.2.2.2.1).trans run),
        State.framingError_own sends]
      rfl
  · rw [← State.lineIdle_of_inactive inactive]
    exact next_ite_pos (State.idleReached_iff.mpr ⟨wait, high, long⟩)
  case idle =>
    have rest := s.lineIdle_eq
    refine ⟨s.lineIdle, next_ite_pos (State.idleReached_iff.mpr ⟨wait, high, long⟩), ?_, ?_, s.lineIdle_stuck,
      fun k other => s.lineIdle_others other, ?_⟩
    · exact (congrArg (fun t => t.line.txEnabled) rest :)
    · exact (congrArg (fun t => t.line.receiver) rest :)
    · exact State.eq_of_blocks
  · refine next_ite_neg fun reached => ?_
    have long := (State.idleReached_iff.mp reached).2.2
    omega
  · rw [← State.lineHeld_of_active active]
    exact next_ite_pos (State.holdReached_iff.mpr ⟨on, low, long⟩)
  case held =>
    have rest := s.lineHeld_eq
    have mon : s.lineHeld.mon = (s.activate .lineStuck).mon := (congrArg State.mon rest :)
    refine ⟨s.lineHeld, next_ite_pos (State.holdReached_iff.mpr ⟨on, low, long⟩), ?_, ?_, ?_,
      (State.active_of_mon mon _).trans (s.activate_active _), fun inactive => ?_, fun k other => ?_, ?_⟩
    · exact (congrArg (fun t => t.line.txEnabled) rest :)
    · exact (congrArg (fun t => t.line.receiver) rest :)
    · exact (congrArg (fun t => t.line.sending) rest :)
    · rw [mon, State.activate_get, if_neg (by simpa [State.active] using inactive)]
    · rw [mon, State.activate_get_ne _ _ _ other]
    · exact State.eq_of_blocks
  · refine next_ite_neg fun reached => ?_
    have long := (State.holdReached_iff.mp reached).2.2
    omega

end Sys2Proof.Machine
end

section
/-!
Edges of the station line, what they begin and how the lows and highs they end are judged (R158 to R161, R170, R190).
-/

set_option Elab.async false

namespace Sys2Proof.Machine

/-! ## A falling edge (R159, R160) -/

/-- The line with SLN pulled low by another station. -/
def State.pulled (s : State) : State := { s with line := { s.line with othersLow := true } }

theorem State.pulledLow_of_low {s : State} (low : s.line.low = true) : s.pulledLow = s.pulled := if_pos low

theorem State.pulledLow_of_high {s : State} (high : s.line.low = false) :
    s.pulledLow = s.idleSettled.pulled.quietRestart.fallingEdge := if_neg (by simp [high])

theorem State.quietRestart_run {s : State} (run : s.pwr.power = .run) : s.quietRestart = s := if_neg (by simp [run])

theorem State.idleSettled_of_early {s : State} (early : s.line.receiver ≠ .waitIdle ∨ elapsed s.now s.line.lastRise < 12 * s.tb) :
    s.idleSettled = s := by
  refine if_neg fun reached => ?_
  obtain ⟨wait, -, long⟩ := State.idleReached_iff.mp reached
  rcases early with away | short
  · exact away wait
  · omega

/-- In RUN an edge on a high line only is one of the receiver. -/
theorem exec_lineFallingEdge_run {s : State} (run : s.pwr.power = .run) (high : s.line.low = false) :
    exec .lineFallingEdge s = .next s.idleSettled.pulled.fallingEdge := by
  have settled : s.idleSettled.pulled.pwr = s.pwr := by
    unfold State.pulled State.idleSettled
    split <;> simp
  have run' : s.idleSettled.pulled.pwr.power = .run := (congrArg Pwr.power settled).trans run
  have taken : s.pulledLow = s.idleSettled.pulled.fallingEdge := by
    rw [State.pulledLow_of_high high, State.quietRestart_run run']
  have awake : s.pulledLow.pwr.power = .run := s.pulledLow_power.1.trans run
  exact congrArg Host.Outcome.next ((State.dozeCheck_run awake).trans taken)

/-- A pull on a line that is low already is no edge. -/
theorem exec_lineFallingEdge_low {s : State} (low : s.line.low = true) (awake : s.dozeReady = false) :
    exec .lineFallingEdge s = .next s.pulled := by
  have awake' : s.pulled.dozeReady = false := awake
  refine congrArg Host.Outcome.next ?_
  rw [State.pulledLow_of_low low, State.dozeCheck_of_awake awake']

/-- An edge of this moment begins a low in START (R160). -/
def Line.startedAt (l : Line) (now : Time) : Line :=
  { l with othersLow := true, receiver := .start, lastFall := now, dataBits := 0, sampled := [] }

theorem State.fallingEdge_idle {s : State} (idle : s.line.receiver = .idle) :
    s.pulled.fallingEdge = { s with line := s.line.startedAt s.now } := by
  have idle' : s.pulled.line.receiver = .idle := idle
  unfold State.fallingEdge
  rw [idle']
  rfl

theorem State.bitInTime_iff (s : State) : s.bitInTime = true ↔
    (if s.line.dataBits = 0 then 15 * (s.tb / 8) else 7 * (s.tb / 8)) ≤ elapsed s.now s.line.lastFall
    ∧ elapsed s.now s.line.lastFall ≤ if s.line.dataBits = 0 then 17 * (s.tb / 8) else 9 * (s.tb / 8) := by
  unfold State.bitInTime
  by_cases first : s.line.dataBits = 0 <;> simp [first]

theorem State.fallingEdge_bit {s : State} (frame : s.line.receiver = .frame) (in_time : s.bitInTime = true) :
    s.pulled.fallingEdge = { s with line := { s.line with othersLow := true }.beginBit s.now s.tb } := by
  have frame' : s.pulled.line.receiver = .frame := frame
  have in_time' : s.pulled.bitInTime = true := in_time
  unfold State.fallingEdge
  rw [frame']
  exact if_pos in_time'

theorem State.fallingEdge_off_time {s : State} (frame : s.line.receiver = .frame) (off_time : ¬s.bitInTime = true)
    (free : s.line.sending = none) :
    s.pulled.fallingEdge = { s with line := { s.line with othersLow := true, lastFall := s.now }.failed } := by
  have frame' : s.pulled.line.receiver = .frame := frame
  have off_time' : ¬s.pulled.bitInTime = true := off_time
  unfold State.fallingEdge
  rw [frame']
  refine (if_neg off_time').trans ?_
  exact State.framingError_free (s := { s with line := { s.line with othersLow := true, lastFall := s.now } }) free

theorem Line.drive_of_high {l : Line} (high : l.low = false) : l.drive = none ∧ l.othersLow = false := by
  simpa [Line.low, and_comm] using high

/-- A data bit that begins, with the time it is driven by its place in the frame (R158, R162). -/
theorem Line.beginBit_eq (l : Line) (now : Time) (tb : Nat) : l.beginBit now tb = { l with
    lastFall := now, dataBits := l.dataBits + 1
    drive := l.sending.elim l.drive fun x =>
      some ⟨now, if (bitsOf x.bytes).getD l.dataBits true then tb / 4 else 3 * (tb / 4)⟩ } := by
  unfold Line.beginBit
  cases l.sending <;> rfl

theorem Line.beginBit_sending {l : Line} {now : Time} {tb : Nat} {x : Transmission} (sends : l.sending = some x) :
    l.beginBit now tb = { l with
      lastFall := now, dataBits := l.dataBits + 1
      drive := some ⟨now, if (bitsOf x.bytes).getD l.dataBits true then tb / 4 else 3 * (tb / 4)⟩ } := by
  rw [Line.beginBit_eq]
  exact congrArg (fun d => { l with lastFall := now, dataBits := l.dataBits + 1, drive := d }) (congrArg (Option.elim · _ _) sends)

/-! ## A rising edge (R159, R160, R161) -/

/-- The line as it rises at this moment, the other stations having let it go. -/
def State.risen (s : State) : State := { s with line := { s.line with othersLow := false, lastRise := s.now } }

theorem exec_startOfFrame {s : State} (held : s.line.othersLow = true) (awake : s.line.sending = none ∨ s.letGo.dozeReady = false) :
    exec .startOfFrame s = .next s.letGo := by
  refine (next_ite_pos held).trans (congrArg Host.Outcome.next ?_)
  rcases awake with free | awake
  · exact if_neg (by simp [free])
  · rw [State.dozeCheck_of_awake awake]
    exact ite_self _

theorem State.dozeReady_sending {s : State} {x : Transmission} (sends : s.line.sending = some x) : s.dozeReady = false := by
  simp [State.dozeReady, sends]

/-- A rise that leaves the frame of the own as it is brings no DOZE entry. -/
theorem exec_startOfFrame_ends {s : State} {l : Line} (held : s.line.othersLow = true) (judged : s.letGo = { s with line := l })
    (same : l.sending = s.line.sending := by rfl) : exec .startOfFrame s = .next { s with line := l } := by
  rw [← judged]
  refine exec_startOfFrame held ?_
  cases sends : s.line.sending with
  | none => exact .inl rfl
  | some x => exact .inr (State.dozeReady_sending (x := x) (by rw [judged]; exact same.trans sends))

@[simp] theorem State.letGo_power (s : State) : s.letGo.pwr.power = s.pwr.power := by simp

theorem State.dozeReady_run {s : State} (run : s.pwr.power = .run) : s.dozeReady = false := by simp [State.dozeReady, run]

/-- A rise, with the DOZE entry it can bring in STANDBY. -/
theorem exec_startOfFrame_cases {s : State} (held : s.line.othersLow = true) :
    ∃ t, exec .startOfFrame s = .next t ∧ (t = s.letGo ∨ s.pwr.power = .standby ∧ t = s.letGo.enterDoze) := by
  by_cases awake : s.line.sending = none ∨ s.letGo.dozeReady = false
  · exact ⟨_, exec_startOfFrame held awake, .inl rfl⟩
  · obtain ⟨sends, ready⟩ : s.line.sending ≠ none ∧ s.letGo.dozeReady = true := by simpa using awake
    have standby : s.pwr.power = .standby := s.letGo_power.symm.trans (State.dozeReady_iff _ |>.mp ready).1
    refine ⟨_, (next_ite_pos held).trans (congrArg Host.Outcome.next ?_), .inr ⟨standby, rfl⟩⟩
    exact (if_pos (Option.isSome_iff_ne_none.mpr sends)).trans (if_pos ready)

theorem State.letGo_undriven {s : State} (free : s.line.drive = none) : s.letGo = s.holdSettled.riseJudged :=
  if_neg (by simp [free])

theorem State.holdSettled_of_early {s : State} (early : s.line.receiver = .off ∨ elapsed s.now s.line.lastFall < 16 * s.tb) :
    s.holdSettled = s := by
  refine if_neg fun reached => ?_
  obtain ⟨on, -, long⟩ := State.holdReached_iff.mp reached
  rcases early with off | short
  · exact on off
  · omega

theorem State.riseJudged_data {s : State} (frame : s.line.receiver = .frame) :
    s.riseJudged = if s.framingDue then s.risen.framingError else s.risen := by
  unfold State.riseJudged
  rw [frame]
  rfl

theorem State.riseJudged_start {s : State} (start : s.line.receiver = .start) : s.riseJudged = s.risen.judgeLow := by
  unfold State.riseJudged
  rw [start]
  rfl

theorem State.judgeLow_brief {s : State} (brief : elapsed s.now s.line.lastFall < 5 * (s.tb / 4)) :
    s.risen.judgeLow = { s with line := s.risen.line.wait } := if_pos brief

theorem State.judgeLow_start {s : State} (least : 5 * (s.tb / 4) ≤ elapsed s.now s.line.lastFall)
    (most : elapsed s.now s.line.lastFall ≤ 7 * (s.tb / 4)) :
    s.risen.judgeLow = { s with line := { s.risen.line with receiver := .frame, dataBits := 0, sampled := [] } } :=
  (if_neg (Nat.not_lt.mpr least)).trans (if_pos most)

theorem State.judgeLow_long {s : State} (past : 7 * (s.tb / 4) < elapsed s.now s.line.lastFall) :
    s.risen.judgeLow = s.risen.framingError :=
  (if_neg (show ¬elapsed s.now s.line.lastFall < 5 * (s.tb / 4) by omega)).trans (if_neg (Nat.not_le.mpr past))

theorem State.riseJudged_else {s : State} (start : s.line.receiver ≠ .start) (frame : s.line.receiver ≠ .frame) :
    s.riseJudged = s.risen := by
  unfold State.riseJudged
  cases is : s.line.receiver with
  | start => exact absurd is start
  | frame => exact absurd is frame
  | off => rfl
  | waitIdle => rfl
  | idle => rfl

/-- What a framing error leaves as it is, with no drive of the own on the line. -/
theorem State.framingError_kept {s : State} (free : s.line.drive = none) :
    s.framingError.line.receiver = .waitIdle ∧ s.framingError.line.txEnabled = s.line.txEnabled
    ∧ s.framingError.line.othersLow = s.line.othersLow ∧ s.framingError.line.lastRise = s.line.lastRise
    ∧ s.framingError.mon.records = s.mon.records := by
  cases sends : s.line.sending with
  | none =>
    rw [State.framingError_free sends]
    exact ⟨rfl, rfl, rfl, rfl, rfl⟩
  | some x =>
    rw [State.framingError_own (slot := x.slot) (bytes := x.bytes) sends]
    refine ⟨rfl, rfl, rfl, if_neg (by simp [free]), ?_⟩
    show (if x.slot = .status then { s.mon with noted := none } else s.mon).records = s.mon.records
    split <;> rfl

/-- A rise after 16Tb: a low in START or FRAME is a framing error, another only ends. -/
theorem State.riseJudged_long {s : State} (undriven : s.line.drive = none)
    (long : 16 * s.tb ≤ elapsed s.now s.line.lastFall) :
    s.riseJudged.line.txEnabled = s.line.txEnabled ∧ s.riseJudged.line.othersLow = false ∧ s.riseJudged.line.lastRise = s.now
    ∧ s.riseJudged.mon.records = s.mon.records
    ∧ (s.line.receiver = .off ∨ s.line.receiver = .idle ∨ s.riseJudged.line.receiver = .waitIdle) := by
  have tb := s.tb_ge
  have failed := State.framingError_kept (s := s.risen) undriven
  obtain ⟨waits, tx, others, rise, records⟩ := failed
  cases is : s.line.receiver with
  | start =>
    have judged : s.riseJudged = s.risen.framingError := by
      rw [State.riseJudged_start is]
      exact State.judgeLow_long (by omega)
    rw [judged]
    exact ⟨tx, others, rise, records, .inr (.inr waits)⟩
  | frame =>
    have due : s.framingDue = true := by
      refine s.framingDue_iff.mpr (.inr ?_)
      by_cases first : s.line.dataBits = 0
      · exact .inl ⟨is, first, by omega⟩
      · exact .inr ⟨is, first, .inl (by omega)⟩
    rw [State.riseJudged_data is, if_pos due]
    exact ⟨tx, others, rise, records, .inr (.inr waits)⟩
  | off =>
    rw [State.riseJudged_else (by simp [is]) (by simp [is])]
    exact ⟨rfl, rfl, rfl, rfl, .inl rfl⟩
  | idle =>
    rw [State.riseJudged_else (by simp [is]) (by simp [is])]
    exact ⟨rfl, rfl, rfl, rfl, .inr (.inl rfl)⟩
  | waitIdle =>
    rw [State.riseJudged_else (by simp [is]) (by simp [is])]
    exact ⟨rfl, rfl, rfl, rfl, .inr (.inr is)⟩

/-- A rise of a low held for 16Tb, on a line the part does not drive. -/
theorem State.letGo_long {s : State} (on : s.line.receiver ≠ .off) (held : s.line.othersLow = true) (undriven : s.line.drive = none)
    (long : 16 * s.tb ≤ elapsed s.now s.line.lastFall) :
    s.letGo.line.txEnabled = false ∧ s.letGo.line.othersLow = false ∧ s.letGo.line.lastRise = s.now
    ∧ s.letGo.mon.records = (s.activate .lineStuck).mon.records
    ∧ (s.line.receiver = .idle ∨ s.letGo.line.receiver = .waitIdle) := by
  have reached : s.holdReached = true := State.holdReached_iff.mpr ⟨on, by simp [Line.low, held], long⟩
  have judged : s.letGo = s.lineHeld.riseJudged := (if_neg (by simp [undriven])).trans (congrArg State.riseJudged (if_pos reached))
  obtain ⟨tx, others, rise, records, receiver⟩ := State.riseJudged_long (s := s.lineHeld)
    (by rw [s.lineHeld_eq]; exact undriven) (by rw [s.lineHeld_eq]; exact long)
  rw [← judged] at tx others rise records receiver
  rw [s.lineHeld_eq] at tx rise records receiver
  exact ⟨tx, others, rise, records, receiver.resolve_left on⟩

/-! ## A tick of a transmission (R158, R159, R160) -/

/-- In STANDBY and in RUN a tick is one of the counter and of the line. -/
theorem State.clockTick_awake {s : State} (awake : s.pwr.power = .standby ∨ s.pwr.power = .run) :
    s.clockTick = { s with now := s.now + 1, line := s.line.tick (s.now + 1) s.tb } := by
  unfold State.clockTick
  rcases awake with power | power
  · rw [power]
    rfl
  · rw [power]
    rfl

theorem step_line {s : State} (empty : s.pending = []) (still : s.ownEvents = []) (run : s.pwr.power = .run) :
    step s = .next { s with now := s.now + 1, line := s.line.tick (s.now + 1) s.tb } := by
  rw [step_idle empty still, State.tick_of_power (by simp [run]), State.clockTick_awake (.inr run)]

theorem Line.releaseDue_early {l : Line} {now : Time} (early : dueAt l.drive now = false) : l.releaseDue now = l :=
  if_neg (by simp [early])

theorem Line.driveNext_other {l : Line} {now : Time} {tb : Nat} (first : elapsed now l.lastFall ≠ tb)
    (second : elapsed now l.lastFall ≠ 2 * tb) : l.driveNext now tb = l := by
  unfold Line.driveNext
  split
  next => rfl
  next =>
    refine if_neg fun ⟨_, _, _, time⟩ => ?_
    split at time
    · exact second time
    · exact first time

theorem Line.sample_other {l : Line} {now : Time} {tb : Nat} (other : elapsed now l.lastFall ≠ tb / 2) : l.sample now tb = l :=
  if_neg (by simp [Line.atSample, other])

/-- The line as a drive of the own ends on it. -/
def Line.undriven (l : Line) (now : Time) : Line :=
  { l with drive := none, aborting := false, lastRise := if l.othersLow then l.lastRise else now }

theorem Line.releaseDue_due {l : Line} {now : Time} {d : Timer} (drives : l.drive = some d) (due : d.len ≤ elapsed now d.start) :
    l.releaseDue now = l.undriven now := by
  refine (if_pos (dueAt_of drives due)).trans ?_
  unfold Line.release Line.undriven
  rw [drives]
  cases l.othersLow <;> rfl

/-- A drive that ends, on no other mark of the bit cell. -/
theorem Line.tick_release {l : Line} {now : Time} {tb : Nat} {d : Timer} (drives : l.drive = some d)
    (due : d.len ≤ elapsed now d.start) (sample : elapsed now l.lastFall ≠ tb / 2) (first : elapsed now l.lastFall ≠ tb)
    (second : elapsed now l.lastFall ≠ 2 * tb) : l.tick now tb = l.undriven now := by
  have unsent : (l.undriven now).driveNext now tb = l.undriven now := Line.driveNext_other first second
  unfold Line.tick
  rw [Line.releaseDue_due drives due, unsent]
  exact Line.sample_other sample

/-- The next bit begins on a high line. -/
theorem Line.tick_begin {l : Line} {now : Time} {tb : Nat} {x : Transmission} (sends : l.sending = some x)
    (frame : l.receiver = .frame) (high : l.low = false) (left : l.dataBits < 8 * x.bytes.length)
    (time : elapsed now l.lastFall = if l.dataBits = 0 then 2 * tb else tb) (wide : 8 ≤ tb) :
    l.tick now tb = l.beginBit now tb := by
  obtain ⟨undriven, free⟩ := Line.drive_of_high high
  have kept : l.releaseDue now = l := Line.releaseDue_early (by rw [undriven]; rfl)
  have begun : l.driveNext now tb = l.beginBit now tb := by
    unfold Line.driveNext
    rw [sends]
    exact (if_pos ⟨frame, undriven, left, time⟩).trans (if_neg (by simp [free]))
  have fresh : elapsed now (l.beginBit now tb).lastFall ≠ tb / 2 := by
    show elapsed now now ≠ tb / 2
    have zero : elapsed now now = 0 := by simp [elapsed]
    omega
  unfold Line.tick
  rw [kept, begun, Line.sample_other fresh]

/-- A bit is sampled. -/
theorem Line.tick_sample {l : Line} {now : Time} {tb : Nat} (frame : l.receiver = .frame) (bits : 1 ≤ l.dataBits)
    (time : elapsed now l.lastFall = tb / 2) (early : dueAt l.drive now = false) (wide : 8 ≤ tb) :
    l.tick now tb = { l with sampled := l.sampled ++ [!l.low] } := by
  unfold Line.tick
  rw [Line.releaseDue_early early, Line.driveNext_other (by omega) (by omega)]
  exact if_pos (by simp [Line.atSample, frame, bits, time])

/-- Settles O45. -/
theorem lineEdgesAreJudgedByTheirTimes : Obligations.LineEdgesAreJudgedByTheirTimes := by
  unfold Obligations.LineEdgesAreJudgedByTheirTimes
  intro pulseOf
  refine ⟨fun s run high => ⟨fun idle => ?_, fun wait => ⟨fun short => ?_, fun long => ⟨fun inactive => ?_, ?_⟩⟩, fun frame => ?falls⟩,
    fun s low awake => ?_, fun s standby idle high free => ?_, fun s held => ⟨fun start undriven free => ?starts,
      fun frame undriven => ?rises, fun still undriven short => ?_, fun off undriven => ?_, fun on undriven long => ?stuck,
      fun driven => ?_⟩, fun s x empty quiet run sends frame => ?ticks⟩
  · rw [exec_lineFallingEdge_run run high, State.idleSettled_of_early (.inl (by simp [idle])), State.fallingEdge_idle idle]
    rfl
  · rw [exec_lineFallingEdge_run run high, State.idleSettled_of_early (.inr short)]
    have wait' : s.pulled.line.receiver = .waitIdle := wait
    unfold State.fallingEdge
    rw [wait']
    rfl
  · have reached := State.idleReached_iff.mpr ⟨wait, high, long⟩
    rw [exec_lineFallingEdge_run run high, State.idleSettled, if_pos reached, State.lineIdle_of_inactive inactive]
    exact congrArg Host.Outcome.next (State.fallingEdge_idle rfl)
  · have reached := State.idleReached_iff.mpr ⟨wait, high, long⟩
    have rest := s.lineIdle_eq
    have idle : s.lineIdle.line.receiver = .idle := (congrArg (fun t => t.line.receiver) rest :)
    have tx : s.lineIdle.line.txEnabled = true := (congrArg (fun t => t.line.txEnabled) rest :)
    have now : s.lineIdle.now = s.now := (congrArg State.now rest :)
    have taken : exec .lineFallingEdge s = .next { s.lineIdle with line := s.lineIdle.line.startedAt s.lineIdle.now } := by
      rw [exec_lineFallingEdge_run run high, State.idleSettled, if_pos reached]
      exact congrArg Host.Outcome.next (State.fallingEdge_idle idle)
    refine ⟨_, taken, rfl, now, rfl, tx, s.lineIdle_stuck, fun k other => s.lineIdle_others other, ?_⟩
    exact State.eq_of_blocks
  case falls =>
    intro dt lo hi
    have iff : s.bitInTime = true ↔ lo ≤ dt ∧ dt ≤ hi := s.bitInTime_iff
    have taken := exec_lineFallingEdge_run run high
    rw [State.idleSettled_of_early (.inl (by simp [frame]))] at taken
    refine ⟨fun late early => ?_, fun free off_time => ?_⟩
    · rw [taken, State.fallingEdge_bit frame (iff.mpr ⟨late, early⟩), Line.beginBit_eq]
      cases sends : s.line.sending <;> simp [sends, pulseOf, (Line.drive_of_high high).1]
    · rw [taken, State.fallingEdge_off_time frame (fun in_time => by have := iff.mp in_time; omega) free]
      rfl
  · rw [exec_lineFallingEdge_low low awake]
    rfl
  · have same : s.idleSettled = s := State.idleSettled_of_early (.inl (by simp [idle]))
    have taken : s.pulledLow = { s with
        line := s.line.startedAt s.now, pwr := { s.pwr with quietTimer := some ⟨s.now, 10000000⟩, quietMark := false } } := by
      have restarted : s.pulled.quietRestart
          = State.pulled { s with pwr := { s.pwr with quietTimer := some ⟨s.now, 10000000⟩, quietMark := false } } :=
        if_pos ⟨standby, Option.isNone_iff_eq_none.mpr free⟩
      rw [State.pulledLow_of_high high, same, restarted]
      exact State.fallingEdge_idle idle
    refine congrArg Host.Outcome.next ?_
    rw [taken]
    exact State.dozeCheck_of_awake (by simp [State.dozeReady])
  case starts =>
    intro low l
    have wide := s.tb_ge
    have taken : elapsed s.now s.line.lastFall < 16 * s.tb → exec .startOfFrame s = .next s.risen.judgeLow := by
      intro short
      rw [exec_startOfFrame held (.inl free), State.letGo_undriven undriven, State.holdSettled_of_early (.inr short),
        State.riseJudged_start start]
    refine ⟨fun brief => ?_, fun least most => ?_, fun past short => ?_⟩
    · rw [taken (by omega), State.judgeLow_brief brief]
      rfl
    · rw [taken (by omega), State.judgeLow_start least most]
      rfl
    · rw [taken short, State.judgeLow_long past, State.framingError_free (s := s.risen) free]
      rfl
  case rises =>
    intro low l long
    have wide := s.tb_ge
    have down : s.line.low = true := by simp [Line.low, held]
    have iff : s.framingDue = true ↔ long := by
      rw [State.framingDue_iff]
      by_cases first : s.line.dataBits = 0
      · simp [long, frame, first, low]
      · simp only [long, frame, first, down, low, if_false]
        grind
    have taken : s.line.sending = none ∨ s.letGo.dozeReady = false → low < 16 * s.tb →
        exec .startOfFrame s = .next (if s.framingDue then s.risen.framingError else s.risen) := by
      intro awake short
      rw [exec_startOfFrame held awake, State.letGo_undriven undriven, State.holdSettled_of_early (.inr short),
        State.riseJudged_data frame]
    refine ⟨fun brief => ?_, fun past short free => ?_, fun slot bytes past short sends run => ?_⟩
    · have short : low < 16 * s.tb := by
        by_cases first : s.line.dataBits = 0 <;> simp only [long, first, reduceIte] at brief <;> omega
      have quiet : ¬s.framingDue = true := mt iff.mp brief
      have judged : s.letGo = s.risen := by
        rw [State.letGo_undriven undriven, State.holdSettled_of_early (.inr short), State.riseJudged_data frame, if_neg quiet]
      refine (taken ?_ short).trans (congrArg Host.Outcome.next (if_neg quiet))
      cases sends : s.line.sending with
      | none => exact .inl rfl
      | some x => exact .inr (State.dozeReady_sending (x := x) (by rw [judged]; exact sends))
    · rw [taken (.inl free) short, if_pos (iff.mpr past), State.framingError_free (s := s.risen) free]
      rfl
    · have awake : s.letGo.dozeReady = false := State.dozeReady_run (s.letGo_power.trans run)
      rw [taken (.inr awake) short, if_pos (iff.mpr past), State.framingError_own (s := s.risen) sends,
        if_neg (c := s.risen.line.drive.isSome = true ∧ s.risen.line.othersLow = false) (by simp [State.risen, undriven])]
      rw [← undriven]
      rfl
  · have judged : s.letGo = s.risen := by
      rw [State.letGo_undriven undriven, State.holdSettled_of_early (.inr short)]
      exact State.riseJudged_else (by rcases still with h | h <;> simp [h]) (by rcases still with h | h <;> simp [h])
    exact exec_startOfFrame_ends held judged
  · have judged : s.letGo = s.risen := by
      rw [State.letGo_undriven undriven, State.holdSettled_of_early (.inl off)]
      exact State.riseJudged_else (by simp [off]) (by simp [off])
    exact exec_startOfFrame_ends held judged
  case stuck =>
    obtain ⟨tx, others, rise, records, receiver⟩ := State.letGo_long on held undriven long
    have active : (s.activate .lineStuck).active .lineStuck = true := s.activate_active _
    have others_stand : ∀ k, k ≠ .lineStuck → (s.activate .lineStuck).mon.get k = s.mon.get k :=
      fun k other => s.activate_get_ne _ _ other
    simp only [State.active, Mon.get, ← records] at active others_stand ⊢
    obtain ⟨t, taken, rfl | ⟨standby, rfl⟩⟩ := exec_startOfFrame_cases held
    · exact ⟨_, taken, active, tx, others, rise, fun _ away => receiver.resolve_left away, others_stand⟩
    · refine ⟨_, taken, ?_⟩
      rw [(State.enterDoze_blocks _).2.2.2.2.2, State.enterDoze_line]
      exact ⟨active, tx, others, rise, fun run => absurd (standby.symm.trans run) (by decide), others_stand⟩
  · have judged : s.letGo = { s with line := { s.line with othersLow := false } } := if_pos driven
    exact exec_startOfFrame_ends held judged
  case ticks =>
    intro dt next
    have wide := s.tb_ge
    refine ⟨fun d drives due sample first second => ?_, fun high left time => ?_, fun bits time early => ?_⟩
    · show step s = _
      rw [step_line empty quiet run, Line.tick_release drives due sample first second]
      rfl
    · show step s = _
      rw [step_line empty quiet run, Line.tick_begin sends frame high left time wide]
      rw [Line.beginBit_sending sends]
    · show step s = _
      rw [step_line empty quiet run, Line.tick_sample frame bits time early wide]

end Sys2Proof.Machine
end

section
/-!
A frame received (R163, R165, R166): its checks in their order, the buffer it waits in, and its sender's record (R132, R133).
-/

set_option Elab.async false

namespace Sys2Proof.Machine

/-! ## The checks (R165) -/

theorem judgeFrame_crc {own : Nat} {bytes : List Byte} (differs : crcMatches bytes = false) : judgeFrame own bytes = .crcError :=
  if_pos differs

theorem judgeFrame_station {own : Nat} {bytes : List Byte} (matches_ : crcMatches bytes = true)
    (above : 7 < (bytes.getD 0 0).toNat % 16) : judgeFrame own bytes = .malformed :=
  (if_neg (by simp [matches_])).trans (if_pos above)

theorem Kind.ofCode_none {n : Nat} (out : n ∉ [2, 3, 4, 9, 10, 12]) : Kind.ofCode n = none := by
  unfold Kind.ofCode
  split <;> simp_all

theorem judgeFrame_kind {own : Nat} {bytes : List Byte} (matches_ : crcMatches bytes = true)
    (station : (bytes.getD 0 0).toNat % 16 ≤ 7) (out : (bytes.getD 0 0).toNat / 16 ∉ [2, 3, 4, 9, 10, 12]) :
    judgeFrame own bytes = .unknownKind := by
  refine ((if_neg (by simp [matches_])).trans (if_neg (by omega))).trans ?_
  rw [Kind.ofCode_none out]

/-- The checks that a frame of a known kind comes to. -/
theorem judgeFrame_known {own : Nat} {bytes : List Byte} {k : Kind} (matches_ : crcMatches bytes = true)
    (station : (bytes.getD 0 0).toNat % 16 ≤ 7) (kind : (bytes.getD 0 0).toNat / 16 = k.code) :
    judgeFrame own bytes = if lengthAccepted k ((bytes.drop 2).take (bytes.length - 4)) = false then .malformed
      else if (bytes.getD 0 0).toNat % 16 = own then .clash
      else .valid ⟨k, (bytes.getD 0 0).toNat % 16, (bytes.getD 1 0).toNat / 16, (bytes.drop 2).take (bytes.length - 4)⟩ := by
  refine ((if_neg (by simp [matches_])).trans (if_neg (by omega))).trans ?_
  rw [kind, Kind.ofCode_code]

/-! ## The buffer whose turn it is (R166) -/

theorem Line.turn_x {l : Line} (turn : l.lastBuffer ≠ some .x) : l.turn = .x := by
  unfold Line.turn
  split
  next => rfl
  next b last =>
    cases b with
    | x => exact absurd last turn
    | y => rfl

theorem Line.turn_y {l : Line} (turn : l.lastBuffer = some .x) : l.turn = .y := by
  unfold Line.turn
  rw [turn]
  rfl

/-- What a buffer holds of a valid frame (R166). -/
def heldOf (f : Frame) (now : Time) (early : Bool) : Option Received :=
  if f.kind = .reply ∨ f.kind = .status then none else some ⟨f, now, early⟩

theorem Line.place_x {l : Line} (turn : l.lastBuffer ≠ some .x) (f : Frame) (now : Time) (early : Bool) : l.place f now early
    = { l with bufferX := heldOf f now early, lastBuffer := some .x, received := min 65535 (l.received + 1) } := by
  unfold Line.place heldOf
  rw [Line.turn_x turn]
  cases f.kind <;> rfl

theorem Line.place_y {l : Line} (turn : l.lastBuffer = some .x) (f : Frame) (now : Time) (early : Bool) : l.place f now early
    = { l with bufferY := heldOf f now early, lastBuffer := some .y, received := min 65535 (l.received + 1) } := by
  unfold Line.place heldOf
  rw [Line.turn_y turn]
  cases f.kind <;> rfl

theorem State.takeValid_free {s : State} {l : Line} {f : Frame} (free : s.line.buffer s.line.turn = none)
    (placed : s.line.place f s.now (!s.operating) = l) : s.takeValid f = State.refreshPeer { s with line := l } f := by
  rw [← placed]
  exact if_neg (by simp [free])

theorem State.takeValid_full {s : State} {w : Received} (full : s.line.buffer s.line.turn = some w) (f : Frame) :
    s.takeValid f = { s with line := { s.line with overruns := min 65535 (s.line.overruns + 1) } } := if_pos (by simp [full])

theorem State.refreshPeer_new {s : State} {f : Frame} (unknown : s.shr.peer f.station = none) : s.refreshPeer f = { s with
    shr := { s.shr with peers := insertPeer (.created f s.now) s.shr.peers, created := min 65535 (s.shr.created + 1) } } := by
  unfold State.refreshPeer
  rw [unknown]
  rfl

theorem State.refreshPeer_known {s : State} {f : Frame} {p : Peer} (known : s.shr.peer f.station = some p) : s.refreshPeer f
    = if p.fresh then { s with shr := s.shr.onPeer f.station (·.refreshed f.seq s.now) }
      else State.rechoose { s with shr := s.shr.onPeer f.station (·.refreshed f.seq s.now) } := by
  unfold State.refreshPeer
  rw [known]
  rfl

/-- The bytes sampled of another station's frame, at the sample of its last bit. -/
theorem exec_frameReceived {bytes : List Byte} {s : State} (least : 4 ≤ bytes.length)
    (length : bytes.length = 4 + (bytes.getD 1 0).toNat % 16) (frame : s.line.receiver = .frame)
    (time : elapsed s.now s.line.lastFall = s.tb / 2) (bits : s.line.dataBits = 8 * bytes.length)
    (sampled : s.line.sampled = bitsOf bytes) (free : s.line.sending = none) (whole : s.line.aborting = false) :
    exec (.frameReceived bytes) s = .next (State.received { s with line := s.line.wait } (judgeFrame s.own bytes)) := by
  refine next_ite_pos ?_
  have now : s.sampledNow = true := by
    unfold State.sampledNow
    rw [sampled, bitsOf_length, bits]
    have at_sample : s.line.atSample s.now s.tb = true := decide_eq_true ⟨frame, by omega, time⟩
    rw [at_sample]
    exact decide_eq_true rfl
  have complete : frameComplete bytes = true := decide_eq_true ⟨by omega, length⟩
  simp [State.receives, now, free, whole, complete, sampled]

/-- Settles O46. -/
theorem frameReceivedIsJudged : Obligations.FrameReceivedIsJudged := by
  unfold Obligations.FrameReceivedIsJudged
  intro bytes s least length frame time bits sampled free whole kind station seq payload l
  have taken := exec_frameReceived least length frame time bits sampled free whole
  refine ⟨fun differs => ?_, fun matches_ above => ?_, fun matches_ known out => ?_, fun k matches_ known code => ?_⟩
  · rw [taken, judgeFrame_crc differs]
    rfl
  · rw [taken, judgeFrame_station matches_ above]
    rfl
  · rw [taken, judgeFrame_kind matches_ known out]
    rfl
  · intro accepted
    have code' : (bytes.getD 0 0).toNat / 16 = k.code := by cases k <;> exact code
    have judged := judgeFrame_known (own := s.own) matches_ known code'
    have iff : lengthAccepted k payload = true ↔ accepted := by
      have size : payload.length ≤ 15 := by
        simp only [payload, List.length_take, List.length_drop]
        omega
      cases k with
      | demand => simp [lengthAccepted, accepted]
      | sync => simp [lengthAccepted, accepted]
      | share => simp [lengthAccepted, accepted, pressureFlag]
      | request => simp [lengthAccepted, accepted, size]
      | reply => simp [lengthAccepted, accepted, size]
      | status => simp [lengthAccepted, accepted]
    refine ⟨fun refused => ?_, fun fits own => ?_, fun fits other => ?_⟩
    · rw [taken, judged, if_pos (by simpa using mt iff.mp refused)]
      rfl
    · rw [taken, judged, if_neg (by simpa using iff.mpr fits), if_pos own]
      rfl
    · intro f held
      rw [if_neg (by simpa using iff.mpr fits), if_neg other] at judged
      have judged : judgeFrame s.own bytes = .valid f := judged
      rw [judged] at taken
      replace taken : exec (.frameReceived bytes) s = .next (State.takeValid { s with line := l } f) := taken
      refine ⟨fun placed place => ?_, fun w full => ?_⟩
      · have at_turn : State.takeValid { s with line := l } f = State.refreshPeer { s with line := placed } f := by
          rcases place with ⟨turn, empty, rfl⟩ | ⟨turn, empty, rfl⟩
          · have vacant : l.buffer l.turn = none := by
              rw [Line.turn_x (l := l) turn]
              exact empty
            exact State.takeValid_free (s := { s with line := l }) vacant (Line.place_x (l := l) turn f s.now !s.operating)
          · have vacant : l.buffer l.turn = none := by
              rw [Line.turn_y (l := l) turn]
              exact empty
            exact State.takeValid_free (s := { s with line := l }) vacant (Line.place_y (l := l) turn f s.now !s.operating)
        rw [at_turn] at taken
        refine ⟨fun unknown => ?_, fun p peer => ?_⟩
        · rw [taken, State.refreshPeer_new (s := { s with line := placed }) unknown]
          rfl
        · intro t
          have refreshed := State.refreshPeer_known (s := { s with line := placed }) (f := f) peer
          refine ⟨fun fresh => ?_, fun stale => ⟨?_, fun on => State.rechoose_chosen on⟩⟩
          · rw [taken, refreshed, if_pos fresh]
            rfl
          · rw [taken, refreshed, if_neg (by simp [stale])]
            rfl
      · rw [taken]
        refine congrArg Host.Outcome.next (State.takeValid_full (w := w) ?_ f)
        rcases full with ⟨turn, full⟩ | ⟨turn, full⟩
        · show l.buffer l.turn = some w
          rw [Line.turn_y (l := l) turn]
          exact full
        · show l.buffer l.turn = some w
          rw [Line.turn_x (l := l) turn]
          exact full

end Sys2Proof.Machine
end

section
/-!
The start of a transmission (R160, R168): the frame each owner composes for its slot (R37, R129, R162, R177, R186).
-/

set_option Elab.async false

namespace Sys2Proof.Machine

/-! ## What the owners compose -/

theorem halfWord_eq (n : Nat) : halfWord n = [BitVec.ofNat 8 (n / 256), BitVec.ofNat 8 n] := by
  have high : (BitVec.ofNat 16 n).extractLsb' 8 8 = BitVec.ofNat 8 (n / 256) := by
    refine BitVec.eq_of_toNat_eq ?_
    simp only [BitVec.extractLsb'_toNat, BitVec.toNat_ofNat, Nat.shiftRight_eq_div_pow]
    omega
  have low : (BitVec.ofNat 16 n).extractLsb' 0 8 = BitVec.ofNat 8 n := by
    refine BitVec.eq_of_toNat_eq ?_
    simp only [BitVec.extractLsb'_toNat, BitVec.toNat_ofNat, Nat.shiftRight_zero]
    omega
  unfold halfWord bytes16
  rw [high, low]

theorem State.syncPayload_of {s : State} {h : Half} (decided : s.trk.half = some h) : s.syncPayload
    = [byteOf (halfCode h), if s.active (.camSignal .i) then 1 else 0]
      ++ [BitVec.ofNat 8 (s.trk.rpm / 256), BitVec.ofNat 8 s.trk.rpm] := by
  unfold State.syncPayload State.syncHalf
  rw [decided, halfWord_eq]
  rfl

theorem CamState.moving_iff (k : CamState) : k.moving = true ↔ k = .parking ∨ k = .release ∨ k = .follow := by cases k <;> decide

/-- The bit of the flags that says that a cam moves under drive (R129). -/
def State.movingBit (s : State) (c : Cam) : Nat :=
  if (s.camOf c).state = .parking ∨ (s.camOf c).state = .release ∨ (s.camOf c).state = .follow then 1 else 0

theorem State.shareFlags_eq (s : State) :
    s.shareFlags = BitVec.ofNat 8 ((if s.ownPressure.isSome then 128 else 0) + 2 * s.movingBit .e + s.movingBit .i) := by
  unfold State.shareFlags State.movingBit
  simp only [CamState.moving_iff]
  have doubled : ∀ p : Prop, [Decidable p] → (if p then 2 else 0) = 2 * if p then 1 else 0 := by
    intro p _
    split <;> rfl
  rw [doubled]
  rfl

theorem State.sharePayload_eq (s : State) : s.sharePayload = halfWord s.shr.stationDemand ++ halfWord s.shr.stationGrant
    ++ halfWord s.shr.fAvail ++ s.ownPressure.elim [BitVec.ofNat 8 (2 * s.movingBit .e + s.movingBit .i)]
      fun p => [BitVec.ofNat 8 (128 + 2 * s.movingBit .e + s.movingBit .i)] ++ halfWord p := by
  unfold State.sharePayload
  rw [State.shareFlags_eq]
  cases s.ownPressure with
  | none => simp
  | some p => simp

theorem Mon.others_eq (m : Mon) : m.others
    = ((List.finRange 20).filter (fun k => (m.records.get k).active || (m.records.get k).pending)).length - 1 := by
  unfold Mon.others
  rw [Mon.records_toList, List.filter_map, List.length_map]
  rfl

theorem State.replyPayload_of {s : State} {r : Reply} (record : s.service.reply = some r) :
    s.replyPayload = [byteOf r.requester, r.code, byteOf r.result.code] ++ r.data := by
  unfold State.replyPayload
  rw [record]

theorem Power.byteOf_code (p : Power) : byteOf p.code = if p = .run then 2 else 1 := by cases p <;> rfl

/-- A frame composed for a slot, with its header and its CRC (R162). -/
theorem State.compose_bytes {s : State} {slot : Slot} {payload : List Byte} (composed : s.payloadOf slot = payload) :
    (s.compose slot).bytes = withCrc ([BitVec.ofNat 8 (slot.kind.code * 16 + s.own),
      BitVec.ofNat 8 (s.line.seq * 16 + payload.length)] ++ payload) := by
  rw [← composed]
  rfl

/-! ## The start (R168) -/

/-- The line as a transmission starts from a slot. -/
def Line.started (l : Line) (now : Time) (tb : Nat) (slot : Slot) (bytes : List Byte) : Line :=
  { l with
    slots := l.slots.set slot false, sending := some ⟨slot, bytes⟩, drive := some ⟨now, 6 * (tb / 4)⟩, receiver := .frame
    lastFall := now, dataBits := 0, sampled := [] }

theorem exec_transmitStart {s : State} {slot : Slot} (active : s.line.life = .active) (enabled : s.line.txEnabled = true)
    (idle : s.line.receiver = .idle) (first : s.line.slots.first = some slot) : exec .transmitStart s
      = .next (State.noteComposed { s with line := s.line.started s.now s.tb slot (s.compose slot).bytes } slot) := by
  have transmits : s.transmits = some slot := State.transmits_eq_some.mpr ⟨⟨active, enabled, idle⟩, first⟩
  show Host.Outcome.next (match s.transmits with
    | some k => s.startTransmission k
    | none => s) = _
  rw [transmits]
  rfl

/-- Settles O47. -/
theorem transmitStartComposesTheFrame : Obligations.TransmitStartComposesTheFrame := by
  unfold Obligations.TransmitStartComposesTheFrame
  intro s active enabled idle frame two cam shown sending
  refine ⟨fun h sync decided => ?_, fun sync share => ?_, fun r sync share reply record => ?_, fun sync share reply status => ?_⟩
  · have first : s.line.slots.first = some .sync := by simp [Slots.first, sync]
    have noted : ∀ l, State.noteComposed { s with line := l } .sync = { s with line := l } := fun l => if_neg (by simp [decided])
    rw [exec_transmitStart active enabled idle first, noted]
    rw [State.compose_bytes (slot := .sync) (State.syncPayload_of decided)]
    cases h <;> rfl
  · have first : s.line.slots.first = some .share := by simp [Slots.first, sync, share]
    intro bit
    have payload := s.sharePayload_eq
    rw [halfWord_eq, halfWord_eq, halfWord_eq] at payload
    rw [exec_transmitStart active enabled idle first, State.compose_bytes (slot := .share) payload]
    cases pressure : s.ownPressure with
    | none => rfl
    | some p =>
      simp only [Option.elim, halfWord_eq]
      rfl
  · have first : s.line.slots.first = some .reply := by simp [Slots.first, sync, share, reply]
    rw [exec_transmitStart active enabled idle first, State.compose_bytes (slot := .reply) (State.replyPayload_of record)]
    cases r.result <;> rfl
  · have first : s.line.slots.first = some .status := by simp [Slots.first, sync, share, reply, status]
    have payload : s.statusPayload = [if s.pwr.power = .run then 2 else 1, byteOf s.trk.state.code, cam .i, cam .e,
        BitVec.ofNat 8 s.mon.presented, BitVec.ofNat 8 (shown - 1), byteOf (resetCauseCode s.pwr.cause),
        BitVec.ofNat 8 (min 255 (s.trk.rpm / 100))] := by
      have state : ∀ c, byteOf (s.camOf c).state.code = cam c := by
        intro c
        simp only [cam]
        cases (s.camOf c).state <;> rfl
      unfold State.statusPayload
      rw [Mon.others_eq, Power.byteOf_code, state, state]
      rfl
    rw [exec_transmitStart active enabled idle first, State.compose_bytes (slot := .status) payload]
    cases s.trk.state <;> cases s.pwr.cause <;> rfl

end Sys2Proof.Machine
end

section
/-!
The ends of a transmission (R163, R169 to R171, R177, R179, R187), and the 2Tb low of a bit error (R159, R170, R190).
-/

set_option Elab.async false

namespace Sys2Proof.Machine

/-! ## The sample of a bit sent (R159) -/

theorem State.sendingSample_of {s : State} {x : Transmission} (sends : s.line.sending = some x) (frame : s.line.receiver = .frame)
    (bits : 1 ≤ s.line.dataBits) (time : elapsed s.now s.line.lastFall = s.tb / 2)
    (sampled : s.line.sampled.length = s.line.dataBits) : s.sendingSample = some x := by
  have at_sample : s.line.atSample s.now s.tb = true := decide_eq_true ⟨frame, bits, time⟩
  exact State.sendingSample_eq_some.mpr ⟨Bool.and_eq_true_iff.mpr ⟨at_sample, decide_eq_true sampled⟩, sends⟩

theorem Line.lastSample_of {l : Line} {sample : Bool} (last : l.sampled.getLast? = some sample) : l.lastSample = sample := by
  rw [Line.lastSample, List.getLastD_eq_getLast?, last, Option.getD_some]

theorem Transmission.bit_of {x : Transmission} {k : Nat} {bit : Bool} (sent : (bitsOf x.bytes)[k - 1]? = some bit) :
    x.bit k = bit := by
  rw [Transmission.bit, List.getD_eq_getElem?_getD, sent, Option.getD_some]

/-- A bit of a frame has its place in the frame's bytes. -/
theorem bitsOf_place {bytes : List Byte} {k : Nat} {bit : Bool} (first : 1 ≤ k) (sent : (bitsOf bytes)[k - 1]? = some bit) :
    k ≤ 8 * bytes.length := by
  have place := (List.getElem?_eq_some_iff.mp sent).1
  rw [bitsOf_length] at place
  omega

/-! ## The three ends (R169, R170, R171) -/

/-- A lost arbitration, with what the owner does. -/
theorem State.loseArbitration_eq (s : State) (slot : Slot) (bytes : List Byte) : s.loseArbitration ⟨slot, bytes⟩ = { s with
    line := { s.line with
      sending := none, arbLosses := min 65535 (s.line.arbLosses + 1), slots := s.line.slots.set slot true, drive := none
      aborting := false
      lastRise := if s.line.drive.isSome = true ∧ s.line.othersLow = false then s.now else s.line.lastRise }
    mon := if slot = .status then { s.mon with noted := none } else s.mon
    service := if slot = .reply then { s.service with composed := false } else s.service } := by
  unfold State.loseArbitration
  cases slot <;> simp [State.withLine, State.queue, State.withMon, State.withService, Line.release, satInc, Slots.set]

/-- A bit error: the frame dropped, and the line driven for 2Tb from the bit's edge. -/
theorem State.bitError_eq {s : State} {slot : Slot} {bytes : List Byte} (sends : s.line.sending = some ⟨slot, bytes⟩) :
    s.bitError = { s with
      line := { s.line with
        sending := none, txFailures := min 65535 (s.line.txFailures + 1), aborting := true
        drive := some ⟨s.line.lastFall, 2 * s.tb⟩ }
      mon := if slot = .status then { s.mon with noted := none } else s.mon
      service := if slot = .reply ∧ s.service.composed = true then {} else s.service } := by
  unfold State.bitError
  rw [State.dropOwnFrame_eq sends]
  rfl

/-- The line as a transmission completes. -/
def Line.completed (l : Line) : Line :=
  { l with
    sending := none, seq := (l.seq + 1) % 16, sent := min 65535 (l.sent + 1), receiver := .waitIdle, dataBits := 0, sampled := [] }

theorem State.completeTransmission_eq (s : State) (slot : Slot) (bytes : List Byte) :
    s.completeTransmission ⟨slot, bytes⟩ = State.ownerTold { s with line := s.line.completed } slot := rfl

/-- A STATUS frame that noted no record clears none. -/
theorem State.statusCompleted_kept {s : State} (unnoted : ∀ k : Fin 20, s.mon.noted ≠ some (k.val + 1)) :
    s.statusCompleted = { s with mon := { s.mon with noted := none } } := by
  unfold State.statusCompleted
  split
  next n noted =>
    refine dif_neg fun within => unnoted ⟨n, within⟩ noted
  next => rfl

/-- The completed STATUS frame clears the pending flag of the record it noted (R179). -/
theorem State.statusCompleted_clears {s : State} {k : Fin 20} (noted : s.mon.noted = some (k.val + 1)) :
    s.statusCompleted = State.changeMon { s with mon := { s.mon with noted := none } }
      (fun m => { m with records := m.records.set k.val { m.records.get k with pending := false } }) := by
  unfold State.statusCompleted
  rw [noted]
  exact dif_pos k.isLt

theorem State.statusCompleted_records (s : State) (k : Fin 20) : s.statusCompleted.mon.records.get k
    = if s.mon.noted = some (k.val + 1) then { s.mon.records.get k with pending := false } else s.mon.records.get k := by
  by_cases unnoted : ∀ j : Fin 20, s.mon.noted ≠ some (j.val + 1)
  · rw [State.statusCompleted_kept unnoted, if_neg (unnoted k)]
  · obtain ⟨j, noted⟩ : ∃ j : Fin 20, s.mon.noted = some (j.val + 1) := by simpa using unnoted
    rw [State.statusCompleted_clears noted, State.changeMon_mon]
    by_cases same : j = k
    · subst same
      rw [if_pos noted]
      exact Vector.getElem_set_self _
    · rw [if_neg (by simpa [noted, Fin.ext_iff] using same)]
      exact Vector.getElem_set_ne j.isLt k.isLt fun e => same (Fin.ext e)

theorem State.statusCompleted_eq (s : State) : s.statusCompleted = { s with
    mon := s.statusCompleted.mon, line := { s.line with slots := s.statusCompleted.line.slots } } := by
  refine State.eq_of_blocks (line := ?_)
  by_cases unnoted : ∀ j : Fin 20, s.mon.noted ≠ some (j.val + 1)
  · rw [State.statusCompleted_kept unnoted]
  · obtain ⟨j, noted⟩ : ∃ j : Fin 20, s.mon.noted = some (j.val + 1) := by simpa using unnoted
    rw [State.statusCompleted_clears noted, State.changeMon_line]
    split <;> rfl

/-- An owner told of a completion leaves of the line all but the slots. -/
theorem State.ownerTold_line (s : State) (slot : Slot) :
    (s.ownerTold slot).line = { s.line with slots := (s.ownerTold slot).line.slots } := by
  cases slot with
  | status => exact (congrArg State.line s.statusCompleted_eq :)
  | sync => rfl
  | share => rfl
  | reply => rfl

/-- What the owner of each slot does at the completion of its frame (R171, R179, R187). -/
theorem State.ownerTold_told (s : State) (slot : Slot) :
    (slot = .reply → (s.ownerTold slot).service = if s.service.composed then {} else s.service)
    ∧ (slot ≠ .reply → (s.ownerTold slot).service = s.service)
    ∧ (slot ≠ .status → (s.ownerTold slot).mon = s.mon ∧ (s.ownerTold slot).line.slots = s.line.slots)
    ∧ (slot = .status → ∀ k : Fin 20, (s.ownerTold slot).mon.records.get k
      = if s.mon.noted = some (k.val + 1) then { s.mon.records.get k with pending := false } else s.mon.records.get k) := by
  cases slot with
  | status =>
    refine ⟨nofun, fun _ => ?_, fun other => absurd rfl other, fun _ => s.statusCompleted_records⟩
    exact (congrArg State.service s.statusCompleted_eq :)
  | sync => exact ⟨nofun, fun _ => rfl, fun _ => ⟨rfl, rfl⟩, nofun⟩
  | share => exact ⟨nofun, fun _ => rfl, fun _ => ⟨rfl, rfl⟩, nofun⟩
  | reply => exact ⟨fun _ => rfl, fun other => absurd rfl other, fun _ => ⟨rfl, rfl⟩, nofun⟩

theorem exec_arbitrationLoss {s : State} {x : Transmission} (lost : s.arbitrationLost = some x) :
    exec .arbitrationLoss s = .next (s.loseArbitration x).dozeCheck := by
  show Host.Outcome.next (match s.arbitrationLost with
    | some x => (s.loseArbitration x).dozeCheck
    | none => s) = _
  rw [lost]

theorem exec_arbitrationLoss_none {s : State} (kept : s.arbitrationLost = none) : exec .arbitrationLoss s = .next s := by
  show Host.Outcome.next (match s.arbitrationLost with
    | some x => (s.loseArbitration x).dozeCheck
    | none => s) = _
  rw [kept]

theorem exec_transmitComplete {s : State} {x : Transmission} (complete : s.lastBit = some x) :
    exec .transmitComplete s = .next (s.completeTransmission x).dozeCheck := by
  show Host.Outcome.next (match s.lastBit with
    | some x => (s.completeTransmission x).dozeCheck
    | none => s) = _
  rw [complete]

theorem exec_transmitComplete_none {s : State} (unfinished : s.lastBit = none) : exec .transmitComplete s = .next s := by
  show Host.Outcome.next (match s.lastBit with
    | some x => (s.completeTransmission x).dozeCheck
    | none => s) = _
  rw [unfinished]

/-! ## The 2Tb low of a bit error (R170) -/

/-- A tick within the low, off the sample of its bit or with the frame left, changes nothing of the line. -/
theorem Line.tick_low {l : Line} {now : Time} {tb : Nat} (free : l.sending = none) (drives : l.drive = some ⟨l.lastFall, 2 * tb⟩)
    (early : elapsed now l.lastFall < 2 * tb) (off_sample : l.receiver = .waitIdle ∨ elapsed now l.lastFall ≠ tb / 2) :
    l.tick now tb = l := by
  have still : l.releaseDue now = l := Line.releaseDue_early (by simp [dueAt, drives, early])
  have unsent : l.driveNext now tb = l := by
    unfold Line.driveNext
    rw [free]
  unfold Line.tick
  rw [still, unsent]
  rcases off_sample with wait | other
  · exact if_neg (by simp [Line.atSample, wait])
  · exact Line.sample_other other

/-- The end of the low. -/
theorem Line.tick_rise {l : Line} {now : Time} {tb : Nat} (free : l.sending = none) (drives : l.drive = some ⟨l.lastFall, 2 * tb⟩)
    (late : 2 * tb ≤ elapsed now l.lastFall) (wide : 8 ≤ tb) : l.tick now tb = l.undriven now := by
  have free' : (l.undriven now).sending = none := free
  have off_sample : elapsed now (l.undriven now).lastFall ≠ tb / 2 := by
    show elapsed now l.lastFall ≠ tb / 2
    omega
  have unsent : (l.undriven now).driveNext now tb = l.undriven now := by
    unfold Line.driveNext
    rw [free']
  unfold Line.tick
  rw [Line.releaseDue_due drives late, unsent, Line.sample_other off_sample]

theorem State.tick_within {s t : State} (aborts : s.line.aborting = true) (clock : s.clockTick = t)
    (aborts' : t.line.aborting = true) : s.tick = t := by
  unfold State.tick
  rw [clock]
  exact if_neg (by simp [aborts, aborts'])

theorem State.tick_rises {s t : State} (aborts : s.line.aborting = true) (clock : s.clockTick = t)
    (ended : t.line.aborting = false) : s.tick = t.dozeCheck := by
  unfold State.tick
  rw [clock]
  exact if_pos (by simp [aborts, ended])

/-- Settles O48. -/
theorem transmissionsEnd : Obligations.TransmissionsEnd := by
  unfold Obligations.TransmissionsEnd
  refine ⟨fun s slot bytes sample bit sends frame bits time counted last sent => ?ends, fun s aborts free drives => ⟨fun frame bits => ?low,
    fun empty quiet awake => ?ticks⟩⟩
  case ends =>
    have now := State.sendingSample_of sends frame bits time counted
    have seen := Line.lastSample_of last
    have bit_sent : Transmission.bit ⟨slot, bytes⟩ s.line.dataBits = bit := Transmission.bit_of (x := ⟨slot, bytes⟩) sent
    have place := bitsOf_place bits sent
    refine ⟨fun run byte1 one zero => ?_, fun other => ?_, fun byte2 differs => ?_, fun other => ?_, fun run all same => ?_,
      fun other => ?_⟩
    · have lost : s.arbitrationLost = some ⟨slot, bytes⟩ :=
        State.arbitrationLost_eq_some.mpr ⟨now, byte1, bit_sent.trans one, seen.trans zero⟩
      have run' : (s.loseArbitration ⟨slot, bytes⟩).pwr.power = .run := by
        rw [State.loseArbitration_eq]
        exact run
      rw [exec_arbitrationLoss lost, State.dozeCheck_run run', State.loseArbitration_eq]
    · refine exec_arbitrationLoss_none (Option.eq_none_iff_forall_ne_some.mpr fun x lost => ?_)
      obtain ⟨is, byte1, one, zero⟩ := State.arbitrationLost_eq_some.mp lost
      obtain rfl := Option.some.inj (now.symm.trans is)
      rw [bit_sent] at one
      rw [seen] at zero
      rcases other with later | recessive | high
      · omega
      · exact absurd (one.symm.trans recessive) (by decide)
      · exact absurd (zero.symm.trans high) (by decide)
    · have taken : exec .bitError s = .next s.bitError :=
        next_ite_pos (State.bitErrorSampled_iff.mpr ⟨_, now, byte2, place, by rwa [seen, bit_sent]⟩)
      rw [taken, State.bitError_eq sends]
    · refine next_ite_neg fun sampled => ?_
      obtain ⟨x, is, byte2, -, differs⟩ := State.bitErrorSampled_iff.mp sampled
      obtain rfl := Option.some.inj (now.symm.trans is)
      rw [seen, bit_sent] at differs
      rcases other with early | same
      · omega
      · exact differs same
    · have complete : s.lastBit = some ⟨slot, bytes⟩ :=
        State.lastBit_eq_some.mpr ⟨now, all, seen.trans (same.trans bit_sent.symm)⟩
      obtain ⟨u, told⟩ : ∃ u : State, u = { s with line := s.line.completed } := ⟨_, rfl⟩
      have completed : s.completeTransmission ⟨slot, bytes⟩ = u.ownerTold slot := by rw [State.completeTransmission_eq, told]
      have run' : (u.ownerTold slot).pwr.power = .run := by
        rw [told]
        simpa using run
      have taken : exec .transmitComplete s = .next (u.ownerTold slot) := by
        rw [exec_transmitComplete complete, completed, State.dozeCheck_run run']
      have line := u.ownerTold_line slot
      obtain ⟨replied, unreplied, unnoted, noted⟩ := u.ownerTold_told slot
      have rest : u.ownerTold slot = { u with
          line := (u.ownerTold slot).line, mon := (u.ownerTold slot).mon, service := (u.ownerTold slot).service } :=
        State.eq_of_blocks
      generalize u.ownerTold slot = t at taken line replied unreplied unnoted noted rest
      subst told
      exact ⟨t, taken, (congrArg Line.sending line :), (congrArg Line.seq line :), (congrArg Line.sent line :),
        (congrArg Line.receiver line :), (congrArg Line.drive line :), (congrArg Line.lastRise line :), replied, unreplied, unnoted,
        noted, rest⟩
    · refine exec_transmitComplete_none (Option.eq_none_iff_forall_ne_some.mpr fun x complete => ?_)
      obtain ⟨is, all, same⟩ := State.lastBit_eq_some.mp complete
      obtain rfl := Option.some.inj (now.symm.trans is)
      rw [seen, bit_sent] at same
      rcases other with more | differs
      · exact absurd all (Nat.ne_of_lt more)
      · exact differs same
  case low =>
    have down : s.line.low = true := by simp [Line.low, drives]
    refine ⟨fun early => next_ite_neg fun due => ?_, fun past => ?_, fun bytes => next_ite_neg fun receives => ?_⟩
    · rcases s.framingDue_iff.mp due with ⟨start, -⟩ | ⟨-, first, -⟩ | ⟨-, -, late | ⟨-, late⟩⟩
      · exact absurd (frame.symm.trans start) (by decide)
      · omega
      · omega
      · omega
    · have due : s.framingDue = true := s.framingDue_iff.mpr (.inr (.inr ⟨frame, by omega, .inr ⟨down, past⟩⟩))
      have awake : s.framingError.dozeReady = false := by
        rw [State.framingError_free free]
        simp [State.dozeReady, Line.failed, aborts]
      refine (next_ite_pos due).trans ?_
      rw [State.dozeCheck_of_awake awake, State.framingError_free free]
      rfl
    · exact absurd ((State.receives_frame receives).2.2.symm.trans aborts) (by decide)
  case ticks =>
    intro dt l
    have wide := s.tb_ge
    have clock := State.clockTick_awake awake
    refine ⟨fun early off_sample => ?_, fun late stays => ?_, fun late standby mark clean => ?_⟩
    · rw [step_idle empty quiet]
      rw [Line.tick_low free drives early off_sample] at clock
      exact congrArg Host.Outcome.next (State.tick_within aborts clock aborts)
    · rw [step_idle empty quiet]
      rw [Line.tick_rise free drives late wide] at clock
      refine congrArg Host.Outcome.next ((State.tick_rises aborts clock rfl).trans (State.dozeCheck_of_awake ?_))
      rcases stays with run | unmarked | dirty
      · exact State.dozeReady_run run
      · simp [State.dozeReady, unmarked]
      · simp [State.dozeReady, dirty]
    · rw [Line.tick_rise free drives late wide] at clock
      have ready : State.dozeReady { s with now := s.now + 1, line := s.line.undriven (s.now + 1) } = true :=
        (State.dozeReady_iff _).mpr ⟨standby, mark, clean, free, rfl⟩
      refine ⟨_, (step_idle empty quiet).trans (congrArg Host.Outcome.next
        ((State.tick_rises aborts clock rfl).trans (if_pos ready))), (State.enterDoze_blocks _).1, by simp, by simp [State.enterDoze], ?_,
        by simp, by simp, by simp, by simp, by simp⟩
      rw [State.enterDoze_line]
      simp [Line.dozed, Line.undriven, free, l]

end Sys2Proof.Machine
end
